-- ==== Sys2Proof/Word.lean ====
section
/-! DEFINITION. The byte of the BZ4612's links and store. -/

namespace Sys2Proof

/-- A byte, on a link (R209) or in the store (R42). -/
abbrev Byte := BitVec 8

/-- A run of bytes, first byte first: a payload, a frame, a chunk of an image. -/
abbrev Bytes := List Byte

end Sys2Proof
end

