-- ==== Sys2Proof/Config.lean ====
section
/-! DEFINITION. The capacities and windows the manual fixes, and the free values of the model. -/

namespace Sys2Proof

/-- Layout records of the Layout Table (R1). -/
abbrev Config.layouts : Nat := 64
/-- Class records of the Class Table (R17). -/
abbrev Config.classes : Nat := 512
/-- Subject records of the Subject Pool (R19). -/
abbrev Config.poolRecords : Nat := 32768
/-- The longest roster (R21). -/
abbrev Config.rosterMax : Nat := 256
/-- Clusters of the store (R42). -/
abbrev Config.clusters : Nat := 131072
/-- Bytes of a cluster (R42). -/
abbrev Config.clusterBytes : Nat := 65536
/-- 64-bit words of a cluster (R178). -/
abbrev Config.clusterWords : Nat := 8192
/-- Entries of the Portrait Directory (R53). -/
abbrev Config.handles : Nat := 16384
/-- Glyph code of the break mark (R131). -/
abbrev Config.breakMark : Nat := 4095
/-- Advance of a missing glyph (R131, R140). -/
abbrev Config.missingAdvance : Nat := 16
/-- Jobs of one channel's list (R152). -/
abbrev Config.jobMax : Nat := 4
/-- Credits a channel can hold (R160). -/
abbrev Config.creditMax : Nat := 8
/-- Clusters the rescrub list can hold (R179). -/
abbrev Config.rescrubMax : Nat := 8
/-- Where the correction counter saturates (R176). -/
abbrev Config.correctionMax : Nat := 65535
/-- Largest frame payload (R193). -/
abbrev Config.payloadMax : Nat := 4096
/-- Waiting replies and notices above this drop arriving frames (R193). -/
abbrev Config.backlogMax : Nat := 16384
/-- Most pixels of a Row Data frame (R162). -/
abbrev Config.rowPixels : Nat := 1360
/-- Window of a port's silence timer, in ms (R191). -/
abbrev Config.silenceMs : Nat := 100
/-- Window of a slot's idle timer, in ms (R78). -/
abbrev Config.idleMs : Nat := 2000
/-- Period of the scrub timer, in ms (R177). -/
abbrev Config.scrubMs : Nat := 200

/-- What the check bits of a word say when they do not read clean (R173): the syndrome names one of the 72 bits of
word and check bits (0 to 63 the word's, 64 to 71 the check bits'), or it names none. -/
inductive WordFault where
  /-- The syndrome names this bit: a read returns the word with it inverted. -/
  | correctable (bit : Fin 72)
  /-- Any other nonzero syndrome: a read returns the word as held, marked uncorrectable. -/
  | uncorrectable (syndrome : BitVec 8)
  deriving DecidableEq, Repr

/-- A change of one word of the DRAM by itself: the word's number in the store and the bits that flip, 0 to 63 the
word's, 64 to 71 its check bits. -/
structure Upset where
  word : Nat
  flipped : BitVec 72
  deriving DecidableEq, Repr, Inhabited

/-- FREE VALUE (log 3): the words of the DRAM that change by themselves in each idle millisecond. The manual says that
bits flip over time and not when or which; nothing constrains this. -/
opaque Config.upsets : Nat → List Upset

/-- FREE VALUE (log 31): the syndrome of a word with two wrong bits. The manual says that it is nonzero and names no bit,
and leaves its value to a check-bit code it does not state (R173). -/
opaque Config.doubleSyndrome : BitVec 72 → BitVec 8

/-- FREE VALUE (log 31): how a word with three wrong bits or more reads, which the check-bit code decides and the manual
does not state (R173). -/
opaque Config.manyErrors : BitVec 72 → Option WordFault

end Sys2Proof
end

