-- ==== Sys2Proof/Syntax.lean ====
section
/-! DEFINITION. The ports of the part, its orders, and its commands: one constructor of `Instr` for each row of
spec/opcode_table.json, in the table's order. -/

namespace Sys2Proof

/-- The six ports (R190): L, I and P0 to P3. -/
inductive Port where
  /-- Port L, the prepress server. -/
  | l
  /-- Port I, the capture and retouch station. -/
  | i
  /-- Port Pk, press controller k. -/
  | p (k : Fin 4)
  deriving DecidableEq, Repr

/-- The orders of the part (R213). -/
inductive Order where
  /-- Define Layout (R5). -/
  | defineLayout
  /-- Delete Layout (R10). -/
  | deleteLayout
  /-- Query Layout (R15). -/
  | queryLayout
  /-- Open Class (R22). -/
  | openClass
  /-- Add Subject (R24). -/
  | addSubject
  /-- Update Subject (R25). -/
  | updateSubject
  /-- Remove Subject (R26). -/
  | removeSubject
  /-- Set Title (R27). -/
  | setTitle
  /-- Rebind Class (R29). -/
  | rebindClass
  /-- Withdraw Rebind (R33). -/
  | withdrawRebind
  /-- Freeze Class (R34). -/
  | freezeClass
  /-- Delete Class (R36). -/
  | deleteClass
  /-- Query Class (R38). -/
  | queryClass
  /-- Begin Upload (R72). -/
  | beginUpload
  /-- Put Pixels (R75). -/
  | putPixels
  /-- End Upload (R79). -/
  | endUpload
  /-- Cancel Upload (R82). -/
  | cancelUpload
  /-- Delete Portrait (R64). -/
  | deletePortrait
  /-- Query Portrait (R65). -/
  | queryPortrait
  /-- Query Store (R189). -/
  | queryStore
  /-- Open Glyph Window (R134). -/
  | openGlyphWindow
  /-- Close Glyph Window (R136). -/
  | closeGlyphWindow
  /-- Load Glyph (R137). -/
  | loadGlyph
  /-- Query Glyph (R139). -/
  | queryGlyph
  /-- Configure Channel (R150). -/
  | configureChannel
  /-- Enable Channel (R151). -/
  | enableChannel
  /-- Disable Channel (R151). -/
  | disableChannel
  /-- Queue Page (R153). -/
  | queuePage
  /-- Cancel Page (R154). -/
  | cancelPage
  /-- Sheet Ready (R155). -/
  | sheetReady
  /-- Start (R155). -/
  | start
  /-- Grant Bands (R160). -/
  | grantBands
  /-- Abort Page (R166). -/
  | abortPage
  /-- Channel Reset (R168). -/
  | channelReset
  /-- Query Channel (R171). -/
  | queryChannel
  /-- Clear Error Log (R188). -/
  | clearErrorLog
  /-- Hall Clear (R205). -/
  | hallClear
  /-- Query Link (R201). -/
  | queryLink
  deriving DecidableEq, Repr

/-- The commands of the part. An order carries the port its frame arrives on, the frame's tag and the frame's payload
(R195, R209); its message code is the constructor. An event carries the port, slot or channel it belongs to. -/
inductive Instr where
  /-- PORST_ASSERTED (R207). Assertion of the power-on reset line discards every waiting frame and all state of the part, which takes its power-on values. -/
  | porstAsserted
  /-- PORST_RELEASED (R174). Release of PORST takes the power-on values, leaves every link DOWN and begins the store initialisation. -/
  | porstReleased
  /-- STORE_INITIALISATION_END (R174). The SC writes the last word of the store; from then orders reach their blocks and the scrub timer starts. -/
  | storeInitialisationEnd
  /-- LINK_UP (R191). Training of a port's link completes; the link goes UP and its silence timer starts. -/
  | linkUp (port : Port)
  /-- IDLE_FILL (R191). Line idle fill arrives on an UP link and restarts the port's silence timer. -/
  | idleFill (port : Port)
  /-- SILENCE_TIMER_EXPIRY (R191). A port's silence timer runs a full 100 ms without an arrival and the link goes DOWN. -/
  | silenceTimerExpiry (port : Port)
  /-- LINE_LOSS (R191). The physical layer reports the loss of the line and the link goes DOWN. -/
  | lineLoss (port : Port)
  /-- FRAME_DROPPED (R193). An arriving frame fails the frame check; it is dropped, the port's frame-fault flag is set and nothing is sent in answer. -/
  | frameDropped (port : Port) (frame : Bytes)
  /-- FRAME_DEPARTURE (R197). A frame waiting for a port leaves on its UP link in production order, freeing room in the port's queue. -/
  | frameDeparture (port : Port)
  /-- UNKNOWN_ORDER (R195). An order whose message code names no order of the part is answered UNKNOWN_ORDER. -/
  | unknownOrder (port : Port) (tag : Byte) (code : BitVec 16) (payload : Bytes)
  /-- DEFINE_LAYOUT (R5). Defines a layout record after the field check, ratio clamp, geometry check and binding check. -/
  | defineLayout (port : Port) (tag : Byte) (payload : Bytes)
  /-- DELETE_LAYOUT (R10). Makes an unbound DEFINED layout record EMPTY. -/
  | deleteLayout (port : Port) (tag : Byte) (payload : Bytes)
  /-- QUERY_LAYOUT (R15). Returns a layout's state, binding count, stored fields, cell size and readiness. -/
  | queryLayout (port : Port) (tag : Byte) (payload : Bytes)
  /-- OPEN_CLASS (R22). Opens an EMPTY class on a DEFINED layout through a bind request. -/
  | openClass (port : Port) (tag : Byte) (payload : Bytes)
  /-- ADD_SUBJECT (R24). Takes a free pool record and inserts a subject record into an OPEN class's roster in roster order. -/
  | addSubject (port : Port) (tag : Byte) (payload : Bytes)
  /-- UPDATE_SUBJECT (R25). Rewrites the role, sort key, caption and portrait reference of a subject record and moves it to its new position. -/
  | updateSubject (port : Port) (tag : Byte) (payload : Bytes)
  /-- REMOVE_SUBJECT (R26). Removes a subject record from an OPEN class's roster and returns it to the pool. -/
  | removeSubject (port : Port) (tag : Byte) (payload : Bytes)
  /-- SET_TITLE (R27). Replaces the title of an OPEN class. -/
  | setTitle (port : Port) (tag : Byte) (payload : Bytes)
  /-- REBIND_CLASS (R29). Sets, replaces or clears a class's pending layout and evaluates the switch condition. -/
  | rebindClass (port : Port) (tag : Byte) (payload : Bytes)
  /-- WITHDRAW_REBIND (R33). Releases and clears an OPEN class's pending layout. -/
  | withdrawRebind (port : Port) (tag : Byte) (payload : Bytes)
  /-- FREEZE_CLASS (R34). Makes an OPEN class FROZEN, withdrawing any pending rebind. -/
  | freezeClass (port : Port) (tag : Byte) (payload : Bytes)
  /-- DELETE_CLASS (R36). Deletes a class with no job in flight, removing its QUEUED jobs, returning its records and releasing its layouts. -/
  | deleteClass (port : Port) (tag : Byte) (payload : Bytes)
  /-- QUERY_CLASS (R38). Returns a class's state, layouts, in-flight count, roster length, title, free pool count and one subject record. -/
  | queryClass (port : Port) (tag : Byte) (payload : Bytes)
  /-- BEGIN_UPLOAD (R72). Judges and opens an upload: clamps the face box, claims the entry, takes an IDLE slot and reserves clusters. -/
  | beginUpload (port : Port) (tag : Byte) (payload : Bytes)
  /-- PUT_PIXELS (R75). Writes an in-order chunk of image bytes into the slot's chain, feeds the CRC and restarts the idle timer. -/
  | putPixels (port : Port) (tag : Byte) (payload : Bytes)
  /-- END_UPLOAD (R79). Ends an upload as INCOMPLETE, CRC_MISMATCH or a hand-over of a sound image. -/
  | endUpload (port : Port) (tag : Byte) (payload : Bytes)
  /-- CANCEL_UPLOAD (R82). Fails an open upload CANCELLED and cleans up its slot. -/
  | cancelUpload (port : Port) (tag : Byte) (payload : Bytes)
  /-- IDLE_TIMER_EXPIRY (R78). An upload slot's 2 s idle timer expires and the upload fails TIMED_OUT. -/
  | idleTimerExpiry (slot : Fin 4)
  /-- DELETE_PORTRAIT (R64). Deletes an unpinned READY or DAMAGED entry, cancelling any REPLACE upload, freeing its chain and raising its generation. -/
  | deletePortrait (port : Port) (tag : Byte) (payload : Bytes)
  /-- QUERY_PORTRAIT (R65). Returns a directory entry's state, generation, pins, open upload, image record and pending replacement. -/
  | queryPortrait (port : Port) (tag : Byte) (payload : Bytes)
  /-- QUERY_STORE (R189). Returns the SC counts and cursors together with the integrity state and the error log. -/
  | queryStore (port : Port) (tag : Byte) (payload : Bytes)
  /-- OPEN_GLYPH_WINDOW (R134). Takes a CLOSED glyph window to OPEN or OPENING depending on the in-flight page count. -/
  | openGlyphWindow (port : Port) (tag : Byte) (payload : Bytes)
  /-- CLOSE_GLYPH_WINDOW (R136). Takes an OPENING or OPEN glyph window to CLOSED. -/
  | closeGlyphWindow (port : Port) (tag : Byte) (payload : Bytes)
  /-- LOAD_GLYPH (R137). Stores a glyph's advance and mask in an OPEN window. -/
  | loadGlyph (port : Port) (tag : Byte) (payload : Bytes)
  /-- QUERY_GLYPH (R139). Returns the window state, in-flight page count, loaded count and the named glyph record. -/
  | queryGlyph (port : Port) (tag : Byte) (payload : Bytes)
  /-- PLANNING_START_STEP (R92). The PLN, once free with an eligible channel, takes the snapshot, decides cell sources, pins handles and raises the in-flight counts of a candidate job. -/
  | planningStartStep
  /-- PLANNING_COMPLETION (R104). The finished plan, with grid, fitting and captions, is handed to the channel and the job becomes PLANNED. -/
  | planningCompletion
  /-- CONFIGURE_CHANNEL (R150). Replaces the six configuration items of an idle channel with an empty list and clears its flag and credits. -/
  | configureChannel (port : Port) (tag : Byte) (payload : Bytes)
  /-- ENABLE_CHANNEL (R151). Enables an OFF channel. -/
  | enableChannel (port : Port) (tag : Byte) (payload : Bytes)
  /-- DISABLE_CHANNEL (R151). Disables an IDLE channel with an empty list, clearing its flag and credits. -/
  | disableChannel (port : Port) (tag : Byte) (payload : Bytes)
  /-- QUEUE_PAGE (R153). Appends a QUEUED job for a non-EMPTY class to the channel's job list. -/
  | queuePage (port : Port) (tag : Byte) (payload : Bytes)
  /-- CANCEL_PAGE (R154). Removes the most recently queued QUEUED job with the given class and page. -/
  | cancelPage (port : Port) (tag : Byte) (payload : Bytes)
  /-- SHEET_READY (R155). Sets the trigger flag of an enabled channel whose source is SHEET. -/
  | sheetReady (port : Port) (tag : Byte) (payload : Bytes)
  /-- START (R155). Sets the trigger flag of the named enabled channel whose source is SOFTWARE or CHAINED. -/
  | start (port : Port) (tag : Byte) (payload : Bytes)
  /-- GRANT_BANDS (R160). Raises an enabled channel's credit count by n, saturating at 8. -/
  | grantBands (port : Port) (tag : Byte) (payload : Bytes)
  /-- ABORT_PAGE (R166). Ends the RENDERING page ABORTED, or sets abort pending when a band is in flight, or resets the last-page record. -/
  | abortPage (port : Port) (tag : Byte) (payload : Bytes)
  /-- CHANNEL_RESET (R168). Cuts the band in flight, aborts the RENDERING page, cancels every other job and clears the channel's credits and flag. -/
  | channelReset (port : Port) (tag : Byte) (payload : Bytes)
  /-- QUERY_CHANNEL (R171). Returns a channel's state, configuration, credits, flag, timer, jobs, plan figures, rendering record and wait. -/
  | queryChannel (port : Port) (tag : Byte) (payload : Bytes)
  /-- ENGINE_GRANT (R161). The engine arbiter gives the free CE to the next requesting channel, consuming a credit and starting a band. -/
  | engineGrant
  /-- ROW_DATA (R162). The CE produces one row of the band in production and hands it to the LIU as Row Data frames. -/
  | rowData
  /-- BAND_END (R163). The last row of a band is handed on; the channel then ends the page, starts the next copy, pauses or requests the engine again. -/
  | bandEnd
  /-- STALL_TIMER_EXPIRY (R167). A channel's stall timer runs a full stall window and the page waited on ends STALLED. -/
  | stallTimerExpiry (channel : Fin 4)
  /-- SCRUB_TIMER_EXPIRY (R177). The 200 ms scrub timer expires and the scrubber makes at most one visit, from the rescrub list or the sweep. -/
  | scrubTimerExpiry
  /-- CLEAR_ERROR_LOG (R188). Empties the error log and clears the overflow flag. -/
  | clearErrorLog (port : Port) (tag : Byte) (payload : Bytes)
  /-- HALL_CLEAR (R205). Resets every channel, cancels every upload, frees every chain and empties the directory, classes, pool and layouts. -/
  | hallClear (port : Port) (tag : Byte) (payload : Bytes)
  /-- QUERY_LINK (R201). Returns every port's link state and frame-fault flag and clears the asking port's flag. -/
  | queryLink (port : Port) (tag : Byte) (payload : Bytes)
  deriving DecidableEq, Repr

end Sys2Proof
end

