-- ==== Sys2Proof/WellFormed.lean ====
section
/-! DEFINITION. Which commands can be spelled by a frame: the message code of each order (R213), and the check that a
command is well formed. -/

namespace Sys2Proof

/-- The message code of an order (R213). -/
def Order.code (o : Order) : BitVec 16 :=
  match o with
  | .defineLayout => 0x0110#16
  | .deleteLayout => 0x0111#16
  | .queryLayout => 0x0412#16
  | .openClass => 0x0120#16
  | .addSubject => 0x0122#16
  | .updateSubject => 0x0123#16
  | .removeSubject => 0x0124#16
  | .setTitle => 0x0125#16
  | .rebindClass => 0x0126#16
  | .withdrawRebind => 0x0127#16
  | .freezeClass => 0x0128#16
  | .deleteClass => 0x0121#16
  | .queryClass => 0x0411#16
  | .beginUpload => 0x0210#16
  | .putPixels => 0x0211#16
  | .endUpload => 0x0212#16
  | .cancelUpload => 0x0213#16
  | .deletePortrait => 0x0214#16
  | .queryPortrait => 0x0410#16
  | .queryStore => 0x0414#16
  | .openGlyphWindow => 0x0130#16
  | .closeGlyphWindow => 0x0131#16
  | .loadGlyph => 0x0132#16
  | .queryGlyph => 0x0415#16
  | .configureChannel => 0x0310#16
  | .enableChannel => 0x0311#16
  | .disableChannel => 0x0312#16
  | .queuePage => 0x0313#16
  | .cancelPage => 0x0314#16
  | .sheetReady => 0x0316#16
  | .start => 0x0319#16
  | .grantBands => 0x0315#16
  | .abortPage => 0x0317#16
  | .channelReset => 0x0318#16
  | .queryChannel => 0x0413#16
  | .clearErrorLog => 0x0140#16
  | .hallClear => 0x0141#16
  | .queryLink => 0x0416#16

/-- Every order of the part. -/
def Order.all : List Order :=
  [.defineLayout, .deleteLayout, .queryLayout, .openClass, .addSubject, .updateSubject,
    .removeSubject, .setTitle, .rebindClass, .withdrawRebind, .freezeClass, .deleteClass,
    .queryClass, .beginUpload, .putPixels, .endUpload, .cancelUpload, .deletePortrait,
    .queryPortrait, .queryStore, .openGlyphWindow, .closeGlyphWindow, .loadGlyph, .queryGlyph,
    .configureChannel, .enableChannel, .disableChannel, .queuePage, .cancelPage, .sheetReady,
    .start, .grantBands, .abortPage, .channelReset, .queryChannel, .clearErrorLog,
    .hallClear, .queryLink]

/-- The order of a command, with its port, tag and payload; `none` for an event. -/
def Instr.order? (c : Instr) : Option (Order × Port × Byte × Bytes) :=
  match c with
  | .porstAsserted => none
  | .porstReleased => none
  | .storeInitialisationEnd => none
  | .linkUp _ => none
  | .idleFill _ => none
  | .silenceTimerExpiry _ => none
  | .lineLoss _ => none
  | .frameDropped _ _ => none
  | .frameDeparture _ => none
  | .unknownOrder _ _ _ _ => none
  | .defineLayout port tag payload => some (.defineLayout, port, tag, payload)
  | .deleteLayout port tag payload => some (.deleteLayout, port, tag, payload)
  | .queryLayout port tag payload => some (.queryLayout, port, tag, payload)
  | .openClass port tag payload => some (.openClass, port, tag, payload)
  | .addSubject port tag payload => some (.addSubject, port, tag, payload)
  | .updateSubject port tag payload => some (.updateSubject, port, tag, payload)
  | .removeSubject port tag payload => some (.removeSubject, port, tag, payload)
  | .setTitle port tag payload => some (.setTitle, port, tag, payload)
  | .rebindClass port tag payload => some (.rebindClass, port, tag, payload)
  | .withdrawRebind port tag payload => some (.withdrawRebind, port, tag, payload)
  | .freezeClass port tag payload => some (.freezeClass, port, tag, payload)
  | .deleteClass port tag payload => some (.deleteClass, port, tag, payload)
  | .queryClass port tag payload => some (.queryClass, port, tag, payload)
  | .beginUpload port tag payload => some (.beginUpload, port, tag, payload)
  | .putPixels port tag payload => some (.putPixels, port, tag, payload)
  | .endUpload port tag payload => some (.endUpload, port, tag, payload)
  | .cancelUpload port tag payload => some (.cancelUpload, port, tag, payload)
  | .idleTimerExpiry _ => none
  | .deletePortrait port tag payload => some (.deletePortrait, port, tag, payload)
  | .queryPortrait port tag payload => some (.queryPortrait, port, tag, payload)
  | .queryStore port tag payload => some (.queryStore, port, tag, payload)
  | .openGlyphWindow port tag payload => some (.openGlyphWindow, port, tag, payload)
  | .closeGlyphWindow port tag payload => some (.closeGlyphWindow, port, tag, payload)
  | .loadGlyph port tag payload => some (.loadGlyph, port, tag, payload)
  | .queryGlyph port tag payload => some (.queryGlyph, port, tag, payload)
  | .planningStartStep => none
  | .planningCompletion => none
  | .configureChannel port tag payload => some (.configureChannel, port, tag, payload)
  | .enableChannel port tag payload => some (.enableChannel, port, tag, payload)
  | .disableChannel port tag payload => some (.disableChannel, port, tag, payload)
  | .queuePage port tag payload => some (.queuePage, port, tag, payload)
  | .cancelPage port tag payload => some (.cancelPage, port, tag, payload)
  | .sheetReady port tag payload => some (.sheetReady, port, tag, payload)
  | .start port tag payload => some (.start, port, tag, payload)
  | .grantBands port tag payload => some (.grantBands, port, tag, payload)
  | .abortPage port tag payload => some (.abortPage, port, tag, payload)
  | .channelReset port tag payload => some (.channelReset, port, tag, payload)
  | .queryChannel port tag payload => some (.queryChannel, port, tag, payload)
  | .engineGrant => none
  | .rowData => none
  | .bandEnd => none
  | .stallTimerExpiry _ => none
  | .scrubTimerExpiry => none
  | .clearErrorLog port tag payload => some (.clearErrorLog, port, tag, payload)
  | .hallClear port tag payload => some (.hallClear, port, tag, payload)
  | .queryLink port tag payload => some (.queryLink, port, tag, payload)

/-- A command is well formed when a master or an event can send it: an order's payload fits a frame (R193), and the
message code of an unknown order names no order of the part (R195, R213). -/
def Instr.wellFormed (c : Instr) : Bool :=
  match c with
  | .unknownOrder _ _ code payload =>
    decide (payload.length ≤ Config.payloadMax) && Order.all.all (fun o => decide (o.code ≠ code))
  | c =>
    match c.order? with
    | some (_, _, _, payload) => decide (payload.length ≤ Config.payloadMax)
    | none => true

end Sys2Proof
end

