-- ==== Sys2Proof/Decode.lean ====
section
/-! DEFINITION. The frames of the links (11.1, 11.5): message codes, the CRC-16, the frame check, and the commands that
order frames stand for; with the encoder beside the decoder. `decodeTableWord` answers for spec/opcode_table.json,
which gives no row any bits. -/

namespace Sys2Proof

/-- The command a word of the opcode table spells. The table gives no row any bits (log 28), so no word spells one. -/
def decodeTableWord (_nbits _w : Nat) : Option Instr := none

/-- The order a message code names (R213); `none` for a code that names no order of the part. -/
def Order.ofCode (c : BitVec 16) : Option Order :=
  match c.toNat with
  | 0x0110 => some .defineLayout
  | 0x0111 => some .deleteLayout
  | 0x0412 => some .queryLayout
  | 0x0120 => some .openClass
  | 0x0122 => some .addSubject
  | 0x0123 => some .updateSubject
  | 0x0124 => some .removeSubject
  | 0x0125 => some .setTitle
  | 0x0126 => some .rebindClass
  | 0x0127 => some .withdrawRebind
  | 0x0128 => some .freezeClass
  | 0x0121 => some .deleteClass
  | 0x0411 => some .queryClass
  | 0x0210 => some .beginUpload
  | 0x0211 => some .putPixels
  | 0x0212 => some .endUpload
  | 0x0213 => some .cancelUpload
  | 0x0214 => some .deletePortrait
  | 0x0410 => some .queryPortrait
  | 0x0414 => some .queryStore
  | 0x0130 => some .openGlyphWindow
  | 0x0131 => some .closeGlyphWindow
  | 0x0132 => some .loadGlyph
  | 0x0415 => some .queryGlyph
  | 0x0310 => some .configureChannel
  | 0x0311 => some .enableChannel
  | 0x0312 => some .disableChannel
  | 0x0313 => some .queuePage
  | 0x0314 => some .cancelPage
  | 0x0316 => some .sheetReady
  | 0x0319 => some .start
  | 0x0315 => some .grantBands
  | 0x0317 => some .abortPage
  | 0x0318 => some .channelReset
  | 0x0413 => some .queryChannel
  | 0x0140 => some .clearErrorLog
  | 0x0141 => some .hallClear
  | 0x0416 => some .queryLink
  | _ => none

/-- The command an order makes with its port, tag and payload (R195). -/
def Order.command (o : Order) (port : Port) (tag : Byte) (payload : Bytes) : Instr :=
  match o with
  | .defineLayout => .defineLayout port tag payload
  | .deleteLayout => .deleteLayout port tag payload
  | .queryLayout => .queryLayout port tag payload
  | .openClass => .openClass port tag payload
  | .addSubject => .addSubject port tag payload
  | .updateSubject => .updateSubject port tag payload
  | .removeSubject => .removeSubject port tag payload
  | .setTitle => .setTitle port tag payload
  | .rebindClass => .rebindClass port tag payload
  | .withdrawRebind => .withdrawRebind port tag payload
  | .freezeClass => .freezeClass port tag payload
  | .deleteClass => .deleteClass port tag payload
  | .queryClass => .queryClass port tag payload
  | .beginUpload => .beginUpload port tag payload
  | .putPixels => .putPixels port tag payload
  | .endUpload => .endUpload port tag payload
  | .cancelUpload => .cancelUpload port tag payload
  | .deletePortrait => .deletePortrait port tag payload
  | .queryPortrait => .queryPortrait port tag payload
  | .queryStore => .queryStore port tag payload
  | .openGlyphWindow => .openGlyphWindow port tag payload
  | .closeGlyphWindow => .closeGlyphWindow port tag payload
  | .loadGlyph => .loadGlyph port tag payload
  | .queryGlyph => .queryGlyph port tag payload
  | .configureChannel => .configureChannel port tag payload
  | .enableChannel => .enableChannel port tag payload
  | .disableChannel => .disableChannel port tag payload
  | .queuePage => .queuePage port tag payload
  | .cancelPage => .cancelPage port tag payload
  | .sheetReady => .sheetReady port tag payload
  | .start => .start port tag payload
  | .grantBands => .grantBands port tag payload
  | .abortPage => .abortPage port tag payload
  | .channelReset => .channelReset port tag payload
  | .queryChannel => .queryChannel port tag payload
  | .clearErrorLog => .clearErrorLog port tag payload
  | .hallClear => .hallClear port tag payload
  | .queryLink => .queryLink port tag payload

/-- One bit step of the CRC-16 of R193: polynomial 0x1021, most significant bit first. -/
def crc16Bit (r : BitVec 16) : BitVec 16 :=
  if r.msb then (r <<< 1) ^^^ 0x1021#16 else r <<< 1

/-- One byte of the CRC-16 of R193, taken most significant bit first. -/
def crc16Byte (r : BitVec 16) (b : Byte) : BitVec 16 :=
  crc16Bit (crc16Bit (crc16Bit (crc16Bit (crc16Bit (crc16Bit (crc16Bit (crc16Bit
    (r ^^^ (b.setWidth 16 <<< 8)))))))))

/-- The CRC-16 of R193: initial value 0xFFFF, not reflected, no final exclusive-or. -/
def crc16 (bytes : Bytes) : BitVec 16 := bytes.foldl crc16Byte 0xFFFF#16

/-- The byte at an offset, as a number; 0 past the end. -/
def byteAt (bytes : Bytes) (offset : Nat) : Nat := (bytes.getD offset 0).toNat

/-- A field of two bytes, most significant first (11, opening). -/
def word16At (bytes : Bytes) (offset : Nat) : Nat := byteAt bytes offset * 256 + byteAt bytes (offset + 1)

/-- A number as one byte. -/
def bytes1 (n : Nat) : Bytes := [BitVec.ofNat 8 n]

/-- A number as two bytes, most significant first. -/
def bytes2 (n : Nat) : Bytes := [BitVec.ofNat 8 (n / 256), BitVec.ofNat 8 n]

/-- A frame of 11.1: kind, tag, message code, payload length, payload, and the CRC-16 over all before it (R209). -/
def frameBytes (kind : Nat) (tag : Byte) (code : BitVec 16) (payload : Bytes) : Bytes :=
  let head := bytes1 kind ++ [tag] ++ bytes2 code.toNat ++ bytes2 payload.length ++ payload
  head ++ bytes2 (crc16 head).toNat

/-- The payload bytes of an arriving frame: what stands between the head and the CRC (11.1). -/
def framePayload (frame : Bytes) : Bytes := (frame.drop 6).take (frame.length - 8)

/-- The parts of the frame check of R193 that the frame alone decides: it is long enough for head and CRC, the CRC
matches, the length field is at most 4,096 and equals the payload bytes carried, and the kind is ORDER. -/
def frameSound (frame : Bytes) : Bool :=
  decide (8 ≤ frame.length)
    && decide (word16At frame (frame.length - 2) = (crc16 (frame.take (frame.length - 2))).toNat)
    && decide (word16At frame 4 ≤ Config.payloadMax)
    && decide (word16At frame 4 = frame.length - 8)
    && decide (byteAt frame 0 = 1)

/-- The command a sound frame stands for: an order of the part, or a code that names none (R195); `none` for a frame
that the check of R193 drops. -/
def decodeFrame (port : Port) (frame : Bytes) : Option Instr :=
  if frameSound frame then
    let tag := frame.getD 1 0
    let code := BitVec.ofNat 16 (word16At frame 2)
    match Order.ofCode code with
    | some o => some (o.command port tag (framePayload frame))
    | none => some (.unknownOrder port tag code (framePayload frame))
  else none

/-- The port a command arrives on and the bytes of its order frame; `none` for an event, which has no frame. -/
def encodeFrame (c : Instr) : Option (Port × Bytes) :=
  match c with
  | .unknownOrder port tag code payload => some (port, frameBytes 1 tag code payload)
  | c => c.order?.map (fun (o, port, tag, payload) => (port, frameBytes 1 tag o.code payload))

end Sys2Proof
end

