-- ==== Sys2Proof/Machine/State.lean ====
section
/-! DEFINITION. The state of the part, block by block (00_scope.md, block diagram), and its value at reset. Sparse tables
are lists of (number, value) in rising order that leave out the value an unlisted number has. -/

namespace Sys2Proof.Machine

/-- A table addressed by number: rising numbers, each with a value other than the one an unlisted number has. -/
abbrev Table (α : Type) := List (Nat × α)

/-- Four like things: the press channels (R148), the upload slots (R70), the press ports (R190). -/
structure Four (α : Type) where
  a0 : α
  a1 : α
  a2 : α
  a3 : α
  deriving DecidableEq, Repr

/-- The states of the part as a whole: PORST asserted, the store initialisation running, or running (R174, R207). -/
inductive Phase where
  | inReset
  | initialising
  | running
  deriving DecidableEq, Repr

/-! ### Layout Table (R1) -/

/-- A portrait reference: a handle and a generation (R55). -/
structure PortraitRef where
  handle : Nat
  generation : Nat
  deriving DecidableEq, Repr

/-- A colour or pixel, three bytes R, G and B. -/
structure Rgb where
  r : Byte
  g : Byte
  b : Byte
  deriving DecidableEq, Repr

/-- Last-row alignment (R3). -/
inductive Alignment where
  | left
  | centred
  deriving DecidableEq, Repr

/-- The fields of a DEFINED layout record (R1). -/
structure LayoutFields where
  /-- Live width W. -/
  w : Nat
  /-- Live height H. -/
  h : Nat
  /-- Columns C. -/
  c : Nat
  /-- Rows R. -/
  r : Nat
  /-- Column gutter g. -/
  g : Nat
  /-- Row gap v. -/
  v : Nat
  /-- Caption band height cap. -/
  cap : Nat
  captionScale : Nat
  /-- Title band height T. -/
  t : Nat
  titleScale : Nat
  headRatio : Nat
  eyeRatio : Nat
  alignment : Alignment
  backdrop : Rgb
  ink : Rgb
  placeholder : Option PortraitRef
  ellipsis : Nat
  deriving DecidableEq, Repr

/-- A layout record: DEFINED with its fields or EMPTY (`none`), and its binding count (R1). -/
structure LayoutRecord where
  fields : Option LayoutFields
  bindings : Nat
  deriving DecidableEq, Repr

/-! ### Roster Unit (R17 to R20) -/

/-- Role of a subject (R20). -/
inductive Role where
  | staff
  | student
  deriving DecidableEq, Repr

/-- A subject record (R20). -/
structure Subject where
  id : Nat
  role : Role
  sortKey : Nat
  caption : List Nat
  ref : Option PortraitRef
  deriving DecidableEq, Repr

/-- State of a class (R17). -/
inductive ClassState where
  | empty
  | opened
  | frozen
  deriving DecidableEq, Repr

/-- A class record (R17). -/
structure ClassRecord where
  state : ClassState
  bound : Option Nat
  pending : Option Nat
  title : List Nat
  roster : List Subject
  inFlight : Nat
  deriving DecidableEq, Repr

/-- The Roster Unit: the Class Table, and the number of free records of the Subject Pool (R19). -/
structure RosterUnit where
  classes : Table ClassRecord
  poolFree : Nat
  deriving DecidableEq, Repr

/-! ### Store Controller (R42 to R50, R173) -/

/-- Kind of a chain (R44). -/
inductive ChainKind where
  | upload
  | current
  | pending
  deriving DecidableEq, Repr

/-- Owner of a chained cluster (R44). -/
structure Owner where
  handle : Nat
  kind : ChainKind
  deriving DecidableEq, Repr

/-- Cluster Map entry (R43). -/
inductive ClusterEntry where
  | free
  | linked (next : Nat) (suspect : Bool) (owner : Owner)
  | last (suspect : Bool) (owner : Owner)
  | retired
  deriving DecidableEq, Repr

/-- The Store Controller. `store` lists the bytes that are not 0 by cluster x 65,536 + offset (R42); `errors` holds the
check bits of R173 as the wrong bits of each word, by cluster x 8,192 + offset / 8: those of its 64 bits and 8 check bits
that differ from the word last written and the check bits valid for it. -/
structure StoreController where
  map : Table ClusterEntry
  freeCount : Nat
  retiredCount : Nat
  reserved : Nat
  cursor : Nat
  store : List Host.Cell
  errors : Table (BitVec 72)
  deriving DecidableEq, Repr

/-! ### Portrait Directory (R53) -/

/-- An image record (R53). -/
structure ImageRecord where
  width : Nat
  height : Nat
  faceCentre : Nat
  eyeRow : Nat
  faceHeight : Nat
  boxClamped : Bool
  first : Nat
  clusters : Nat
  crc : BitVec 32
  deriving DecidableEq, Repr

/-- State of a directory entry (R53, R54). -/
inductive DirState where
  | free
  | filling
  | ready
  | damaged
  deriving DecidableEq, Repr

/-- Mode of an upload (R70). -/
inductive UploadMode where
  | new
  | replace
  deriving DecidableEq, Repr

/-- A directory entry (R53). -/
structure DirEntry where
  state : DirState
  generation : Nat
  upload : Option (Fin 4 × UploadMode)
  image : Option ImageRecord
  pins : Nat
  replacement : Option ImageRecord
  deriving DecidableEq, Repr

/-! ### Ingest Engine (R70, R71) -/

/-- The record of an OPEN upload slot (R70). -/
structure UploadRecord where
  handle : Nat
  mode : UploadMode
  width : Nat
  height : Nat
  faceCentre : Nat
  eyeRow : Nat
  faceHeight : Nat
  boxClamped : Bool
  declaredCrc : BitVec 32
  expected : Nat
  received : Nat
  crc : BitVec 32
  /-- First and last cluster of the chain; `none` while it is empty. -/
  chain : Option (Nat × Nat)
  held : Nat
  reserved : Nat
  /-- Milliseconds left on the idle timer (R78). -/
  timer : Nat
  deriving DecidableEq, Repr

/-- The Ingest Engine: four slots, each IDLE (`none`) or OPEN, and the open list, oldest first (R71). -/
structure IngestEngine where
  slots : Four (Option UploadRecord)
  openList : List (Fin 4)
  deriving DecidableEq, Repr

/-! ### Glyph Store (R131 to R133) -/

/-- A mask of four quadrants of 16 x 16 pixels (R132). The pixel in row v and column u of a quadrant is bit
255 - (16 v + u), so that a quadrant's number is its bytes on the link (R210). -/
structure Mask where
  upperLeft : BitVec 256
  upperRight : BitVec 256
  lowerLeft : BitVec 256
  lowerRight : BitVec 256
  deriving DecidableEq, Repr

/-- A LOADED glyph record (R131). -/
structure Glyph where
  advance : Nat
  mask : Mask
  deriving DecidableEq, Repr

/-- State of the glyph window (7.2). -/
inductive WindowState where
  | closed
  | opening
  | opened
  deriving DecidableEq, Repr

/-- The Glyph Store: records of LOADED codes, the window, and the in-flight page count (R131, R133). -/
structure GlyphStore where
  glyphs : Table (Option Glyph)
  window : WindowState
  inFlight : Nat
  deriving DecidableEq, Repr

/-! ### Page plans (R94 to R97, R105 to R107) -/

/-- Why a cell does not show its subject's own portrait (R95). -/
inductive PlaceholderReason where
  | noPortrait
  | stale
  | notReady
  | damaged
  deriving DecidableEq, Repr

/-- A record of the roster slice with the source decided at the start step (R94, R95): `source` is the handle drawn,
`none` for a backdrop cell. -/
structure SliceCell where
  position : Nat
  subjectId : Nat
  caption : List Nat
  ref : Option PortraitRef
  source : Option Nat
  reason : Option PlaceholderReason
  deriving DecidableEq, Repr

/-- A handle of the pinned list with its copied image record (R97). -/
structure PinnedImage where
  handle : Nat
  width : Nat
  height : Nat
  faceCentre : Nat
  eyeRow : Nat
  faceHeight : Nat
  first : Nat
  clusters : Nat
  deriving DecidableEq, Repr

/-- What the start step fixes of a page (R92 to R97). -/
structure Snapshot where
  channel : Fin 4
  classNo : Nat
  page : Nat
  copies : Nat
  seq : Nat
  layoutNo : Nat
  layout : LayoutFields
  title : List Nat
  rosterLength : Nat
  pageCount : Nat
  cells : List SliceCell
  pinned : List PinnedImage
  /-- The plan pins the placeholder as placeholder (R97). -/
  pinsPlaceholder : Bool
  deriving DecidableEq, Repr

/-- The grid of a page (R98, R99, R101). -/
structure Grid where
  cw : Nat
  ch : Nat
  mx : Nat
  my : Nat
  px : Nat
  py : Nat
  occupiedRows : Nat
  shift : Nat
  deriving DecidableEq, Repr

/-- Head targets of a page (R114). -/
structure Targets where
  headHeight : Nat
  eyeRow : Nat
  centre : Nat
  deriving DecidableEq, Repr

/-- The fitting of an image to a cell: step and crop origin in Q16, and the fitting flags (R115 to R120). -/
structure Fitting where
  step : Nat
  x0 : Int
  y0 : Int
  scaleClamped : Bool
  shifted : Bool
  short : Bool
  deriving DecidableEq, Repr

/-- A set line: glyph codes and the line's x offset (R140). -/
structure GlyphRun where
  codes : List Nat
  x : Nat
  deriving DecidableEq, Repr

/-- The title of a plan (R105, R144). -/
structure TitleRecord where
  line : Option GlyphRun
  y : Nat
  truncated : Bool
  glyphMissing : Bool
  omitted : Bool
  deriving DecidableEq, Repr

/-- A placed cell of a finished plan (R106). -/
structure Cell where
  position : Nat
  row : Nat
  column : Nat
  x : Nat
  y : Nat
  subjectId : Nat
  source : Option Nat
  fitting : Option Fitting
  lines : List GlyphRun
  lineY : Nat
  placeholder : Option PlaceholderReason
  truncated : Bool
  glyphMissing : Bool
  captionOmitted : Bool
  damagedMidpage : Bool
  deriving DecidableEq, Repr

/-- A finished page plan (R105). -/
structure Plan where
  snap : Snapshot
  grid : Grid
  targets : Targets
  title : TitleRecord
  cells : List Cell
  substitute : Option Fitting
  deriving DecidableEq, Repr

/-! ### Page Planner (R88) -/

/-- The Page Planner: the channel whose job it is planning, and the last-served channel. -/
structure Planner where
  planning : Option (Fin 4)
  lastServed : Fin 4
  deriving DecidableEq, Repr

/-! ### Press channels (R148) -/

/-- State of a job, with what it holds from its start step on (R152). -/
inductive JobStage where
  | queued
  | planning (snap : Snapshot)
  | planned (plan : Plan)
  | rendering (plan : Plan)
  deriving DecidableEq, Repr

/-- A job of a channel's list (R152). -/
structure Job where
  classNo : Nat
  page : Nat
  copies : Nat
  stage : JobStage
  deriving DecidableEq, Repr

/-- Mode of a channel (R148). -/
inductive ChannelMode where
  | page
  | row
  | band
  deriving DecidableEq, Repr

/-- Trigger source of a channel (R148, R155). -/
inductive TriggerSource where
  | immediate
  | sheet
  | software
  | chained (k : Fin 4)
  deriving DecidableEq, Repr

/-- Band order (R157). -/
inductive BandOrder where
  | forward
  | reverse
  deriving DecidableEq, Repr

/-- Result of a page (R165). -/
inductive PageResult where
  | done
  | defect
  | aborted
  | stalled
  | emptyPage
  deriving DecidableEq, Repr

/-- The numbers of cells that carry each flag, and the title flags (R105, R165). -/
structure FlagCounts where
  noPortrait : Nat
  stale : Nat
  notReady : Nat
  damaged : Nat
  scaleClamped : Nat
  shifted : Nat
  short : Nat
  truncated : Nat
  glyphMissing : Nat
  captionOmitted : Nat
  damagedMidpage : Nat
  titleTruncated : Bool
  titleGlyphMissing : Bool
  titleOmitted : Bool
  deriving DecidableEq, Repr

/-- What a Page Done carries and the last-page record holds (R165). -/
structure PageDone where
  channel : Fin 4
  seq : Nat
  classNo : Nat
  page : Nat
  result : PageResult
  copies : Nat
  completed : Nat
  bands : Nat
  cut : Bool
  counts : FlagCounts
  deriving DecidableEq, Repr

/-- The rendering record (R157). -/
structure Rendering where
  bandCount : Nat
  copy : Nat
  released : Nat
  started : Nat
  inFlight : Bool
  boundary : Nat
  abortPending : Bool
  deriving DecidableEq, Repr

/-- A channel record (R148). -/
structure Channel where
  enabled : Bool
  mode : ChannelMode
  source : TriggerSource
  order : BandOrder
  mirror : Bool
  bandHeight : Nat
  /-- Stall window in seconds; 0 is off. -/
  stallWindow : Nat
  jobs : List Job
  credits : Nat
  flag : Bool
  rendering : Option Rendering
  /-- Stopped, or milliseconds left. -/
  stallTimer : Option Nat
  lastPage : Option PageDone
  nextSeq : Nat
  deriving DecidableEq, Repr

/-- The four channels and the engine arbiter's last-served channel (R148, R161). -/
structure PressChannels where
  channels : Four Channel
  lastServed : Fin 4
  deriving DecidableEq, Repr

/-! ### Composition Engine (R123, R124, R127) -/

/-- What a cell draws from for the whole of a band: an image and a fitting (R127). -/
structure CellDraw where
  image : PinnedImage
  fitting : Fitting
  deriving DecidableEq, Repr

/-- A word read for a cell of the band in production, with the data returned, `none` for a word marked uncorrectable
(R123, R185). Byte n of the word is bits 8n to 8n + 7. -/
structure ReadWord where
  cell : Nat
  word : Nat
  data : Option (BitVec 64)
  deriving DecidableEq, Repr

/-- The band in production (R124). -/
structure Band where
  channel : Fin 4
  plan : Plan
  copy : Nat
  index : Nat
  order : BandOrder
  mirror : Bool
  firstRow : Nat
  rowCount : Nat
  rowsLeft : Nat
  draws : List (Option CellDraw)
  reads : List ReadWord
  deriving DecidableEq, Repr

/-! ### Scrubber and Error Log (R176 to R187) -/

/-- Kind of a fault (R180). -/
inductive FaultKind where
  | read
  | scrub
  deriving DecidableEq, Repr

/-- An error log record (R187). -/
structure LogRecord where
  kind : FaultKind
  cluster : Nat
  offset : Nat
  syndrome : BitVec 8
  owner : Option Nat
  channel : Option (Fin 4)
  deriving DecidableEq, Repr

/-- The Scrubber and Error Log. -/
structure Scrubber where
  cursor : Nat
  /-- Stopped, or milliseconds left. -/
  timer : Option Nat
  rescrub : List Nat
  corrections : Nat
  log : Option LogRecord
  overflow : Bool
  deriving DecidableEq, Repr

/-! ### Link Interface Unit (R191 to R197) -/

/-- Kind of a frame the part sends (11.1). -/
inductive FrameKind where
  | reply
  | notice
  deriving DecidableEq, Repr

/-- A frame waiting to leave (R197, R209); its length and CRC-16 follow from these. -/
structure Frame where
  kind : FrameKind
  tag : Byte
  code : BitVec 16
  payload : Bytes
  deriving DecidableEq, Repr

/-- What the LIU keeps for a port (R191, R194, R197). -/
structure PortState where
  up : Bool
  /-- Silence timer: stopped, or milliseconds left. -/
  silence : Option Nat
  frameFault : Bool
  waiting : List Frame
  deriving DecidableEq, Repr

/-- The Link Interface Unit's six ports. -/
structure LinkUnit where
  l : PortState
  i : PortState
  p : Four PortState
  deriving DecidableEq, Repr

/-! ### The part -/

/-- The state of the part: its eleven blocks, its phase, the model's own clock (log 3) and the queue of waiting
commands (log 1). -/
structure State where
  phase : Phase
  liu : LinkUnit
  layouts : Table LayoutRecord
  ru : RosterUnit
  sc : StoreController
  pdir : Table DirEntry
  ie : IngestEngine
  gs : GlyphStore
  pln : Planner
  pch : PressChannels
  ce : Option Band
  sel : Scrubber
  clock : Nat
  pending : List Instr
  deriving DecidableEq, Repr

/-- Why the machine stops. -/
inductive Fault where
  /-- Raised by PUT_PIXELS when the upload asks for a cluster and no cluster is FREE, or has no cluster to write into.
  R50 says that allocation does not fail: no run reaches it (log 16). Safe. -/
  | noClusterForUpload
  deriving DecidableEq, Repr

/-- Why a command has no outcome. -/
inductive Refusal where
  /-- Raised by exec's arm for a command without a meaning; none is left. Safe. -/
  | notModelled (mnemonic : String)
  deriving DecidableEq, Repr

/-- What a step answers. -/
abbrev Result := Host.Outcome State Fault Refusal

/-- An EMPTY layout record with a binding count of 0 (R1). -/
def emptyLayout : LayoutRecord := { fields := none, bindings := 0 }

/-- An EMPTY class record (R17). -/
def emptyClass : ClassRecord :=
  { state := .empty, bound := none, pending := none, title := [], roster := [], inFlight := 0 }

/-- A FREE directory entry of a generation (R53). -/
def freeEntry (generation : Nat) : DirEntry :=
  { state := .free, generation, upload := none, image := none, pins := 0, replacement := none }

/-- A port after power-on (R191, R194, R207). -/
def downPort : PortState := { up := false, silence := none, frameFault := false, waiting := [] }

/-- A channel record after power-on (R148). -/
def offChannel : Channel :=
  { enabled := false, mode := .page, source := .immediate, order := .forward, mirror := false, bandHeight := 32,
    stallWindow := 30, jobs := [], credits := 0, flag := false, rendering := none, stallTimer := none,
    lastPage := none, nextSeq := 0 }

/-- The power-on values of every block (R207, and the resets section of each chapter). -/
def powerOn (phase : Phase) (clock : Nat) (pending : List Instr) : State :=
  { phase
    liu := { l := downPort, i := downPort, p := ⟨downPort, downPort, downPort, downPort⟩ }
    layouts := []
    ru := { classes := [], poolFree := Config.poolRecords }
    sc := { map := [], freeCount := Config.clusters, retiredCount := 0, reserved := 0, cursor := 0, store := [],
            errors := [] }
    pdir := []
    ie := { slots := ⟨none, none, none, none⟩, openList := [] }
    gs := { glyphs := [], window := .closed, inFlight := 0 }
    pln := { planning := none, lastServed := 3 }
    pch := { channels := ⟨offChannel, offChannel, offChannel, offChannel⟩, lastServed := 3 }
    ce := none
    sel := { cursor := 0, timer := none, rescrub := [], corrections := 0, log := none, overflow := false }
    clock
    pending }

/-- The part at the release of PORST: the power-on values, with the store initialisation begun (R174, R207; log 4). -/
def State.reset : State := powerOn .initialising 0 []

end Sys2Proof.Machine
end

