-- ==== Sys2Proof/Machine/Ops.lean ====
section
/-! DEFINITION. The named operations: tables, memory, the blocks' records, the frames a port sends, and the passing of
time. -/

namespace Sys2Proof.Machine

/-! ### Tables -/

/-- The value of a number: the listed one, else `d`. -/
def Table.get {α : Type} (d : α) (t : Table α) (n : Nat) : α :=
  match t with
  | [] => d
  | (k, v) :: rest => if k = n then v else Table.get d rest n

/-- Put an entry in its place by number. -/
def Table.insert {α : Type} (n : Nat) (v : α) (t : Table α) : Table α :=
  match t with
  | [] => [(n, v)]
  | (k, w) :: rest => if n < k then (n, v) :: (k, w) :: rest else (k, w) :: Table.insert n v rest

/-- Give a number a value; the value an unlisted number has removes the entry. -/
def Table.set {α : Type} [DecidableEq α] (d : α) (t : Table α) (n : Nat) (v : α) : Table α :=
  let others := t.filter (fun e => decide (e.1 ≠ n))
  if v = d then others else Table.insert n v others

/-- The canonical form: numbers strictly rising, and no entry with the value of an unlisted number. -/
def Table.wf {α : Type} [DecidableEq α] (d : α) (t : Table α) : Bool :=
  match t with
  | [] => true
  | (k, v) :: rest => decide (v ≠ d) && rest.all (fun e => decide (k < e.1)) && Table.wf d rest

/-! ### The store as memory (R42) -/

/-- A byte of the store; an unlisted byte reads 0, as after the store initialisation (R42). -/
def Memory.read (m : List Host.Cell) (a : Nat) : Byte := Table.get 0#8 m a

/-- Write a byte of the store, keeping the canonical form. -/
def Memory.write (m : List Host.Cell) (a : Nat) (b : Byte) : List Host.Cell := Table.set 0#8 m a b

/-- The canonical form of the store. -/
def Memory.wf (m : List Host.Cell) : Bool := Table.wf 0#8 m

/-- The 64-bit word of eight bytes as the store holds it (R173); byte n is bits 8n to 8n + 7. -/
def Memory.word (m : List Host.Cell) (w : Nat) : BitVec 64 :=
  (List.range 8).foldl (fun acc n => acc ||| ((Memory.read m (8 * w + n)).setWidth 64 <<< (8 * n))) 0#64

/-- Write the eight bytes of a word. -/
def Memory.writeWord (m : List Host.Cell) (w : Nat) (v : BitVec 64) : List Host.Cell :=
  (List.range 8).foldl (fun acc n => Memory.write acc (8 * w + n) ((v >>> (8 * n)).setWidth 8)) m

/-! ### Four and six like things -/

/-- The thing of a number. -/
def Four.get {α : Type} (f : Four α) (k : Fin 4) : α :=
  match k with
  | 0 => f.a0
  | 1 => f.a1
  | 2 => f.a2
  | 3 => f.a3

/-- Replace the thing of a number. -/
def Four.set {α : Type} (f : Four α) (k : Fin 4) (v : α) : Four α :=
  match k with
  | 0 => { f with a0 := v }
  | 1 => { f with a1 := v }
  | 2 => { f with a2 := v }
  | 3 => { f with a3 := v }

/-- The same change to all four. -/
def Four.map {α : Type} (f : Four α) (g : α → α) : Four α := ⟨g f.a0, g f.a1, g f.a2, g f.a3⟩

/-- The numbers 0 to 3 in order. -/
def fours : List (Fin 4) := [0, 1, 2, 3]

/-- The numbers 0 to 3 in rotating order, beginning after `last` and going on from 3 to 0 (R90, R161). -/
def rotation (last : Fin 4) : List (Fin 4) := [last + 1, last + 2, last + 3, last]

/-- A number from 0 to 3. -/
def four? (n : Nat) : Option (Fin 4) := if h : n < 4 then some ⟨n, h⟩ else none

/-! ### Records of the blocks -/

/-- What the LIU keeps for a port. -/
def State.port (s : State) (p : Port) : PortState :=
  match p with
  | .l => s.liu.l
  | .i => s.liu.i
  | .p k => s.liu.p.get k

/-- Replace what the LIU keeps for a port. -/
def State.setPort (s : State) (p : Port) (v : PortState) : State :=
  match p with
  | .l => { s with liu := { s.liu with l := v } }
  | .i => { s with liu := { s.liu with i := v } }
  | .p k => { s with liu := { s.liu with p := s.liu.p.set k v } }

/-- A layout record. -/
def State.layout (s : State) (n : Nat) : LayoutRecord := Table.get emptyLayout s.layouts n

/-- Replace a layout record. -/
def State.setLayout (s : State) (n : Nat) (v : LayoutRecord) : State :=
  { s with layouts := Table.set emptyLayout s.layouts n v }

/-- A class record. -/
def State.classAt (s : State) (n : Nat) : ClassRecord := Table.get emptyClass s.ru.classes n

/-- Replace a class record. -/
def State.setClass (s : State) (n : Nat) (v : ClassRecord) : State :=
  { s with ru := { s.ru with classes := Table.set emptyClass s.ru.classes n v } }

/-- A Cluster Map entry. -/
def State.cluster (s : State) (n : Nat) : ClusterEntry := Table.get .free s.sc.map n

/-- Replace a Cluster Map entry. -/
def State.setCluster (s : State) (n : Nat) (v : ClusterEntry) : State :=
  { s with sc := { s.sc with map := Table.set .free s.sc.map n v } }

/-- A directory entry. -/
def State.entry (s : State) (h : Nat) : DirEntry := Table.get (freeEntry 0) s.pdir h

/-- Replace a directory entry. -/
def State.setEntry (s : State) (h : Nat) (v : DirEntry) : State :=
  { s with pdir := Table.set (freeEntry 0) s.pdir h v }

/-- An upload slot: `none` when IDLE. -/
def State.slot (s : State) (k : Fin 4) : Option UploadRecord := s.ie.slots.get k

/-- Replace an upload slot. -/
def State.setSlot (s : State) (k : Fin 4) (v : Option UploadRecord) : State :=
  { s with ie := { s.ie with slots := s.ie.slots.set k v } }

/-- A channel record. -/
def State.channel (s : State) (k : Fin 4) : Channel := s.pch.channels.get k

/-- Replace a channel record as it stands, stall timer included. -/
def State.setChannel (s : State) (k : Fin 4) (v : Channel) : State :=
  { s with pch := { s.pch with channels := s.pch.channels.set k v } }

/-- A glyph record: `none` when UNLOADED (R131). -/
def State.glyph (s : State) (code : Nat) : Option Glyph := Table.get none s.gs.glyphs code

/-! ### Frames of a port (R192, R193, R197, R204) -/

/-- Bytes a frame takes on the link (11.1; log 13). -/
def Frame.size (f : Frame) : Nat := 8 + f.payload.length

/-- Message codes of the notices (R213). -/
inductive Notice where
  | bandStart
  | rowData
  | pageDone
  | jobCancelled
  | uploadResult
  | replacementSwapped
  | replacementLost
  | portraitDamaged
  | rebindDone
  | rebindWithdrawn
  | glyphWindowOpen
  | storeFault
  deriving DecidableEq, Repr

/-- Message codes of the notices (R213). -/
def Notice.code (n : Notice) : BitVec 16 :=
  match n with
  | .bandStart => 0x0810#16
  | .rowData => 0x0811#16
  | .pageDone => 0x0812#16
  | .jobCancelled => 0x0813#16
  | .uploadResult => 0x0820#16
  | .replacementSwapped => 0x0821#16
  | .replacementLost => 0x0822#16
  | .portraitDamaged => 0x0823#16
  | .rebindDone => 0x0830#16
  | .rebindWithdrawn => 0x0831#16
  | .glyphWindowOpen => 0x0832#16
  | .storeFault => 0x0833#16

/-- A frame that the bound of R193 counts: a reply, or a notice other than Band Start and Row Data. -/
def Frame.counted (f : Frame) : Bool :=
  match f.kind with
  | .reply => true
  | .notice => decide (f.code ≠ Notice.bandStart.code) && decide (f.code ≠ Notice.rowData.code)

/-- Bytes of the replies and notices waiting on a port, Band Start and Row Data not counted (R193). -/
def PortState.backlog (p : PortState) : Nat := ((p.waiting.filter Frame.counted).map Frame.size).sum

/-- A frame the part sends, as bytes (R209). -/
def Frame.bytes (f : Frame) : Bytes :=
  frameBytes (match f.kind with | .reply => 2 | .notice => 3) f.tag f.code f.payload

/-- Send a frame on a port: it waits there when the link is UP, and is not sent when it is DOWN (R197, R204). -/
def State.send (s : State) (p : Port) (f : Frame) : State :=
  if (s.port p).up then s.setPort p { s.port p with waiting := (s.port p).waiting ++ [f] } else s

/-- Send a notice: tag 0 (R203, R209). -/
def State.notice (s : State) (p : Port) (n : Notice) (payload : Bytes) : State :=
  s.send p { kind := .notice, tag := 0, code := n.code, payload }

/-- An arrival on an UP link restarts the silence timer (R191). -/
def State.arrival (s : State) (p : Port) : State :=
  s.setPort p { s.port p with silence := some Config.silenceMs }

/-- Drop the arriving frame: the port's frame-fault flag is set and nothing is sent (R193, R194). -/
def State.dropFrame (s : State) (p : Port) : State :=
  s.setPort p { s.port p with frameFault := true }

/-! ### Status codes (R202, R213) -/

/-- Status codes of a reply (R202). -/
inductive Status where
  | ok
  | unknownOrder
  | notPermitted
  | badField
  | badGeometry
  | notFound
  | inUse
  | busy
  | duplicate
  | rosterFull
  | poolFull
  | frozen
  | storeFull
  | slotsFull
  | outOfOrder
  | overrun
  | notOpen
  | notReady
  | ignored
  deriving DecidableEq, Repr

/-- The code of a status (R213). -/
def Status.code (s : Status) : Byte :=
  match s with
  | .ok => 0x00#8
  | .unknownOrder => 0x01#8
  | .notPermitted => 0x02#8
  | .badField => 0x03#8
  | .badGeometry => 0x04#8
  | .notFound => 0x05#8
  | .inUse => 0x06#8
  | .busy => 0x07#8
  | .duplicate => 0x08#8
  | .rosterFull => 0x09#8
  | .poolFull => 0x0A#8
  | .frozen => 0x0B#8
  | .storeFull => 0x0C#8
  | .slotsFull => 0x0D#8
  | .outOfOrder => 0x0E#8
  | .overrun => 0x0F#8
  | .notOpen => 0x10#8
  | .notReady => 0x11#8
  | .ignored => 0x12#8

/-- Send a reply: the order's tag and message code, the status byte, and the result fields (R196, R209, R210). -/
def State.reply (s : State) (p : Port) (tag : Byte) (code : BitVec 16) (status : Status) (fields : Bytes) : State :=
  s.send p { kind := .reply, tag, code, payload := status.code :: fields }

/-! ### Time -/

/-- One millisecond off a running timer. -/
def tickTimer (t : Option Nat) : Option Nat := t.map (fun n => n - 1)

/-- One millisecond off a port's silence timer. -/
def PortState.tick (p : PortState) : PortState := { p with silence := tickTimer p.silence }

/-- The wrong bits of a word and its check bits, by number (R173). -/
def wrongBits (errors : BitVec 72) : List Nat := (List.range 72).filter (fun n => errors.getLsbD n)

/-- The syndrome of an uncorrectable read is a nonzero value (R173). -/
def nonzeroSyndrome (v : BitVec 8) : BitVec 8 := if v = 0#8 then 1#8 else v

/-- How a word with these wrong bits reads (R173): clean with none, corrected with one, which the syndrome names, and
uncorrectable with two. With more, as the check-bit code has it (log 31). -/
def readsAs (errors : BitVec 72) : Option WordFault :=
  match wrongBits errors with
  | [] => none
  | [n] => some (.correctable (Fin.ofNat 72 n))
  | [_, _] => some (.uncorrectable (nonzeroSyndrome (Config.doubleSyndrome errors)))
  | _ =>
    match Config.manyErrors errors with
    | some (.uncorrectable v) => some (.uncorrectable (nonzeroSyndrome v))
    | reads => reads

/-- The class of a read is uncorrectable. -/
def uncorrectable (reads : Option WordFault) : Bool :=
  match reads with
  | some (.uncorrectable _) => true
  | _ => false

/-- A word of the DRAM changes by itself (R173; log 3): bits of it or of its check bits flip. Outside the store there is
no word, and a word that reads uncorrectable stays so until it is written (log 31). -/
def State.upset (s : State) (u : Upset) : State :=
  let before := Table.get 0#72 s.sc.errors u.word
  let after := before ^^^ u.flipped
  if u.word < Config.clusters * Config.clusterWords
      ∧ (uncorrectable (readsAs before) = true → uncorrectable (readsAs after) = true) then
    { s with sc := { s.sc with
        store := Memory.writeWord s.sc.store u.word (Memory.word s.sc.store u.word ^^^ u.flipped.setWidth 64)
        errors := Table.set 0#72 s.sc.errors u.word after } }
  else s

/-- Every running timer loses a millisecond; an expired one stays at 0 until its expiry is taken (log 2, log 6). -/
def State.tickTimers (s : State) : State :=
  { s with
    liu := { l := s.liu.l.tick, i := s.liu.i.tick, p := s.liu.p.map PortState.tick }
    ie := { s.ie with slots := s.ie.slots.map (fun u => u.map (fun r => { r with timer := r.timer - 1 })) }
    pch := { s.pch with channels := s.pch.channels.map (fun c => { c with stallTimer := tickTimer c.stallTimer }) }
    sel := { s.sel with timer := tickTimer s.sel.timer } }

/-- An idle millisecond: timers run, and the DRAM may change by itself (log 2, log 3). -/
def State.tick (s : State) : State :=
  { (Config.upsets s.clock).foldl State.upset s.tickTimers with clock := s.clock + 1 }

end Sys2Proof.Machine
end

