-- ==== Sys2Proof/Machine/Operands.lean ====
section
/-! DEFINITION. The operand forms of the orders: each payload of 11.3 read field by field, and the field checks that
judge it (R6, R20, R27, R72, R75, R137, R150, R153). A field is kept as the number it travels as, so that a code no
table gives can be refused (R210). -/

namespace Sys2Proof.Machine

/-! ### Fields of a payload, most significant byte first -/

/-- A field of three bytes. -/
def word24At (p : Bytes) (o : Nat) : Nat := word16At p o * 256 + byteAt p (o + 2)

/-- A field of four bytes. -/
def word32At (p : Bytes) (o : Nat) : Nat := word16At p o * 65536 + word16At p (o + 2)

/-- Three bytes R, G and B (R210). -/
def rgbAt (p : Bytes) (o : Nat) : Rgb := { r := p.getD o 0, g := p.getD (o + 1) 0, b := p.getD (o + 2) 0 }

/-- `count` two-byte codes (R210). -/
def codesAt (p : Bytes) (o count : Nat) : List Nat := (List.range count).map (fun n => word16At p (o + 2 * n))

/-- A number as three bytes. -/
def bytes3 (n : Nat) : Bytes := bytes1 (n / 65536) ++ bytes2 n

/-- A number as four bytes. -/
def bytes4 (n : Nat) : Bytes := bytes2 (n / 65536) ++ bytes2 n

/-- A yes/no item (R210). -/
def bytesBool (b : Bool) : Bytes := bytes1 b.toNat

/-- A colour (R210). -/
def bytesRgb (c : Rgb) : Bytes := [c.r, c.g, c.b]

/-- Bytes sent as 0. -/
def zeros (n : Nat) : Bytes := List.replicate n 0#8

/-- A byte field that must be 0 or 1 (R210). -/
def bool? (n : Nat) : Option Bool :=
  match n with
  | 0 => some false
  | 1 => some true
  | _ => none

/-! ### Presence and references (R210) -/

/-- A portrait reference as an order carries it: presence byte, handle and generation. -/
structure RefForm where
  present : Nat
  handle : Nat
  generation : Nat
  deriving DecidableEq, Repr

/-- A reference whose presence byte is 0 or 1 and, when present, whose handle and generation are in range (R6, R20). -/
def refOk (f : RefForm) : Bool :=
  decide (f.present = 0) || (decide (f.present = 1) && decide (f.handle ≤ 16383) && decide (f.generation ≤ 15))

/-- The reference of a form in range; absent when the presence byte is 0. -/
def refOf (f : RefForm) : Option PortraitRef :=
  if f.present = 0 then none else some { handle := f.handle, generation := f.generation }

/-- A reference as an optional field. -/
def bytesRef (r : Option PortraitRef) : Bytes :=
  match r with
  | none => bytes1 0 ++ bytes2 0 ++ bytes1 0
  | some r => bytes1 1 ++ bytes2 r.handle ++ bytes1 r.generation

/-! ### Define Layout (R211, R6 to R8) -/

/-- The fields of a Define Layout, as they travel. -/
structure LayoutForm where
  number : Nat
  w : Nat
  h : Nat
  c : Nat
  r : Nat
  g : Nat
  v : Nat
  cap : Nat
  captionScale : Nat
  t : Nat
  titleScale : Nat
  headRatio : Nat
  eyeRatio : Nat
  alignment : Nat
  backdrop : Rgb
  ink : Rgb
  placeholder : RefForm
  ellipsis : Nat
  deriving DecidableEq, Repr

/-- The 29 bytes of a Define Layout, read (R211). -/
def readLayout (p : Bytes) : LayoutForm :=
  { number := byteAt p 0, w := word16At p 1, h := word16At p 3, c := byteAt p 5, r := byteAt p 6, g := byteAt p 7,
    v := byteAt p 8, cap := byteAt p 9, captionScale := byteAt p 10, t := word16At p 11, titleScale := byteAt p 13,
    headRatio := byteAt p 14, eyeRatio := byteAt p 15, alignment := byteAt p 16, backdrop := rgbAt p 17,
    ink := rgbAt p 20,
    placeholder := { present := byteAt p 23, handle := word16At p 24, generation := byteAt p 26 },
    ellipsis := word16At p 27 }

/-- The field check of R6. -/
def layoutFieldsOk (f : LayoutForm) : Bool :=
  decide (f.number ≤ 63)
    && decide (512 ≤ f.w) && decide (f.w ≤ 8192) && decide (512 ≤ f.h) && decide (f.h ≤ 8192)
    && decide (1 ≤ f.c) && decide (f.c ≤ 16) && decide (1 ≤ f.r) && decide (f.r ≤ 16)
    && (decide (f.captionScale = 1) || decide (f.captionScale = 2))
    && decide (f.t ≤ 1023)
    && (decide (f.titleScale = 1) || decide (f.titleScale = 2) || decide (f.titleScale = 4))
    && decide (f.alignment ≤ 1)
    && decide (f.ellipsis ≤ 4094)
    && refOk f.placeholder

/-- The ratio clamp of R7. -/
def clampRatio (n : Nat) : Nat := max 32 (min n 224)

/-- The geometry check of R8, without subtraction: W - (C - 1) g is not below 32 C, and H - T - R cap - (R - 1) v is
not below 32 R. -/
def geometryOk (f : LayoutForm) : Bool :=
  decide (32 * f.c + (f.c - 1) * f.g ≤ f.w)
    && decide (32 * f.r + f.t + f.r * f.cap + (f.r - 1) * f.v ≤ f.h)

/-- The checked and clamped fields that an accepted Define Layout stores (R7, R9). -/
def storedLayout (f : LayoutForm) : LayoutFields :=
  { w := f.w, h := f.h, c := f.c, r := f.r, g := f.g, v := f.v, cap := f.cap, captionScale := f.captionScale, t := f.t,
    titleScale := f.titleScale, headRatio := clampRatio f.headRatio, eyeRatio := clampRatio f.eyeRatio,
    alignment := if f.alignment = 0 then .left else .centred,
    backdrop := f.backdrop, ink := f.ink, placeholder := refOf f.placeholder, ellipsis := f.ellipsis }

/-- The RATIO_CLAMPED indication: 0 none, 1 head ratio, 2 eye ratio, 3 both (R7, R211). -/
def clampIndication (f : LayoutForm) : Nat :=
  (if clampRatio f.headRatio = f.headRatio then 0 else 1) + (if clampRatio f.eyeRatio = f.eyeRatio then 0 else 2)

/-- A layout's stored fields as the Define Layout payload from offset 1 onward (R212). -/
def bytesLayout (f : LayoutFields) : Bytes :=
  bytes2 f.w ++ bytes2 f.h ++ bytes1 f.c ++ bytes1 f.r ++ bytes1 f.g ++ bytes1 f.v ++ bytes1 f.cap
    ++ bytes1 f.captionScale ++ bytes2 f.t ++ bytes1 f.titleScale ++ bytes1 f.headRatio ++ bytes1 f.eyeRatio
    ++ bytes1 (match f.alignment with | .left => 0 | .centred => 1)
    ++ bytesRgb f.backdrop ++ bytesRgb f.ink ++ bytesRef f.placeholder ++ bytes2 f.ellipsis

/-! ### Add Subject and Update Subject (R211, R20) -/

/-- The fields of an Add Subject or Update Subject, as they travel. -/
structure SubjectForm where
  classNo : Nat
  id : Nat
  role : Nat
  sortKey : Nat
  ref : RefForm
  count : Nat
  slot : List Nat
  deriving DecidableEq, Repr

/-- The 95 bytes of an Add Subject or Update Subject, read (R211). -/
def readSubject (p : Bytes) : SubjectForm :=
  { classNo := word16At p 0, id := word24At p 2, role := byteAt p 5, sortKey := word32At p 6,
    ref := { present := byteAt p 10, handle := word16At p 11, generation := byteAt p 13 },
    count := byteAt p 14, slot := codesAt p 15 40 }

/-- The caption of a subject form: the first `count` codes of its slot (R210). -/
def captionOf (f : SubjectForm) : List Nat := f.slot.take f.count

/-- The caption check of R20: 1 to 40 codes of at most 4,095, at most one break mark, and it neither first nor last. -/
def captionOk (count : Nat) (codes : List Nat) : Bool :=
  decide (1 ≤ count) && decide (count ≤ 40)
    && codes.all (fun c => decide (c ≤ Config.breakMark))
    && decide (codes.count Config.breakMark ≤ 1)
    && decide (codes.head? ≠ some Config.breakMark)
    && decide (codes.getLast? ≠ some Config.breakMark)

/-- The field checks of R20. -/
def subjectFieldsOk (f : SubjectForm) : Bool :=
  decide (f.role ≤ 1) && captionOk f.count (captionOf f) && refOk f.ref

/-- The subject record of a form in range (R20). -/
def subjectOf (f : SubjectForm) : Subject :=
  { id := f.id, role := if f.role = 0 then .staff else .student, sortKey := f.sortKey, caption := captionOf f,
    ref := refOf f.ref }

/-- A glyph string: a count byte and a fixed slot of two-byte codes (R210). -/
def bytesString (size : Nat) (codes : List Nat) : Bytes :=
  bytes1 codes.length ++ (codes.map bytes2).flatten ++ zeros (2 * (size - codes.length))

/-! ### Set Title (R27, R211) -/

/-- The title check of R27: at most 64 codes, each at most 4,094. -/
def titleOk (count : Nat) (codes : List Nat) : Bool :=
  decide (count ≤ 64) && codes.all (fun c => decide (c ≤ 4094))

/-- The title of a Set Title payload: the first `count` codes of its slot (R210). -/
def readTitle (p : Bytes) : List Nat := (codesAt p 3 64).take (byteAt p 2)

/-! ### Begin Upload and Put Pixels (R72, R73, R75, R211) -/

/-- The fields of a Begin Upload, as they travel. -/
structure UploadForm where
  handle : Nat
  mode : Nat
  width : Nat
  height : Nat
  faceCentre : Nat
  eyeRow : Nat
  faceHeight : Nat
  crc : BitVec 32
  deriving DecidableEq, Repr

/-- The 17 bytes of a Begin Upload, read (R211). -/
def readUpload (p : Bytes) : UploadForm :=
  { handle := word16At p 0, mode := byteAt p 2, width := word16At p 3, height := word16At p 5,
    faceCentre := word16At p 7, eyeRow := word16At p 9, faceHeight := word16At p 11,
    crc := BitVec.ofNat 32 (word32At p 13) }

/-- The field check of R72, step 1. -/
def uploadFieldsOk (f : UploadForm) : Bool :=
  decide (f.handle ≤ 16383) && decide (f.mode ≤ 1)
    && decide (128 ≤ f.width) && decide (f.width ≤ 2048) && decide (160 ≤ f.height) && decide (f.height ≤ 2560)

/-- The upload mode a code names (R213). -/
def modeOf (n : Nat) : UploadMode := if n = 0 then .new else .replace

/-- The face box clamp of R73. -/
def clampBox (f : UploadForm) : UploadForm :=
  { f with
    faceCentre := min f.faceCentre (f.width - 1)
    eyeRow := min f.eyeRow (f.height - 1)
    faceHeight := max 16 (min f.faceHeight f.height) }

/-- The box-clamped attribute of R73. -/
def boxClamped (f : UploadForm) : Bool := decide (clampBox f ≠ f)

/-- Clusters of an image: ceil(width x height x 3 / 65,536) (R51, R72). -/
def clustersOf (width height : Nat) : Nat := (width * height * 3 + 65535) / 65536

/-- The fields of a Put Pixels, as they travel. -/
structure PixelsForm where
  slot : Nat
  handle : Nat
  offset : Nat
  count : Nat
  bytes : Bytes
  deriving DecidableEq, Repr

/-- The bytes of a Put Pixels, read (R211). -/
def readPixels (p : Bytes) : PixelsForm :=
  { slot := byteAt p 0, handle := word16At p 1, offset := word32At p 3, count := word16At p 7, bytes := p.drop 9 }

/-! ### Load Glyph (R137, R210, R211) -/

/-- A quadrant of 32 bytes, first byte most significant (R210). -/
def quadrantAt (p : Bytes) (o : Nat) : BitVec 256 :=
  BitVec.ofNat 256 ((List.range 32).foldl (fun acc n => acc * 256 + byteAt p (o + n)) 0)

/-- A quadrant as 32 bytes (R210). -/
def bytesQuadrant (q : BitVec 256) : Bytes := (List.range 32).map (fun n => (q >>> (8 * (31 - n))).setWidth 8)

/-- A mask as 128 bytes: upper left, upper right, lower left, lower right (R210). -/
def bytesMask (m : Mask) : Bytes :=
  bytesQuadrant m.upperLeft ++ bytesQuadrant m.upperRight ++ bytesQuadrant m.lowerLeft ++ bytesQuadrant m.lowerRight

/-- The mask of a Load Glyph: four quadrants for FULL, the two left ones for NARROW with the right ones clear (R137). -/
def readMask (p : Bytes) : Mask :=
  if byteAt p 3 = 1 then
    { upperLeft := quadrantAt p 4, upperRight := quadrantAt p 36, lowerLeft := quadrantAt p 68,
      lowerRight := quadrantAt p 100 }
  else
    { upperLeft := quadrantAt p 4, upperRight := 0, lowerLeft := quadrantAt p 36, lowerRight := 0 }

/-- The field check of R137, step 1: code, advance, load form (0 NARROW, 1 FULL), and NARROW within 16 columns. -/
def glyphFieldsOk (p : Bytes) : Bool :=
  decide (word16At p 0 ≤ 4094) && decide (1 ≤ byteAt p 2) && decide (byteAt p 2 ≤ 32)
    && (decide (byteAt p 3 = 1) || (decide (byteAt p 3 = 0) && decide (byteAt p 2 ≤ 16)))

/-! ### Configure Channel (R150, R211, R213) -/

/-- The channel mode of a code (R213). -/
def mode? (n : Nat) : Option ChannelMode :=
  match n with
  | 0 => some .page
  | 1 => some .row
  | 2 => some .band
  | _ => none

/-- The trigger source of a code; code 3 is not given (R213). -/
def source? (n : Nat) : Option TriggerSource :=
  match n with
  | 0 => some .immediate
  | 1 => some .sheet
  | 2 => some .software
  | 4 => some (.chained 0)
  | 5 => some (.chained 1)
  | 6 => some (.chained 2)
  | 7 => some (.chained 3)
  | _ => none

/-- The band order of a code (R213). -/
def order? (n : Nat) : Option BandOrder :=
  match n with
  | 0 => some .forward
  | 1 => some .reverse
  | _ => none

/-- The six configuration items of a channel (R148). -/
structure Configuration where
  mode : ChannelMode
  source : TriggerSource
  order : BandOrder
  mirror : Bool
  bandHeight : Nat
  stallWindow : Nat
  deriving DecidableEq, Repr

/-- A Configure Channel payload that passes the first check of R150; `none` where it is refused BAD_FIELD. -/
def readConfiguration (p : Bytes) : Option Configuration :=
  match mode? (byteAt p 0), source? (byteAt p 1), order? (byteAt p 2), bool? (byteAt p 3) with
  | some mode, some source, some order, some mirror =>
    let bandHeight := byteAt p 4
    if (bandHeight = 16 ∨ bandHeight = 32 ∨ bandHeight = 64) ∧ ¬ (mode = .row ∧ order = .reverse) then
      some { mode, source, order, mirror, bandHeight, stallWindow := byteAt p 5 }
    else none
  | _, _, _, _ => none

/-! ### The length of a payload (R195, R211) -/

/-- The length an order's layout gives; `none` for the two whose payloads vary (R211). -/
def Order.length? (o : Order) : Option Nat :=
  match o with
  | .openGlyphWindow | .closeGlyphWindow | .clearErrorLog | .hallClear | .enableChannel | .disableChannel
  | .sheetReady | .abortPage | .channelReset | .queryStore | .queryLink => some 0
  | .deleteLayout | .grantBands | .start | .queryLayout | .queryChannel => some 1
  | .deleteClass | .withdrawRebind | .freezeClass | .deletePortrait | .queryPortrait | .queryGlyph => some 2
  | .openClass | .rebindClass | .endUpload | .cancelUpload | .cancelPage | .queryClass => some 3
  | .queuePage => some 4
  | .removeSubject => some 5
  | .configureChannel => some 6
  | .beginUpload => some 17
  | .defineLayout => some 29
  | .addSubject | .updateSubject => some 95
  | .setTitle => some 131
  | .loadGlyph | .putPixels => none

/-- The length check of R195, step 4, and R211: a Load Glyph whose form byte is neither NARROW nor FULL goes on to the
Glyph Store. -/
def lengthOk (o : Order) (p : Bytes) : Bool :=
  match o with
  | .putPixels => decide (9 ≤ p.length) && decide (p.length = 9 + word16At p 7)
  | .loadGlyph =>
    decide (4 ≤ p.length) &&
      (if byteAt p 3 = 0 then decide (p.length = 68)
       else if byteAt p 3 = 1 then decide (p.length = 132)
       else true)
  | o => decide (Order.length? o = some p.length)

/-! ### Permission and readiness (R175, R198, R199, R200) -/

/-- Whether an order is permitted on a port (R198 to R200). A Start from a press port is permitted when it names that
port's channel, or when its payload holds no channel byte (R195). -/
def permitted (o : Order) (p : Port) (payload : Bytes) : Bool :=
  match o with
  | .defineLayout | .deleteLayout | .openClass | .deleteClass | .addSubject | .updateSubject | .removeSubject
  | .setTitle | .rebindClass | .withdrawRebind | .freezeClass | .openGlyphWindow | .closeGlyphWindow | .loadGlyph
  | .clearErrorLog | .hallClear => decide (p = .l)
  | .beginUpload | .putPixels | .endUpload | .cancelUpload | .deletePortrait => decide (p = .i)
  | .configureChannel | .enableChannel | .disableChannel | .queuePage | .cancelPage | .grantBands | .sheetReady
  | .abortPage | .channelReset =>
    match p with
    | .p _ => true
    | _ => false
  | .start =>
    match p with
    | .l => true
    | .i => false
    | .p k => payload.isEmpty || decide (byteAt payload 0 = k.val)
  | .queryPortrait | .queryClass | .queryLayout | .queryChannel | .queryStore | .queryGlyph | .queryLink => true

/-- Whether R175 names the order, so that it is answered NOT_READY while the store initialisation runs: every order but
the seven queries. -/
def needsReady (o : Order) : Bool :=
  match o with
  | .queryPortrait | .queryClass | .queryLayout | .queryChannel | .queryStore | .queryGlyph | .queryLink => false
  | _ => true

end Sys2Proof.Machine
end

