-- ==== Sys2Proof/Machine/Flags.lean ====
section
/-! DEFINITION. What the state says at a moment without holding it: liveness and readiness, the state of a channel, the
candidate and its wait, eligibility, the engine requests, and the counts of flagged cells. -/

namespace Sys2Proof.Machine

/-! ### Liveness and readiness (R11, R55) -/

/-- A reference is live when its entry has its generation and is READY (R55). -/
def State.live (s : State) (r : PortraitRef) : Bool :=
  decide ((s.entry r.handle).generation = r.generation) && decide ((s.entry r.handle).state = .ready)

/-- A layout is ready when it is DEFINED and its placeholder is absent or live (R11). -/
def State.layoutReady (s : State) (n : Nat) : Bool :=
  match (s.layout n).fields with
  | none => false
  | some f =>
    match f.placeholder with
    | none => true
    | some r => s.live r

/-! ### Jobs (R152) -/

/-- The job is QUEUED. -/
def Job.queued (j : Job) : Bool :=
  match j.stage with
  | .queued => true
  | _ => false

/-- The plan of a RENDERING job. -/
def Job.renderingPlan? (j : Job) : Option Plan :=
  match j.stage with
  | .rendering p => some p
  | _ => none

/-- The plan of a PLANNED job. -/
def Job.plannedPlan? (j : Job) : Option Plan :=
  match j.stage with
  | .planned p => some p
  | _ => none

/-- The snapshot of a job from its start step on (R92). -/
def Job.snap? (j : Job) : Option Snapshot :=
  match j.stage with
  | .queued => none
  | .planning snap => some snap
  | .planned p => some p.snap
  | .rendering p => some p.snap

/-- The plan of a job in PLANNED or RENDERING. -/
def Job.plan? (j : Job) : Option Plan :=
  match j.stage with
  | .planned p => some p
  | .rendering p => some p
  | _ => none

/-- The job is in flight: PLANNING, PLANNED or RENDERING (R18). -/
def Job.inFlight (j : Job) : Bool := !j.queued

/-! ### Channels (R149, R155, R157, R161, R167) -/

/-- The RENDERING job's plan, when the first job of the list is RENDERING. -/
def Channel.renderingPlan? (c : Channel) : Option Plan := c.jobs.head?.bind Job.renderingPlan?

/-- The PLANNED job's plan, when the first job of the list is PLANNED. -/
def Channel.plannedPlan? (c : Channel) : Option Plan := c.jobs.head?.bind Job.plannedPlan?

/-- States of a channel (R149). -/
inductive ChannelState where
  | off
  | idle
  | armed
  | running
  | paused
  deriving DecidableEq, Repr

/-- The state of a channel, fixed by its record (R149). -/
def Channel.state (c : Channel) : ChannelState :=
  if c.enabled then
    match c.renderingPlan?, c.rendering with
    | some _, some r => if r.inFlight ∨ r.started < r.released then .running else .paused
    | _, _ => if (c.plannedPlan?).isSome then .armed else .idle
  else .off

/-- A release is needed when the channel is ARMED or PAUSED (R157). -/
def Channel.releaseNeeded (c : Channel) : Bool := decide (c.state = .armed) || decide (c.state = .paused)

/-- The trigger flag counts as set: it is, or the source is IMMEDIATE (R155, R157). -/
def Channel.triggered (c : Channel) : Bool := c.flag || decide (c.source = .immediate)

/-- What a channel waits on its press for (R167): the kind of wait, and the page waited on. -/
inductive PressWait where
  | armed (seq : Nat)
  | paused (seq : Nat)
  | credit (seq : Nat)
  deriving DecidableEq, Repr

/-- The wait on the press that holds, if one does (R167). -/
def Channel.pressWait (c : Channel) : Option PressWait :=
  match c.state with
  | .armed => if c.source = .immediate then none else c.plannedPlan?.map (fun p => .armed p.snap.seq)
  | .paused => if c.source = .immediate then none else c.renderingPlan?.map (fun p => .paused p.snap.seq)
  | .running =>
    match c.rendering with
    | some r =>
      if ¬ r.inFlight ∧ r.started < r.released ∧ c.credits = 0 then c.renderingPlan?.map (fun p => .credit p.snap.seq)
      else none
    | none => none
  | .off | .idle => none

/-- The stall timer after a change of the record: stopped when no wait holds, running on through a wait that goes on,
and started with the full window when a wait begins; a window of 0 keeps it stopped (R167). -/
def settleTimer (before after : Channel) : Option Nat :=
  match after.pressWait with
  | none => none
  | some w =>
    if after.stallWindow = 0 then none
    else if before.pressWait = some w then before.stallTimer
    else some (after.stallWindow * 1000)

/-- Replace a channel record and settle its stall timer (R149, R167). -/
def State.putChannel (s : State) (k : Fin 4) (c : Channel) : State :=
  s.setChannel k { c with stallTimer := settleTimer (s.channel k) c }

/-- A channel requests the engine (R161). -/
def Channel.requests (c : Channel) : Bool :=
  match c.rendering with
  | some r => !r.abortPending && !r.inFlight && decide (r.started < r.released) && decide (1 ≤ c.credits)
  | none => false

/-! ### The planner's candidate (R89, R112) -/

/-- The first job of a list that is not RENDERING. -/
def firstNotRendering (jobs : List Job) : Option Job := jobs.find? (fun j => (Job.renderingPlan? j).isNone)

/-- The channel's candidate: the first job that is not RENDERING, when it is QUEUED (R89). -/
def Channel.candidate (c : Channel) : Option Job := (firstNotRendering c.jobs).filter Job.queued

/-- The Roster Unit's answer whether a class may be planned (R32). -/
def State.mayPlan (s : State) (n : Nat) : Bool :=
  decide ((s.classAt n).state ≠ .empty) && (s.classAt n).pending.isNone

/-- A channel is eligible for planning (R89). With a QUEUED candidate no job of the list is PLANNING or PLANNED. -/
def State.eligible (s : State) (k : Fin 4) : Bool :=
  let c := s.channel k
  c.enabled
    && c.jobs.all (fun j => j.queued || (Job.renderingPlan? j).isSome)
    && decide (s.gs.window = .closed)
    && (match c.candidate with
      | some j => s.mayPlan j.classNo
      | none => false)

/-- The wait of a candidate (R112). -/
inductive Wait where
  | none
  | disabled
  | glyphWindow
  | rebind
  | planner
  deriving DecidableEq, Repr

/-- The first wait of R112 that holds; NONE without a QUEUED candidate, and where none of them holds (log 23). -/
def State.wait (s : State) (k : Fin 4) : Wait :=
  let c := s.channel k
  match c.candidate with
  | none => .none
  | some j =>
    if ¬ c.enabled then .disabled
    else if s.gs.window ≠ .closed then .glyphWindow
    else if (s.classAt j.classNo).pending.isSome then .rebind
    else if s.eligible k ∧ s.pln.planning.any (fun other => decide (other ≠ k)) then .planner
    else .none

/-! ### Cell flags (R105, R106, R165) -/

/-- Cells of a list that satisfy a test. -/
def countCells (cells : List Cell) (test : Cell → Bool) : Nat := (cells.filter test).length

/-- The flag counts and title flags of a plan as it stands (R105, R165). -/
def flagCounts (p : Plan) : FlagCounts :=
  let n := countCells p.cells
  { noPortrait := n (fun c => decide (c.placeholder = some .noPortrait))
    stale := n (fun c => decide (c.placeholder = some .stale))
    notReady := n (fun c => decide (c.placeholder = some .notReady))
    damaged := n (fun c => decide (c.placeholder = some .damaged))
    scaleClamped := n (fun c => c.fitting.any Fitting.scaleClamped)
    shifted := n (fun c => c.fitting.any Fitting.shifted)
    short := n (fun c => c.fitting.any Fitting.short)
    truncated := n Cell.truncated
    glyphMissing := n Cell.glyphMissing
    captionOmitted := n Cell.captionOmitted
    damagedMidpage := n Cell.damagedMidpage
    titleTruncated := p.title.truncated
    titleGlyphMissing := p.title.glyphMissing
    titleOmitted := p.title.omitted }

/-- Every count 0 (R96). -/
def noFlags : FlagCounts :=
  { noPortrait := 0, stale := 0, notReady := 0, damaged := 0, scaleClamped := 0, shifted := 0, short := 0,
    truncated := 0, glyphMissing := 0, captionOmitted := 0, damagedMidpage := 0, titleTruncated := false,
    titleGlyphMissing := false, titleOmitted := false }

/-- Some cell of the plan carries DAMAGED_MIDPAGE (R164). -/
def Plan.defective (p : Plan) : Bool := p.cells.any Cell.damagedMidpage

/-- Every placed cell whose source is a handle that the test holds for takes DAMAGED_MIDPAGE (R184). -/
def Plan.flagDamage (p : Plan) (test : Nat → Bool) : Plan :=
  { p with cells := p.cells.map (fun c =>
      if c.source.any test then { c with damagedMidpage := true } else c) }

/-! ### Clusters -/

/-- The suspect mark of a chained cluster (R45). -/
def ClusterEntry.suspect (e : ClusterEntry) : Bool :=
  match e with
  | .linked _ m _ => m
  | .last m _ => m
  | _ => false

/-- The owner of a chained cluster (R44). -/
def ClusterEntry.owner? (e : ClusterEntry) : Option Owner :=
  match e with
  | .linked _ _ o => some o
  | .last _ o => some o
  | _ => none

end Sys2Proof.Machine
end

