-- ==== Sys2Proof/Machine/Records.lean ====
section
/-! DEFINITION. The codes of enumerated items (R213) and the records of notices and replies that several commands share
(R212). -/

namespace Sys2Proof.Machine

/-! ### Codes of R213 -/

/-- Role. -/
def Role.code (r : Role) : Nat := match r with | .staff => 0 | .student => 1
/-- Upload mode. -/
def UploadMode.code (m : UploadMode) : Nat := match m with | .new => 0 | .replace => 1
/-- Directory state. -/
def DirState.code (d : DirState) : Nat :=
  match d with
  | .free => 0
  | .filling => 1
  | .ready => 2
  | .damaged => 3
/-- Class state. -/
def ClassState.code (c : ClassState) : Nat := match c with | .empty => 0 | .opened => 1 | .frozen => 2
/-- Channel mode. -/
def ChannelMode.code (m : ChannelMode) : Nat := match m with | .page => 0 | .row => 1 | .band => 2
/-- Trigger source. -/
def TriggerSource.code (t : TriggerSource) : Nat :=
  match t with
  | .immediate => 0
  | .sheet => 1
  | .software => 2
  | .chained k => 4 + k.val
/-- Band order. -/
def BandOrder.code (o : BandOrder) : Nat := match o with | .forward => 0 | .reverse => 1
/-- Channel state. -/
def ChannelState.code (c : ChannelState) : Nat :=
  match c with
  | .off => 0
  | .idle => 1
  | .armed => 2
  | .running => 3
  | .paused => 4
/-- Job state. -/
def JobStage.code (j : JobStage) : Nat :=
  match j with
  | .queued => 0
  | .planning _ => 1
  | .planned _ => 2
  | .rendering _ => 3
/-- Glyph window. -/
def WindowState.code (w : WindowState) : Nat := match w with | .closed => 0 | .opening => 1 | .opened => 2
/-- Candidate wait. -/
def Wait.code (w : Wait) : Nat :=
  match w with
  | .none => 0
  | .disabled => 1
  | .glyphWindow => 2
  | .rebind => 3
  | .planner => 4
/-- Port. -/
def portCode (p : Port) : Nat := match p with | .l => 0 | .i => 1 | .p k => 2 + k.val
/-- Page Done result. -/
def PageResult.code (r : PageResult) : Nat :=
  match r with
  | .done => 0
  | .defect => 1
  | .aborted => 2
  | .stalled => 3
  | .emptyPage => 4
/-- Error log kind. -/
def FaultKind.code (k : FaultKind) : Nat := match k with | .read => 0 | .scrub => 1

/-- Results of an upload (R83). -/
inductive UploadOutcome where
  | stored
  | replaced
  | replacementPending
  | incomplete
  | crcMismatch
  | timedOut
  | cancelled
  | storeError
  | storeFull
  deriving DecidableEq, Repr

/-- Upload Result code. -/
def UploadOutcome.code (u : UploadOutcome) : Nat :=
  match u with
  | .stored => 0
  | .replaced => 1
  | .replacementPending => 2
  | .incomplete => 3
  | .crcMismatch => 4
  | .timedOut => 5
  | .cancelled => 6
  | .storeError => 7
  | .storeFull => 8

/-- Causes of a Job Cancelled (R170). -/
inductive CancelCause where
  | channelReset
  | hallClear
  | classDeleted
  deriving DecidableEq, Repr

/-- Job Cancelled cause code. -/
def CancelCause.code (c : CancelCause) : Nat := match c with | .channelReset => 0 | .hallClear => 1 | .classDeleted => 2

/-! ### Records -/

/-- The 37 bytes of a Page Done, and of the last-page record after its presence byte (R212). -/
def bytesPageDone (d : PageDone) : Bytes :=
  bytes1 d.channel.val ++ bytes2 d.seq ++ bytes2 d.classNo ++ bytes1 d.page ++ bytes1 d.result.code ++ bytes1 d.copies
    ++ bytes1 d.completed ++ bytes2 d.bands ++ bytesBool d.cut
    ++ bytes2 d.counts.noPortrait ++ bytes2 d.counts.stale ++ bytes2 d.counts.notReady ++ bytes2 d.counts.damaged
    ++ bytes2 d.counts.scaleClamped ++ bytes2 d.counts.shifted ++ bytes2 d.counts.short ++ bytes2 d.counts.truncated
    ++ bytes2 d.counts.glyphMissing ++ bytes2 d.counts.captionOmitted ++ bytes2 d.counts.damagedMidpage
    ++ bytesBool d.counts.titleTruncated ++ bytesBool d.counts.titleGlyphMissing ++ bytesBool d.counts.titleOmitted

/-- The contents of a Job Cancelled (R170): channel, class, page, state when removed, sequence number (0 before the
start step, R212), cause. -/
def bytesJobCancelled (k : Fin 4) (j : Job) (cause : CancelCause) : Bytes :=
  bytes1 k.val ++ bytes2 j.classNo ++ bytes1 j.page ++ bytes1 j.stage.code
    ++ bytes2 (match j.snap? with | some snap => snap.seq | none => 0) ++ bytes1 cause.code

/-- The error log record: kind, cluster, word offset, syndrome, owner and channel as optional fields (R187, R212). -/
def bytesLogRecord (r : LogRecord) : Bytes :=
  bytes1 r.kind.code ++ bytes4 r.cluster ++ bytes2 r.offset ++ [r.syndrome]
    ++ (match r.owner with | some h => bytes1 1 ++ bytes2 h | none => zeros 3)
    ++ (match r.channel with | some k => bytes1 1 ++ bytes1 k.val | none => zeros 2)

/-- A page end's notice on the channel's press port, and the last-page record (R164, step 1, R165). -/
def State.recordPageDone (s : State) (k : Fin 4) (d : PageDone) : State :=
  (s.notice (.p k) .pageDone (bytesPageDone d)).putChannel k { s.channel k with lastPage := some d }

end Sys2Proof.Machine
end

