-- ==== Sys2Proof/Machine/Orders.lean ====
section
/-! DEFINITION. Taking an order (R193, R195, R196): what happens to an order frame before it reaches its block. -/

namespace Sys2Proof.Machine

/-- What the LIU makes of an order frame that arrives. -/
inductive Admission where
  /-- The link is DOWN: no frame is taken from it (R191). -/
  | unheard
  /-- The frame fails the check of R193: it is dropped. -/
  | dropped
  /-- The order is answered by the LIU with a status and reaches no block (R195, steps 2 to 4). -/
  | answered (status : Status)
  /-- The order is passed to its block (R195, step 5). -/
  | handedOver
  deriving DecidableEq, Repr

/-- The frame check's conditions that the arriving frame's bytes alone do not decide, and the payload's size (R193). -/
def State.takesFrame (s : State) (p : Port) (payload : Bytes) : Bool :=
  decide (payload.length ≤ Config.payloadMax) && decide ((s.port p).backlog ≤ Config.backlogMax)

/-- The judgement of R195, in its order. -/
def admission (o : Order) (p : Port) (payload : Bytes) (s : State) : Admission :=
  if ¬ (s.port p).up then .unheard
  else if ¬ s.takesFrame p payload then .dropped
  else if ¬ permitted o p payload then .answered .notPermitted
  else if needsReady o ∧ s.phase ≠ .running then .answered .notReady
  else if ¬ lengthOk o payload then .answered .badField
  else .handedOver

/-- Take an order: `block` is what its block does with it (R195). The arrival restarts the silence timer, also of a
frame that is dropped (R191, R193). -/
def takeOrder (o : Order) (p : Port) (tag : Byte) (payload : Bytes) (s : State) (block : State → Result) : Result :=
  match admission o p payload s with
  | .unheard => .next s
  | .dropped => .next ((s.arrival p).dropFrame p)
  | .answered status => .next ((s.arrival p).reply p tag o.code status [])
  | .handedOver => block (s.arrival p)

/-- Where an order's answer goes: the port it came from, its tag and its message code (R196). -/
structure Sender where
  port : Port
  tag : Byte
  code : BitVec 16
  deriving DecidableEq, Repr

/-- Answer OK with the order's result fields. -/
def State.ok (s : State) (from_ : Sender) (fields : Bytes) : State := s.reply from_.port from_.tag from_.code .ok fields

/-- Refuse an order with a status alone (R210). -/
def State.refuse (s : State) (from_ : Sender) (status : Status) : State :=
  s.reply from_.port from_.tag from_.code status []

end Sys2Proof.Machine
end

