-- ==== Sys2Proof/Machine/Store.lean ====
section
/-! DEFINITION. The Store Controller: chains, counts, reservations, allocation, and reads and writes of the store (3.1 to
3.4, 9.1). -/

namespace Sys2Proof.Machine

/-! ### Chains (R43, R44, R48) -/

/-- The clusters of the chain that starts at a cluster: LINKED entries by their next numbers to the LAST entry (R43). -/
def chainFrom (map : Table ClusterEntry) (fuel first : Nat) : List Nat :=
  match fuel with
  | 0 => []
  | n + 1 =>
    match Table.get .free map first with
    | .linked next _ _ => first :: chainFrom map n next
    | .last _ _ => [first]
    | .free | .retired => []

/-- The clusters of a chain, first to last. -/
def State.chain (s : State) (first : Nat) : List Nat := chainFrom s.sc.map Config.clusters first

/-- The cluster at a position of the chain that starts at a cluster (R52); `none` past the LAST cluster. -/
def chainAt (map : Table ClusterEntry) (position first : Nat) : Option Nat :=
  match position with
  | 0 => some first
  | n + 1 =>
    match Table.get .free map first with
    | .linked next _ _ => chainAt map n next
    | _ => none

/-- A FREE cluster becomes RETIRED (R49). -/
def State.retireFree (s : State) (c : Nat) : State :=
  let s := s.setCluster c .retired
  { s with sc := { s.sc with freeCount := s.sc.freeCount - 1, retiredCount := s.sc.retiredCount + 1 } }

/-- One cluster of a chain that is freed: RETIRED if its suspect mark was set, else FREE (R48). A cluster that is in no
chain stays as it is. -/
def State.freeCluster (s : State) (c : Nat) : State :=
  if s.cluster c = .free ∨ s.cluster c = .retired then s
  else if (s.cluster c).suspect then
    let s := s.setCluster c .retired
    { s with sc := { s.sc with retiredCount := s.sc.retiredCount + 1 } }
  else
    let s := s.setCluster c .free
    { s with sc := { s.sc with freeCount := s.sc.freeCount + 1 } }

/-- Free a whole chain (R48). -/
def State.freeChain (s : State) (first : Nat) : State := (s.chain first).foldl State.freeCluster s

/-- A chained cluster with another owner kind. -/
def ClusterEntry.relabel (e : ClusterEntry) (kind : ChainKind) : ClusterEntry :=
  match e with
  | .linked next m o => .linked next m { o with kind }
  | .last m o => .last m { o with kind }
  | e => e

/-- Relabel every cluster of a chain (R44). -/
def State.relabelChain (s : State) (first : Nat) (kind : ChainKind) : State :=
  (s.chain first).foldl (fun s c => s.setCluster c ((s.cluster c).relabel kind)) s

/-- Set the suspect mark of a chained cluster (R45). -/
def State.markCluster (s : State) (c : Nat) : State :=
  match s.cluster c with
  | .linked next _ o => s.setCluster c (.linked next true o)
  | .last _ o => s.setCluster c (.last true o)
  | .free | .retired => s

/-- Clusters of a chain that carry the suspect mark (R65). -/
def State.markedIn (s : State) (first : Nat) : Nat :=
  ((s.chain first).filter (fun c => (s.cluster c).suspect)).length

/-! ### Reservations and allocation (R47, R50) -/

/-- A reservation request for n clusters is granted when the free count minus the reservation total is at least n
(R47). -/
def State.canReserve (s : State) (n : Nat) : Bool := decide (s.sc.reserved + n ≤ s.sc.freeCount)

/-- Grant a reservation (R47). -/
def State.reserve (s : State) (n : Nat) : State := { s with sc := { s.sc with reserved := s.sc.reserved + n } }

/-- Return a reservation (R46). -/
def State.unreserve (s : State) (n : Nat) : State := { s with sc := { s.sc with reserved := s.sc.reserved - n } }

/-- The lowest FREE cluster of `count` clusters from `start` up. -/
def firstFree (map : Table ClusterEntry) (count start : Nat) : Option Nat :=
  match count with
  | 0 => none
  | n + 1 => if Table.get .free map start = .free then some start else firstFree map n (start + 1)

/-- The cluster an allocation takes: the lowest FREE one from the cursor up, else from 0 up to the cursor (R50). -/
def State.nextFree (s : State) : Option Nat :=
  match firstFree s.sc.map (Config.clusters - s.sc.cursor) s.sc.cursor with
  | some c => some c
  | none => firstFree s.sc.map s.sc.cursor 0

/-- Take a FREE cluster as the new LAST cluster of an upload's chain, whose last cluster was `last?` (R50). -/
def State.appendCluster (s : State) (handle : Nat) (last? : Option Nat) (c : Nat) : State :=
  let owner : Owner := { handle, kind := .upload }
  let s := match last? with
    | none => s
    | some l =>
      match s.cluster l with
      | .last m o => s.setCluster l (.linked c m o)
      | _ => s
  let s := s.setCluster c (.last false owner)
  { s with sc := { s.sc with
      freeCount := s.sc.freeCount - 1
      reserved := s.sc.reserved - 1
      cursor := (c + 1) % Config.clusters } }

/-! ### Reads and writes (R42, R173) -/

/-- Write a byte; the check bits become valid for the word's whole new content (R173; log 22). -/
def State.writeByte (s : State) (a : Nat) (b : Byte) : State :=
  { s with sc := { s.sc with
      store := Memory.write s.sc.store a b
      errors := Table.set 0#72 s.sc.errors (a / 8) 0#72 } }

/-- The word a corrected read returns: the held word with the named bit inverted, if that bit is one of the word's
(R173). -/
def correctWord (held : BitVec 64) (bit : Fin 72) : BitVec 64 :=
  if bit.val < 64 then held ^^^ (1#64 <<< bit.val) else held

/-- The scrubber writes a corrected word back (R178). -/
def State.writeBack (s : State) (w : Nat) (bit : Fin 72) : State :=
  { s with sc := { s.sc with
      store := Memory.writeWord s.sc.store w (correctWord (Memory.word s.sc.store w) bit)
      errors := Table.set 0#72 s.sc.errors w 0#72 } }

/-- How a word reads (R173). -/
def State.wordFault (s : State) (w : Nat) : Option WordFault := readsAs (Table.get 0#72 s.sc.errors w)

/-- The word of the store that holds a byte of an image, by the first cluster of its chain and the image offset (R51,
R52); `none` past the end of the chain. -/
def wordOfOffset (map : Table ClusterEntry) (first offset : Nat) : Option Nat :=
  (chainAt map (offset / Config.clusterBytes) first).map
    (fun c => c * Config.clusterWords + offset % Config.clusterBytes / 8)

end Sys2Proof.Machine
end

