-- ==== Sys2Proof/Machine/Layouts.lean ====
section
/-! DEFINITION. The Layout Table and the Roster Unit's part in it: binding counts, the switch of a pending rebind, and
the meanings of the layout orders (chapter 1; R30, R31). -/

namespace Sys2Proof.Machine

/-! ### Binding counts (R13, R14) -/

/-- Grant a bind request (R13): the count rises by 1. -/
def State.bind (s : State) (n : Nat) : State :=
  s.setLayout n { s.layout n with bindings := (s.layout n).bindings + 1 }

/-- A release request (R14): the count falls by 1. -/
def State.release (s : State) (n : Nat) : State :=
  s.setLayout n { s.layout n with bindings := (s.layout n).bindings - 1 }

/-- A release request for a layout that may be absent. -/
def State.release? (s : State) (n : Option Nat) : State :=
  match n with
  | some n => s.release n
  | none => s

/-! ### The switch of a pending rebind (R30, R31) -/

/-- Evaluate the switch condition of a class: in-flight count 0 and the pending layout ready (R30). At the switch the
pending layout becomes the bound layout, the old one is released, and Rebind Done is sent on port L. -/
def State.evalSwitch (s : State) (c : Nat) : State :=
  let r := s.classAt c
  match r.pending with
  | none => s
  | some n =>
    if r.inFlight = 0 ∧ s.layoutReady n then
      ((s.setClass c { r with bound := some n, pending := none }).release? r.bound).notice .l .rebindDone
        (bytes2 c ++ bytes1 n)
    else s

/-- The LT reports a layout with a binding count above 0 that has become ready, and the RU evaluates the classes whose
pending layout it is (R12, R31), in rising class number, which no rule states (log 11). -/
def State.reportReady (s : State) (n : Nat) : State :=
  if 0 < (s.layout n).bindings ∧ s.layoutReady n then
    (s.ru.classes.map Prod.fst).foldl
      (fun s c => if (s.classAt c).pending = some n then s.evalSwitch c else s) s
  else s

/-- The PDIR reports that an entry has entered READY: every DEFINED layout whose placeholder names the handle is
evaluated again (R12), in rising layout number, which no rule states (log 11). -/
def State.reportEntry (s : State) (h : Nat) : State :=
  (s.layouts.map Prod.fst).foldl
    (fun s n =>
      if (s.layout n).fields.any (fun f => f.placeholder.any (fun r => decide (r.handle = h))) then s.reportReady n
      else s) s

/-! ### Meanings -/

/-- What the Layout Table does with a Define Layout (R5 to R9). -/
def State.defineLayout (s : State) (from_ : Sender) (f : LayoutForm) : State :=
  if ¬ layoutFieldsOk f then s.refuse from_ .badField
  else if ¬ geometryOk f then s.refuse from_ .badGeometry
  else if 0 < (s.layout f.number).bindings then s.refuse from_ .inUse
  else
    ((s.ok from_ (bytes1 (clampIndication f))).setLayout f.number
      { s.layout f.number with fields := some (storedLayout f) }).reportReady f.number

/-- DEFINE_LAYOUT (R5). -/
def execDefineLayout (port : Port) (tag : Byte) (payload : Bytes) (s : State) : Result :=
  takeOrder .defineLayout port tag payload s
    (fun s => .next (s.defineLayout ⟨port, tag, Order.code .defineLayout⟩ (readLayout payload)))

/-- What the Layout Table does with a Delete Layout (R10). -/
def State.deleteLayout (s : State) (from_ : Sender) (n : Nat) : State :=
  if 63 < n then s.refuse from_ .badField
  else if (s.layout n).fields.isNone then s.refuse from_ .notFound
  else if 0 < (s.layout n).bindings then s.refuse from_ .inUse
  else (s.ok from_ []).setLayout n { s.layout n with fields := none }

/-- DELETE_LAYOUT (R10). -/
def execDeleteLayout (port : Port) (tag : Byte) (payload : Bytes) (s : State) : Result :=
  takeOrder .deleteLayout port tag payload s
    (fun s => .next (s.deleteLayout ⟨port, tag, Order.code .deleteLayout⟩ (byteAt payload 0)))

/-- The cell width of a layout: floor((W - (C - 1) g) / C) (R8, R98). -/
def cellWidth (f : LayoutFields) : Nat := (f.w - (f.c - 1) * f.g) / f.c

/-- The cell height of a layout: floor((H - T - R cap - (R - 1) v) / R) (R8, R99). -/
def cellHeight (f : LayoutFields) : Nat := (f.h - f.t - f.r * f.cap - (f.r - 1) * f.v) / f.r

/-- The result fields of a Query Layout: state, binding count, stored fields, cell width and height, readiness; 0 where
they do not apply (R15, R212). -/
def State.bytesLayoutReply (s : State) (n : Nat) : Bytes :=
  let r := s.layout n
  match r.fields with
  | none => bytes1 0 ++ bytes2 r.bindings ++ zeros 28 ++ zeros 5
  | some f =>
    bytes1 1 ++ bytes2 r.bindings ++ bytesLayout f ++ bytes2 (cellWidth f) ++ bytes2 (cellHeight f)
      ++ bytesBool (s.layoutReady n)

/-- What the Layout Table answers a Query Layout (R15). -/
def State.queryLayout (s : State) (from_ : Sender) (n : Nat) : State :=
  if 63 < n then s.refuse from_ .badField else s.ok from_ (s.bytesLayoutReply n)

/-- QUERY_LAYOUT (R15). -/
def execQueryLayout (port : Port) (tag : Byte) (payload : Bytes) (s : State) : Result :=
  takeOrder .queryLayout port tag payload s
    (fun s => .next (s.queryLayout ⟨port, tag, Order.code .queryLayout⟩ (byteAt payload 0)))

end Sys2Proof.Machine
end

