-- ==== Sys2Proof/Machine/Classes.lean ====
section
/-! DEFINITION. The Roster Unit: rosters in roster order, in-flight counts, and the meanings of the class orders
(chapter 2). -/

namespace Sys2Proof.Machine

/-! ### Roster order (R21) -/

/-- One subject record stands before another: STAFF before STUDENT, then sort key, then subject id (R21). -/
def standsBefore (a b : Subject) : Bool :=
  decide (a.role.code < b.role.code)
    || (decide (a.role = b.role)
      && (decide (a.sortKey < b.sortKey) || (decide (a.sortKey = b.sortKey) && decide (a.id < b.id))))

/-- A record's position: the number of records that stand before it (R21). -/
def positionIn (roster : List Subject) (x : Subject) : Nat := (roster.filter (fun y => standsBefore y x)).length

/-- Insert a record at its position (R21, R24). -/
def insertSubject (roster : List Subject) (x : Subject) : List Subject :=
  match roster with
  | [] => [x]
  | y :: rest => if standsBefore y x then y :: insertSubject rest x else x :: y :: rest

/-- The records of a roster but that of a subject id. -/
def withoutSubject (roster : List Subject) (id : Nat) : List Subject := roster.filter (fun y => decide (y.id ≠ id))

/-- A record of the roster holds the subject id. -/
def holdsId (roster : List Subject) (id : Nat) : Bool := roster.any (fun y => decide (y.id = id))

/-- A record of the roster names the handle of a reference (R21, R24). -/
def namesHandle (roster : List Subject) (r : Option PortraitRef) : Bool :=
  match r with
  | none => false
  | some r => roster.any (fun y => y.ref.any (fun q => decide (q.handle = r.handle)))

/-! ### In-flight counts (R18) -/

/-- The planner raises the in-flight count of a class (R18). -/
def State.raiseInFlight (s : State) (c : Nat) : State :=
  s.setClass c { s.classAt c with inFlight := (s.classAt c).inFlight + 1 }

/-- A channel lowers the in-flight count of a class; the fall to 0 evaluates a pending rebind (R18, R31). -/
def State.lowerInFlight (s : State) (c : Nat) : State :=
  let n := (s.classAt c).inFlight - 1
  let s := s.setClass c { s.classAt c with inFlight := n }
  if n = 0 then s.evalSwitch c else s

/-- The same at Hall Clear, where no switch takes place (R40). -/
def State.lowerInFlightQuietly (s : State) (c : Nat) : State :=
  s.setClass c { s.classAt c with inFlight := (s.classAt c).inFlight - 1 }

/-! ### Meanings -/

/-- What the Roster Unit does with an Open Class (R22). -/
def State.openClass (s : State) (from_ : Sender) (c n : Nat) : State :=
  if 511 < c ∨ 63 < n then s.refuse from_ .badField
  else if (s.classAt c).state ≠ .empty then s.refuse from_ .inUse
  else if (s.layout n).fields.isNone then s.refuse from_ .notFound
  else ((s.ok from_ []).bind n).setClass c { emptyClass with state := .opened, bound := some n }

/-- OPEN_CLASS (R22). -/
def execOpenClass (port : Port) (tag : Byte) (payload : Bytes) (s : State) : Result :=
  takeOrder .openClass port tag payload s
    (fun s => .next (s.openClass ⟨port, tag, Order.code .openClass⟩ (word16At payload 0) (byteAt payload 2)))

/-- The class checks of R23, R29 and R33, and what is done in an OPEN class. -/
def State.inOpenClass (s : State) (from_ : Sender) (c : Nat) (act : State) : State :=
  if 511 < c then s.refuse from_ .badField
  else
    match (s.classAt c).state with
    | .empty => s.refuse from_ .notFound
    | .frozen => s.refuse from_ .frozen
    | .opened => act

/-- Replace the roster of a class. -/
def State.setRoster (s : State) (c : Nat) (roster : List Subject) : State :=
  s.setClass c { s.classAt c with roster }

/-- Replace the number of free pool records. -/
def State.setPool (s : State) (n : Nat) : State := { s with ru := { s.ru with poolFree := n } }

/-- What the Roster Unit does with an Add Subject (R20, R23, R24). -/
def State.addSubject (s : State) (from_ : Sender) (f : SubjectForm) : State :=
  let x := subjectOf f
  let roster := (s.classAt f.classNo).roster
  if ¬ subjectFieldsOk f then s.refuse from_ .badField
  else s.inOpenClass from_ f.classNo
    (if holdsId roster x.id then s.refuse from_ .duplicate
     else if namesHandle roster x.ref then s.refuse from_ .duplicate
     else if Config.rosterMax ≤ roster.length then s.refuse from_ .rosterFull
     else if s.ru.poolFree = 0 then s.refuse from_ .poolFull
     else
      ((s.ok from_ (bytes1 (positionIn roster x))).setRoster f.classNo (insertSubject roster x)).setPool
        (s.ru.poolFree - 1))

/-- ADD_SUBJECT (R24). -/
def execAddSubject (port : Port) (tag : Byte) (payload : Bytes) (s : State) : Result :=
  takeOrder .addSubject port tag payload s
    (fun s => .next (s.addSubject ⟨port, tag, Order.code .addSubject⟩ (readSubject payload)))

/-- What the Roster Unit does with an Update Subject (R20, R23, R25). -/
def State.updateSubject (s : State) (from_ : Sender) (f : SubjectForm) : State :=
  let x := subjectOf f
  let roster := (s.classAt f.classNo).roster
  let others := withoutSubject roster x.id
  if ¬ subjectFieldsOk f then s.refuse from_ .badField
  else s.inOpenClass from_ f.classNo
    (if ¬ holdsId roster x.id then s.refuse from_ .notFound
     else if namesHandle others x.ref then s.refuse from_ .duplicate
     else (s.ok from_ (bytes1 (positionIn others x))).setRoster f.classNo (insertSubject others x))

/-- UPDATE_SUBJECT (R25). -/
def execUpdateSubject (port : Port) (tag : Byte) (payload : Bytes) (s : State) : Result :=
  takeOrder .updateSubject port tag payload s
    (fun s => .next (s.updateSubject ⟨port, tag, Order.code .updateSubject⟩ (readSubject payload)))

/-- What the Roster Unit does with a Remove Subject (R23, R26). -/
def State.removeSubject (s : State) (from_ : Sender) (c id : Nat) : State :=
  let roster := (s.classAt c).roster
  s.inOpenClass from_ c
    (if ¬ holdsId roster id then s.refuse from_ .notFound
     else ((s.ok from_ []).setRoster c (withoutSubject roster id)).setPool (s.ru.poolFree + 1))

/-- REMOVE_SUBJECT (R26). -/
def execRemoveSubject (port : Port) (tag : Byte) (payload : Bytes) (s : State) : Result :=
  takeOrder .removeSubject port tag payload s
    (fun s => .next (s.removeSubject ⟨port, tag, Order.code .removeSubject⟩ (word16At payload 0) (word24At payload 2)))

/-- What the Roster Unit does with a Set Title (R23, R27). -/
def State.setTitle (s : State) (from_ : Sender) (c count : Nat) (title : List Nat) : State :=
  if ¬ titleOk count title then s.refuse from_ .badField
  else s.inOpenClass from_ c ((s.ok from_ []).setClass c { s.classAt c with title })

/-- SET_TITLE (R27). -/
def execSetTitle (port : Port) (tag : Byte) (payload : Bytes) (s : State) : Result :=
  takeOrder .setTitle port tag payload s
    (fun s => .next (s.setTitle ⟨port, tag, Order.code .setTitle⟩ (word16At payload 0) (byteAt payload 2)
      (readTitle payload)))

/-- Release and clear the pending layout of a class, if it has one (R29, R33, R34). -/
def State.clearPending (s : State) (c : Nat) : State :=
  (s.release? (s.classAt c).pending).setClass c { s.classAt c with pending := none }

/-- What the Roster Unit does with a Rebind Class (R29): the reply comes before a switch and its notice. -/
def State.rebindClass (s : State) (from_ : Sender) (c n : Nat) : State :=
  if 63 < n then s.refuse from_ .badField
  else s.inOpenClass from_ c
    (if (s.classAt c).bound = some n then (s.ok from_ []).clearPending c
     else if (s.layout n).fields.isNone then s.refuse from_ .notFound
     else
      ((((s.ok from_ []).bind n).release? (s.classAt c).pending).setClass c
        { s.classAt c with pending := some n }).evalSwitch c)

/-- REBIND_CLASS (R29). -/
def execRebindClass (port : Port) (tag : Byte) (payload : Bytes) (s : State) : Result :=
  takeOrder .rebindClass port tag payload s
    (fun s => .next (s.rebindClass ⟨port, tag, Order.code .rebindClass⟩ (word16At payload 0) (byteAt payload 2)))

/-- What the Roster Unit does with a Withdraw Rebind (R33). -/
def State.withdrawRebind (s : State) (from_ : Sender) (c : Nat) : State :=
  s.inOpenClass from_ c ((s.ok from_ []).clearPending c)

/-- WITHDRAW_REBIND (R33). -/
def execWithdrawRebind (port : Port) (tag : Byte) (payload : Bytes) (s : State) : Result :=
  takeOrder .withdrawRebind port tag payload s
    (fun s => .next (s.withdrawRebind ⟨port, tag, Order.code .withdrawRebind⟩ (word16At payload 0)))

/-- Make an OPEN class FROZEN, withdrawing a pending rebind (R34). -/
def State.freeze (s : State) (c : Nat) : State :=
  let s' := s.clearPending c
  s'.setClass c { s'.classAt c with state := .frozen }

/-- What the Roster Unit does with a Freeze Class (R34): Rebind Withdrawn follows the reply. -/
def State.freezeClass (s : State) (from_ : Sender) (c : Nat) : State :=
  if 511 < c then s.refuse from_ .badField
  else
    match (s.classAt c).state with
    | .empty => s.refuse from_ .notFound
    | .frozen => s.ok from_ []
    | .opened =>
      let s' := (s.ok from_ []).freeze c
      match (s.classAt c).pending with
      | some n => s'.notice .l .rebindWithdrawn (bytes2 c ++ bytes1 n)
      | none => s'

/-- FREEZE_CLASS (R34). -/
def execFreezeClass (port : Port) (tag : Byte) (payload : Bytes) (s : State) : Result :=
  takeOrder .freezeClass port tag payload s
    (fun s => .next (s.freezeClass ⟨port, tag, Order.code .freezeClass⟩ (word16At payload 0)))

/-- Remove every QUEUED job of a class from a channel's list, with its Job Cancelled notice (R36, step 1). The
rule states no order among the notices of one port: the model takes list order (log 32). -/
def State.removeQueued (s : State) (c : Nat) (k : Fin 4) : State :=
  let ofClass (j : Job) : Bool := j.queued && decide (j.classNo = c)
  let ch := s.channel k
  let s := (ch.jobs.filter ofClass).foldl
    (fun s j => s.notice (.p k) .jobCancelled (bytesJobCancelled k j .classDeleted)) s
  s.putChannel k { ch with jobs := ch.jobs.filter (fun j => !ofClass j) }

/-- What the Roster Unit does with a Delete Class (R36). -/
def State.deleteClass (s : State) (from_ : Sender) (c : Nat) : State :=
  if 511 < c then s.refuse from_ .badField
  else if (s.classAt c).state = .empty then s.refuse from_ .notFound
  else if 0 < (s.classAt c).inFlight then s.refuse from_ .busy
  else
    let r := s.classAt c
    let s := fours.foldl (fun s k => s.removeQueued c k) (s.ok from_ [])
    (((s.setPool (s.ru.poolFree + r.roster.length)).release? r.bound).release? r.pending).setClass c emptyClass

/-- DELETE_CLASS (R36). -/
def execDeleteClass (port : Port) (tag : Byte) (payload : Bytes) (s : State) : Result :=
  takeOrder .deleteClass port tag payload s
    (fun s => .next (s.deleteClass ⟨port, tag, Order.code .deleteClass⟩ (word16At payload 0)))

/-! ### Query Class (R38) -/

/-- A subject record with all the fields of R20, in the order of its table; 0 after the presence byte where the reply
carries no record (R38, R212; log 12). -/
def bytesSubject (x : Option Subject) : Bytes :=
  match x with
  | none => zeros 94
  | some x =>
    bytes1 1 ++ bytes3 x.id ++ bytes1 x.role.code ++ bytes4 x.sortKey ++ bytesString 40 x.caption ++ bytesRef x.ref

/-- A layout number that may be absent, as an optional field. -/
def bytesPending (n : Option Nat) : Bytes :=
  match n with
  | none => zeros 2
  | some n => bytes1 1 ++ bytes1 n

/-- The result fields of a Query Class (R38): for an EMPTY class the state and the free records alone apply, and the
EMPTY record gives 0 for the rest (R212). -/
def State.bytesClassReply (s : State) (c position : Nat) : Bytes :=
  let r := s.classAt c
  bytes1 r.state.code ++ bytes1 (r.bound.getD 0) ++ bytesPending r.pending ++ bytes1 r.inFlight
    ++ bytes2 r.roster.length ++ bytesString 64 r.title ++ bytes2 s.ru.poolFree ++ bytesSubject r.roster[position]?

/-- What the Roster Unit answers a Query Class (R38). A position travels in one byte, so none is above 255. -/
def State.queryClass (s : State) (from_ : Sender) (c position : Nat) : State :=
  if 511 < c ∨ 255 < position then s.refuse from_ .badField else s.ok from_ (s.bytesClassReply c position)

/-- QUERY_CLASS (R38). -/
def execQueryClass (port : Port) (tag : Byte) (payload : Bytes) (s : State) : Result :=
  takeOrder .queryClass port tag payload s
    (fun s => .next (s.queryClass ⟨port, tag, Order.code .queryClass⟩ (word16At payload 0) (byteAt payload 2)))

end Sys2Proof.Machine
end

