-- ==== Sys2Proof/Machine/Directory.lean ====
section
/-! DEFINITION. The Portrait Directory: claims, pins, the swap, hand-overs and the ends of uploads as the directory sees
them, and its query (3.5 to 3.9). Delete Portrait stands in Ingest.lean, since it can end an upload. -/

namespace Sys2Proof.Machine

/-- The PDIR's answer to a claim: `none` when it is granted (R56). -/
def State.claimRefused (s : State) (h : Nat) (mode : UploadMode) : Option Status :=
  let e := s.entry h
  match mode with
  | .new => if e.state = .free then none else some .inUse
  | .replace =>
    if (e.state = .ready ∨ e.state = .damaged) ∧ e.replacement.isNone ∧ e.upload.isNone then none else some .busy

/-- A granted claim (R56). -/
def State.claim (s : State) (h : Nat) (k : Fin 4) (mode : UploadMode) : State :=
  let e := s.entry h
  match mode with
  | .new => s.setEntry h { e with state := .filling, upload := some (k, .new) }
  | .replace => s.setEntry h { e with upload := some (k, .replace) }

/-- The PDIR is told that an upload ended without a hand-over (R59). -/
def State.disclaim (s : State) (h : Nat) : State :=
  let e := s.entry h
  if e.state = .filling then s.setEntry h (freeEntry e.generation)
  else s.setEntry h { e with upload := none }

/-- Raise the pin count of a handle (R60). -/
def State.pin (s : State) (h : Nat) : State := s.setEntry h { s.entry h with pins := (s.entry h).pins + 1 }

/-- Give an entry a CURRENT image and make it READY, reporting an entry that enters READY (R54, R57, R58, R62). -/
def State.makeReady (s : State) (h : Nat) (e : DirEntry) (image : ImageRecord) : State :=
  let s := s.setEntry h { e with state := .ready, image := some image }
  if e.state = .ready then s else s.reportEntry h

/-- Free the CURRENT chain of an entry. -/
def State.freeImage (s : State) (image : Option ImageRecord) : State :=
  match image with
  | some r => s.freeChain r.first
  | none => s

/-- The swap of a pending replacement (R62): the old chain is freed, the PENDING chain becomes CURRENT, the entry
becomes READY, and Replacement Swapped is sent on port I. -/
def State.swap (s : State) (h : Nat) : State :=
  let e := s.entry h
  match e.replacement with
  | none => s
  | some new =>
    let s := (s.freeImage e.image).relabelChain new.first .current
    (s.makeReady h { e with replacement := none } new).notice .i .replacementSwapped
      (bytes2 h ++ bytes1 e.generation ++ bytes1 new.clusters)

/-- Release one pin of a handle; the fall to 0 swaps a pending replacement in (R61). -/
def State.unpin (s : State) (h : Nat) : State :=
  let n := (s.entry h).pins - 1
  let s := s.setEntry h { s.entry h with pins := n }
  if n = 0 then s.swap h else s

/-- The same at Hall Clear, where no swap takes place (R68). -/
def State.unpinQuietly (s : State) (h : Nat) : State :=
  s.setEntry h { s.entry h with pins := (s.entry h).pins - 1 }

/-- The handles of a pinned list. -/
def Snapshot.handles (p : Snapshot) : List Nat := p.pinned.map PinnedImage.handle

/-! ### Query Portrait (R65, R212) -/

/-- An image record's width, height, face box, box-clamped, cluster count and CRC-32, with the first cluster between
where it is given (R212). -/
def bytesImage (r : ImageRecord) (first : Bytes) : Bytes :=
  bytes2 r.width ++ bytes2 r.height ++ bytes2 r.faceCentre ++ bytes2 r.eyeRow ++ bytes2 r.faceHeight
    ++ bytesBool r.boxClamped ++ first ++ bytes1 r.clusters ++ bytes4 r.crc.toNat

/-- The result fields of a Query Portrait: the 44 bytes of R212 after the status. -/
def State.bytesPortraitReply (s : State) (h : Nat) : Bytes :=
  let e := s.entry h
  bytes1 e.state.code ++ bytes1 e.generation ++ bytes1 e.pins
    ++ (match e.upload with
      | none => zeros 2
      | some (k, mode) => bytes1 (mode.code + 1) ++ bytes1 k.val)
    ++ (match e.image with
      | none => zeros 21
      | some r => bytesImage r (bytes4 r.first) ++ bytes1 (s.markedIn r.first))
    ++ (match e.replacement with
      | none => zeros 17
      | some r => bytes1 1 ++ bytesImage r [])

/-- What the Portrait Directory answers a Query Portrait (R65). -/
def State.queryPortrait (s : State) (from_ : Sender) (h : Nat) : State :=
  if 16383 < h then s.refuse from_ .badField else s.ok from_ (s.bytesPortraitReply h)

/-- QUERY_PORTRAIT (R65). -/
def execQueryPortrait (port : Port) (tag : Byte) (payload : Bytes) (s : State) : Result :=
  takeOrder .queryPortrait port tag payload s
    (fun s => .next (s.queryPortrait ⟨port, tag, Order.code .queryPortrait⟩ (word16At payload 0)))

end Sys2Proof.Machine
end

