-- ==== Sys2Proof/Machine/Glyphs.lean ====
section
/-! DEFINITION. The Glyph Store: the glyph window, the in-flight page count, and the meanings of the glyph orders
(7.1, 7.2). -/

namespace Sys2Proof.Machine

/-- Number of LOADED records (R135, R139). -/
def State.loadedCount (s : State) : Nat := s.gs.glyphs.length

/-- Replace the glyph window's state. -/
def State.setWindow (s : State) (w : WindowState) : State := { s with gs := { s.gs with window := w } }

/-- The planner raises the in-flight page count (R133). -/
def State.raisePages (s : State) : State := { s with gs := { s.gs with inFlight := s.gs.inFlight + 1 } }

/-- A job leaves flight: the in-flight page count falls, and its fall to 0 opens an OPENING window with its notice
(R133, R135). -/
def State.lowerPages (s : State) : State :=
  let n := s.gs.inFlight - 1
  let s := { s with gs := { s.gs with inFlight := n } }
  if n = 0 ∧ s.gs.window = .opening then
    (s.setWindow .opened).notice .l .glyphWindowOpen (bytes2 s.loadedCount)
  else s

/-- What an Open Glyph Window makes of the window (R134). -/
def openedWindow (w : WindowState) (inFlight : Nat) : WindowState :=
  match w with
  | .closed => if inFlight = 0 then .opened else .opening
  | .opening => .opening
  | .opened => .opened

/-- OPEN_GLYPH_WINDOW (R134): the reply carries the window's state after the order. -/
def execOpenGlyphWindow (port : Port) (tag : Byte) (payload : Bytes) (s : State) : Result :=
  takeOrder .openGlyphWindow port tag payload s (fun s =>
    let w := openedWindow s.gs.window s.gs.inFlight
    .next ((s.ok ⟨port, tag, Order.code .openGlyphWindow⟩ (bytes1 w.code)).setWindow w))

/-- CLOSE_GLYPH_WINDOW (R136). -/
def execCloseGlyphWindow (port : Port) (tag : Byte) (payload : Bytes) (s : State) : Result :=
  takeOrder .closeGlyphWindow port tag payload s (fun s =>
    .next ((s.ok ⟨port, tag, Order.code .closeGlyphWindow⟩ []).setWindow .closed))

/-- Store a glyph record (R131, R137). -/
def State.setGlyph (s : State) (code : Nat) (g : Glyph) : State :=
  { s with gs := { s.gs with glyphs := Table.set none s.gs.glyphs code (some g) } }

/-- What the Glyph Store does with a Load Glyph (R137). -/
def State.loadGlyph (s : State) (from_ : Sender) (payload : Bytes) : State :=
  let code := word16At payload 0
  if ¬ glyphFieldsOk payload then s.refuse from_ .badField
  else if s.gs.window ≠ .opened then s.refuse from_ .notOpen
  else
    (s.ok from_ (bytesBool (s.glyph code).isSome)).setGlyph code
      { advance := byteAt payload 2, mask := readMask payload }

/-- LOAD_GLYPH (R137). -/
def execLoadGlyph (port : Port) (tag : Byte) (payload : Bytes) (s : State) : Result :=
  takeOrder .loadGlyph port tag payload s
    (fun s => .next (s.loadGlyph ⟨port, tag, Order.code .loadGlyph⟩ payload))

/-- The result fields of a Query Glyph (R139): window state, in-flight page count, LOADED records, and the record's
state (0 UNLOADED, 1 LOADED, 2 BREAK_MARK), advance and mask. -/
def State.bytesGlyphReply (s : State) (code : Nat) : Bytes :=
  bytes1 s.gs.window.code ++ bytes1 s.gs.inFlight ++ bytes2 s.loadedCount
    ++ (if code = Config.breakMark then bytes1 2 ++ zeros 129
        else
          match s.glyph code with
          | some g => bytes1 1 ++ bytes1 g.advance ++ bytesMask g.mask
          | none => zeros 130)

/-- QUERY_GLYPH (R139). -/
def execQueryGlyph (port : Port) (tag : Byte) (payload : Bytes) (s : State) : Result :=
  takeOrder .queryGlyph port tag payload s (fun s =>
    let code := word16At payload 0
    let from_ : Sender := ⟨port, tag, Order.code .queryGlyph⟩
    .next (if 4095 < code then s.refuse from_ .badField else s.ok from_ (s.bytesGlyphReply code)))

/-! ### Advances and masks (R131, R132, R140) -/

/-- The advance of a code: of its record when LOADED, 16 when UNLOADED, 0 for the break mark (R140). -/
def State.advance (s : State) (code : Nat) : Nat :=
  if code = Config.breakMark then 0
  else
    match s.glyph code with
    | some g => g.advance
    | none => Config.missingAdvance

/-- A code whose record is UNLOADED: a missing glyph (R131). The break mark is none. -/
def State.missing (s : State) (code : Nat) : Bool := decide (code ≠ Config.breakMark) && (s.glyph code).isNone

/-- The mask pixel in column u and row v (R132). -/
def maskPixel (m : Mask) (u v : Nat) : Bool :=
  let quadrant := if v < 16 then (if u < 16 then m.upperLeft else m.upperRight)
    else (if u < 16 then m.lowerLeft else m.lowerRight)
  quadrant.getLsbD (255 - (16 * (v % 16) + u % 16))

end Sys2Proof.Machine
end

