-- ==== Sys2Proof/Machine/Ingest.lean ====
section
/-! DEFINITION. The Ingest Engine: the meanings of the upload orders, the image CRC, hand-overs, and every way an upload
ends (chapter 4); with Delete Portrait, which can end one (R64). -/

namespace Sys2Proof.Machine

/-! ### The image CRC (R77) -/

/-- One bit step of the CRC-32 of R77: shift right, and combine with the reflected polynomial when a 1 falls out. -/
def crc32Bit (r : BitVec 32) : BitVec 32 :=
  if r.getLsbD 0 then (r >>> 1) ^^^ 0xEDB88320#32 else r >>> 1

/-- One byte of the CRC-32 of R77. -/
def crc32Byte (r : BitVec 32) (b : Byte) : BitVec 32 :=
  crc32Bit (crc32Bit (crc32Bit (crc32Bit (crc32Bit (crc32Bit (crc32Bit (crc32Bit (r ^^^ b.setWidth 32))))))))

/-- The register when a slot is opened (R77). -/
def crc32Start : BitVec 32 := 0xFFFFFFFF#32

/-- The CRC of the bytes received: the register with every bit inverted (R77). -/
def crc32Value (r : BitVec 32) : BitVec 32 := ~~~ r

/-! ### Ends of an upload (R80, R81, R83) -/

/-- A slot returns to IDLE and leaves the open list (R70, R71). -/
def State.closeSlot (s : State) (k : Fin 4) : State :=
  let s := s.setSlot k none
  { s with ie := { s.ie with openList := s.ie.openList.filter (fun j => decide (j ≠ k)) } }

/-- Clean up an upload that ends without a hand-over (R81): the partial chain is freed, the reservation returned, the
entry told, and the slot IDLE. -/
def State.cleanUp (s : State) (k : Fin 4) (u : UploadRecord) : State :=
  let s := match u.chain with
    | some (first, _) => s.freeChain first
    | none => s
  ((s.unreserve u.reserved).disclaim u.handle).closeSlot k

/-- The Upload Result of an upload that has ended, with the entry's generation after the event (R83); `clusters` is 0
where no chain was handed over. -/
def State.uploadResult (s : State) (k : Fin 4) (u : UploadRecord) (outcome : UploadOutcome) (clusters : Nat) : State :=
  s.notice .i .uploadResult
    (bytes1 k.val ++ bytes2 u.handle ++ bytes1 (s.entry u.handle).generation ++ bytes1 u.mode.code ++ bytes4 u.received
      ++ bytes1 outcome.code ++ bytes1 clusters)

/-- Fail an upload: clean up and send its Upload Result (R81, R83). -/
def State.failUpload (s : State) (k : Fin 4) (u : UploadRecord) (outcome : UploadOutcome) : State :=
  (s.cleanUp k u).uploadResult k u outcome 0

/-- The image record an upload hands over (R80). -/
def UploadRecord.image (u : UploadRecord) : ImageRecord :=
  { width := u.width, height := u.height, faceCentre := u.faceCentre, eyeRow := u.eyeRow, faceHeight := u.faceHeight,
    boxClamped := u.boxClamped, first := (u.chain.map Prod.fst).getD 0, clusters := u.held, crc := crc32Value u.crc }

/-- The hand-over of a complete image (R57, R58, R80). -/
def State.handOver (s : State) (k : Fin 4) (u : UploadRecord) : State :=
  let e := s.entry u.handle
  let image := u.image
  let s := s.closeSlot k
  match u.mode with
  | .new =>
    ((s.relabelChain image.first .current).makeReady u.handle { e with upload := none } image).uploadResult k u .stored
      image.clusters
  | .replace =>
    if e.pins = 0 then
      (((s.relabelChain image.first .current).freeImage e.image).makeReady u.handle { e with upload := none }
        image).uploadResult k u .replaced image.clusters
    else
      ((s.relabelChain image.first .pending).setEntry u.handle
        { e with upload := none, replacement := some image }).uploadResult k u .replacementPending image.clusters

/-! ### Begin Upload (R72 to R74) -/

/-- The lowest-numbered IDLE slot (R74). -/
def State.idleSlot (s : State) : Option (Fin 4) := fours.find? (fun k => (s.slot k).isNone)

/-- The record of a slot that a Begin Upload opens (R70, R74). -/
def openedUpload (f : UploadForm) : UploadRecord :=
  let box := clampBox f
  { handle := f.handle, mode := modeOf f.mode, width := f.width, height := f.height, faceCentre := box.faceCentre,
    eyeRow := box.eyeRow, faceHeight := box.faceHeight, boxClamped := boxClamped f, declaredCrc := f.crc,
    expected := f.width * f.height * 3, received := 0, crc := crc32Start, chain := none, held := 0,
    reserved := clustersOf f.width f.height, timer := Config.idleMs }

/-- An accepted Begin Upload (R74). -/
def State.openUpload (s : State) (k : Fin 4) (f : UploadForm) : State :=
  let s := (((s.claim f.handle k (modeOf f.mode)).reserve (clustersOf f.width f.height)).setSlot k
    (some (openedUpload f)))
  { s with ie := { s.ie with openList := s.ie.openList ++ [k] } }

/-- What the Ingest Engine does with a Begin Upload (R72). -/
def State.beginUpload (s : State) (from_ : Sender) (f : UploadForm) : State :=
  let n := clustersOf f.width f.height
  if ¬ uploadFieldsOk f then s.refuse from_ .badField
  else
    match s.claimRefused f.handle (modeOf f.mode) with
    | some status => s.refuse from_ status
    | none =>
      match s.idleSlot with
      | none => s.refuse from_ .slotsFull
      | some k =>
        if ¬ s.canReserve n then s.refuse from_ .storeFull
        else (s.ok from_ (bytes1 k.val ++ bytes1 n ++ bytesBool (boxClamped f))).openUpload k f

/-- BEGIN_UPLOAD (R72). -/
def execBeginUpload (port : Port) (tag : Byte) (payload : Bytes) (s : State) : Result :=
  takeOrder .beginUpload port tag payload s
    (fun s => .next (s.beginUpload ⟨port, tag, Order.code .beginUpload⟩ (readUpload payload)))

/-! ### Put Pixels (R75, R76) -/

/-- The slot and its record, when it is OPEN for a handle (R75, R79, R82). -/
def State.openFor (s : State) (slot handle : Nat) : Option (Fin 4 × UploadRecord) :=
  match four? slot with
  | none => none
  | some k =>
    match s.slot k with
    | some u => if u.handle = handle then some (k, u) else none
    | none => none

/-- Ask for an allocation for an upload (R50, R76); `none` where no cluster is FREE. -/
def State.allocate (s : State) (u : UploadRecord) : Option (State × UploadRecord) :=
  match s.nextFree with
  | none => none
  | some c =>
    some (s.appendCluster u.handle (u.chain.map Prod.snd) c,
      { u with
        chain := some (((u.chain.map Prod.fst).getD c), c)
        held := u.held + 1
        reserved := u.reserved - 1 })

/-- Write the next byte of an upload (R52, R76): a byte at image offset k x 65,536, k being the clusters held, first
takes a new cluster; the byte goes to the chain's last cluster and into the CRC register. -/
def State.putByte (s : State) (u : UploadRecord) (b : Byte) : Option (State × UploadRecord) :=
  let taken := if u.received = u.held * Config.clusterBytes then s.allocate u else some (s, u)
  match taken with
  | none => none
  | some (s, u) =>
    match u.chain with
    | none => none
    | some (_, last) =>
      some (s.writeByte (last * Config.clusterBytes + u.received % Config.clusterBytes) b,
        { u with received := u.received + 1, crc := crc32Byte u.crc b })

/-- Write a chunk, byte after byte (R76). -/
def State.putBytes (s : State) (u : UploadRecord) (bytes : Bytes) : Option (State × UploadRecord) :=
  match bytes with
  | [] => some (s, u)
  | b :: rest =>
    match s.putByte u b with
    | none => none
    | some (s, u) => s.putBytes u rest

/-- What the Ingest Engine does with a Put Pixels (R75, R76). -/
def State.putPixels (s : State) (from_ : Sender) (f : PixelsForm) : Result :=
  if 3 < f.slot ∨ 16383 < f.handle ∨ f.count = 0 ∨ 4080 < f.count then .next (s.refuse from_ .badField)
  else
    match s.openFor f.slot f.handle with
    | none => .next (s.refuse from_ .notOpen)
    | some (k, u) =>
      if f.offset ≠ u.received then
        .next (s.reply from_.port from_.tag from_.code .outOfOrder (bytes4 u.received))
      else if u.expected < f.offset + f.count then
        .next (s.reply from_.port from_.tag from_.code .overrun (bytes4 u.received))
      else
        match (s.ok from_ (bytes4 (u.received + f.count))).putBytes u f.bytes with
        | none => .fault .noClusterForUpload
        | some (s, u) => .next (s.setSlot k (some { u with timer := Config.idleMs }))

/-- PUT_PIXELS (R75). -/
def execPutPixels (port : Port) (tag : Byte) (payload : Bytes) (s : State) : Result :=
  takeOrder .putPixels port tag payload s
    (fun s => s.putPixels ⟨port, tag, Order.code .putPixels⟩ (readPixels payload))

/-! ### End Upload, Cancel Upload, the idle timer (R78, R79, R82) -/

/-- How a taken End Upload ends the upload (R79). -/
def State.endUploadOf (s : State) (k : Fin 4) (u : UploadRecord) : State :=
  if u.received < u.expected then s.failUpload k u .incomplete
  else if crc32Value u.crc ≠ u.declaredCrc then s.failUpload k u .crcMismatch
  else s.handOver k u

/-- The checks that End Upload and Cancel Upload share, and what follows the OK reply (R79, R82). -/
def State.onSlot (s : State) (from_ : Sender) (slot handle : Nat) (act : State → Fin 4 → UploadRecord → State) : State :=
  if 3 < slot ∨ 16383 < handle then s.refuse from_ .badField
  else
    match s.openFor slot handle with
    | none => s.refuse from_ .notOpen
    | some (k, u) => act (s.ok from_ []) k u

/-- END_UPLOAD (R79). -/
def execEndUpload (port : Port) (tag : Byte) (payload : Bytes) (s : State) : Result :=
  takeOrder .endUpload port tag payload s (fun s =>
    .next (s.onSlot ⟨port, tag, Order.code .endUpload⟩ (byteAt payload 0) (word16At payload 1) State.endUploadOf))

/-- CANCEL_UPLOAD (R82). -/
def execCancelUpload (port : Port) (tag : Byte) (payload : Bytes) (s : State) : Result :=
  takeOrder .cancelUpload port tag payload s (fun s =>
    .next (s.onSlot ⟨port, tag, Order.code .cancelUpload⟩ (byteAt payload 0) (word16At payload 1)
      (fun s k u => s.failUpload k u .cancelled)))

/-- IDLE_TIMER_EXPIRY (R78): due when the slot is OPEN and its timer has run out (log 6). -/
def execIdleTimerExpiry (slot : Fin 4) (s : State) : Result :=
  match s.slot slot with
  | some u => if u.timer = 0 then .next (s.failUpload slot u .timedOut) else .next s
  | none => .next s

/-- Every OPEN slot, in the order of the open list, with its record. -/
def State.openUploads (s : State) : List (Fin 4 × UploadRecord) :=
  s.ie.openList.filterMap (fun k => (s.slot k).map (fun u => (k, u)))

/-- Loss of the ingest link: every OPEN slot is abandoned, with no Upload Result (R84). -/
def State.abandonUploads (s : State) : State := s.openUploads.foldl (fun s ku => s.cleanUp ku.1 ku.2) s

/-! ### Delete Portrait (R64, R86) -/

/-- Delete a READY or DAMAGED entry with no pins (R64, steps 1 to 4): an open REPLACE upload fails CANCELLED, the
CURRENT chain is freed, the generation rises and the entry becomes FREE. -/
def State.deleteEntry (s : State) (h : Nat) (e : DirEntry) : State :=
  let generation := (e.generation + 1) % 16
  match e.upload.bind (fun ku => (s.slot ku.1).map (fun u => (ku.1, u))) with
  | some (k, u) =>
    (((s.cleanUp k u).freeImage e.image).setEntry h (freeEntry generation)).uploadResult k u .cancelled 0
  | none => (s.freeImage e.image).setEntry h (freeEntry generation)

/-- What the Portrait Directory does with a Delete Portrait (R64). -/
def State.deletePortrait (s : State) (from_ : Sender) (h : Nat) : State :=
  let e := s.entry h
  if 16383 < h then s.refuse from_ .badField
  else
    match e.state with
    | .free => s.refuse from_ .notFound
    | .filling => s.refuse from_ .busy
    | .ready | .damaged => if 0 < e.pins then s.refuse from_ .busy else (s.ok from_ []).deleteEntry h e

/-- DELETE_PORTRAIT (R64). -/
def execDeletePortrait (port : Port) (tag : Byte) (payload : Bytes) (s : State) : Result :=
  takeOrder .deletePortrait port tag payload s
    (fun s => .next (s.deletePortrait ⟨port, tag, Order.code .deletePortrait⟩ (word16At payload 0)))

end Sys2Proof.Machine
end

