-- ==== Sys2Proof/Machine/Fitting.lean ====
section
/-! DEFINITION. Grid fitting, head fitting and caption fitting: the arithmetic of planning completion (5.3, chapter 6.1 to
6.3, 7.3 to 7.5). -/

namespace Sys2Proof.Machine

/-! ### The grid (R98 to R101) -/

/-- Rows of the page that hold at least one of m placed cells (R100). -/
def occupiedRows (columns m : Nat) : Nat := (m + columns - 1) / columns

/-- The shift of the last occupied row, which holds k cells of C (R101). -/
def lastRowShift (f : LayoutFields) (px m : Nat) : Nat :=
  let k := m - (occupiedRows f.c m - 1) * f.c
  match f.alignment with
  | .left => 0
  | .centred => if 0 < m ∧ k < f.c then (f.c - k) * px / 2 else 0

/-- The grid of a page with m placed cells (R98, R99, R101). -/
def gridOf (f : LayoutFields) (m : Nat) : Grid :=
  let cw := cellWidth f
  let ch := cellHeight f
  let leftoverWidth := f.w - f.c * cw - (f.c - 1) * f.g
  let leftoverHeight := f.h - f.t - f.r * ch - f.r * f.cap - (f.r - 1) * f.v
  let px := cw + f.g
  { cw, ch, mx := leftoverWidth / 2, my := leftoverHeight / 2, px, py := ch + f.cap + f.v,
    occupiedRows := occupiedRows f.c m, shift := lastRowShift f px m }

/-- The origin of the i-th placed cell, with the last-row shift (R98 to R101). -/
def cellOrigin (f : LayoutFields) (g : Grid) (i : Nat) : Nat × Nat :=
  let row := i / f.c
  let x := g.mx + (i % f.c) * g.px
  ((if row + 1 = g.occupiedRows then x + g.shift else x), f.t + g.my + row * g.py)

/-! ### Head fitting (R114 to R119) -/

/-- The integer nearest to n / d, halves up (00_scope.md, Rounding). -/
def roundDiv (n d : Nat) : Nat := (n + d / 2) / d

/-- The head targets of a page (R114). -/
def targetsOf (f : LayoutFields) (g : Grid) : Targets :=
  { headHeight := roundDiv (g.ch * f.headRatio) 256, eyeRow := roundDiv (g.ch * f.eyeRatio) 256, centre := g.cw / 2 }

/-- The raw step of a face height (R115). -/
def rawStep (faceHeight headHeight : Nat) : Nat := roundDiv (faceHeight * 65536) headHeight

/-- The step clamp (R116). -/
def clampStep (n : Nat) : Nat := max 16384 (min n 262144)

/-- One axis of a crop window (R118, R119): the stored origin, whether it was shifted, whether the window is short. -/
def fitAxis (raw : Int) (span limit : Nat) : Int × Bool × Bool :=
  if span ≤ limit then
    let clamped := max 0 (min raw ((limit : Int) - (span : Int)))
    (clamped, decide (clamped ≠ raw), false)
  else (raw, false, true)

/-- The fitting of an image to the cells of a page (R115 to R120). -/
def fitImage (g : Grid) (t : Targets) (im : PinnedImage) : Fitting :=
  let raw := rawStep im.faceHeight t.headHeight
  let step := clampStep raw
  let x := fitAxis ((im.faceCentre * 65536 : Nat) - (t.centre * step : Nat)) ((g.cw - 1) * step)
    ((im.width - 1) * 65536)
  let y := fitAxis ((im.eyeRow * 65536 : Nat) - (t.eyeRow * step : Nat)) ((g.ch - 1) * step)
    ((im.height - 1) * 65536)
  { step, x0 := x.1, y0 := y.1, scaleClamped := decide (step ≠ raw), shifted := x.2.1 || y.2.1,
    short := x.2.2 || y.2.2 }

/-! ### Glyph runs (R140, R142) -/

/-- The width of a run at a scale (R140). -/
def State.runWidth (s : State) (scale : Nat) (codes : List Nat) : Nat := scale * (codes.map s.advance).sum

/-- The longest of the first `n`, `n - 1`, ... codes whose width plus `room` is at most `width` (R142). -/
def State.longestPrefix (s : State) (scale width room : Nat) (codes : List Nat) (n : Nat) : Option Nat :=
  if s.runWidth scale (codes.take n) + room ≤ width then some n
  else
    match n with
    | 0 => none
    | m + 1 => s.longestPrefix scale width room codes m

/-- A string cut to fit a width: the longest prefix of its codes, from none to all but one, that fits with the ellipsis
after it; `none` when even the ellipsis alone is too wide (R142). -/
def State.truncate (s : State) (scale width ellipsis : Nat) (codes : List Nat) : Option (List Nat) :=
  (s.longestPrefix scale width (s.runWidth scale [ellipsis]) codes (codes.length - 1)).map
    (fun n => codes.take n ++ [ellipsis])

/-- A line centred in a width (R143, R144). -/
def State.centredRun (s : State) (scale width : Nat) (codes : List Nat) : GlyphRun :=
  { codes, x := (width - s.runWidth scale codes) / 2 }

/-! ### Captions (R141 to R143) -/

/-- What the fitting of a caption gives a cell. -/
structure CaptionFit where
  lines : List (List Nat)
  truncated : Bool
  omitted : Bool
  deriving DecidableEq, Repr

/-- The codes before and after the break mark, when there is one (R141). -/
def splitAtBreak (codes : List Nat) : Option (List Nat × List Nat) :=
  if Config.breakMark ∈ codes then
    some (codes.takeWhile (fun c => decide (c ≠ Config.breakMark)),
      (codes.dropWhile (fun c => decide (c ≠ Config.breakMark))).drop 1)
  else none

/-- Truncation of a caption to one line (R142). -/
def State.cutCaption (s : State) (f : LayoutFields) (cw : Nat) (codes : List Nat) : CaptionFit :=
  match s.truncate f.captionScale cw f.ellipsis (codes.filter (fun c => decide (c ≠ Config.breakMark))) with
  | some line => { lines := [line], truncated := true, omitted := false }
  | none => { lines := [], truncated := false, omitted := true }

/-- The lines of a caption in a band of cap rows and cw columns (R141). -/
def State.fitCaption (s : State) (f : LayoutFields) (cw : Nat) (codes : List Nat) : CaptionFit :=
  let available := min 2 (f.cap / (32 * f.captionScale))
  if available = 0 then { lines := [], truncated := false, omitted := true }
  else if s.runWidth f.captionScale codes ≤ cw then { lines := [codes], truncated := false, omitted := false }
  else
    match splitAtBreak codes with
    | some (upper, lower) =>
      if available = 2 ∧ s.runWidth f.captionScale upper ≤ cw ∧ s.runWidth f.captionScale lower ≤ cw then
        { lines := [upper, lower], truncated := false, omitted := false }
      else s.cutCaption f cw codes
    | none => s.cutCaption f cw codes

/-- The y offset of a block of lines in the caption band (R143). -/
def blockOffset (f : LayoutFields) (lines : Nat) : Nat := (f.cap - lines * 32 * f.captionScale) / 2

/-! ### The title (R144) -/

/-- The title record of a plan (R144). With no line set its y offset is 0, which no rule states (log 35). -/
def State.fitTitle (s : State) (f : LayoutFields) (title : List Nat) : TitleRecord :=
  let none_ : TitleRecord := { line := none, y := 0, truncated := false, glyphMissing := false, omitted := false }
  let set (codes : List Nat) (truncated : Bool) : TitleRecord :=
    { line := some (s.centredRun f.titleScale f.w codes), y := (f.t - 32 * f.titleScale) / 2, truncated,
      glyphMissing := codes.any s.missing, omitted := false }
  if title = [] then none_
  else if f.t < 32 * f.titleScale then { none_ with omitted := true }
  else if s.runWidth f.titleScale title ≤ f.w then set title false
  else
    match s.truncate f.titleScale f.w f.ellipsis title with
    | some codes => set codes true
    | none => { none_ with omitted := true }

end Sys2Proof.Machine
end

