-- ==== Sys2Proof/Machine/Planner.lean ====
section
/-! DEFINITION. The Page Planner: the start step with its snapshot, sources and pins, and what completion computes
(chapter 5). The meanings of the two planning commands stand in Channels.lean, beside the page end and the release they
use. -/

namespace Sys2Proof.Machine

/-! ### The start step (R92 to R97) -/

/-- Pages of a class of L subjects on n cells a page (R94). -/
def pageCount (rosterLength perPage : Nat) : Nat := max 1 ((rosterLength + perPage - 1) / perPage)

/-- The source of a record of the roster slice (R95): `placeholder` is the placeholder's handle when it is live. -/
def State.sliceCell (s : State) (placeholder : Option Nat) (position : Nat) (x : Subject) : SliceCell :=
  let cell (source : Option Nat) (reason : Option PlaceholderReason) : SliceCell :=
    { position, subjectId := x.id, caption := x.caption, ref := x.ref, source, reason }
  match x.ref with
  | none => cell placeholder (some .noPortrait)
  | some r =>
    let e := s.entry r.handle
    if e.state = .free ∨ e.generation ≠ r.generation then cell placeholder (some .stale)
    else
      match e.state with
      | .ready => cell (some r.handle) none
      | .filling => cell placeholder (some .notReady)
      | .damaged => cell placeholder (some .damaged)
      | .free => cell placeholder (some .stale)

/-- The placeholder's handle, when the layout names one and it is live (R95). -/
def State.livePlaceholder (s : State) (f : LayoutFields) : Option Nat :=
  match f.placeholder with
  | some r => if s.live r then some r.handle else none
  | none => none

/-- Each number once, at its first appearance. -/
def distinct (seen : List Nat) : List Nat → List Nat
  | [] => []
  | n :: rest => if n ∈ seen then distinct seen rest else n :: distinct (n :: seen) rest

/-- A cell takes the placeholder as its source (R97). -/
def SliceCell.usesPlaceholder (c : SliceCell) : Bool := c.reason.isSome && c.source.isSome

/-- The handles a plan pins: the live subjects' in roster order, then the placeholder's when a cell takes it (R97). -/
def pinnedHandles (cells : List SliceCell) : List Nat :=
  distinct [] ((cells.filter (fun c => c.reason.isNone)).filterMap SliceCell.source
    ++ (cells.filter SliceCell.usesPlaceholder).filterMap SliceCell.source)

/-- The copy of an entry's image record that a plan takes with a pin (R97). -/
def State.pinnedImage (s : State) (h : Nat) : PinnedImage :=
  match (s.entry h).image with
  | some r =>
    { handle := h, width := r.width, height := r.height, faceCentre := r.faceCentre, eyeRow := r.eyeRow,
      faceHeight := r.faceHeight, first := r.first, clusters := r.clusters }
  | none =>
    { handle := h, width := 0, height := 0, faceCentre := 0, eyeRow := 0, faceHeight := 0, first := 0, clusters := 0 }

/-- The records of the roster slice of a page, with their positions (R94). -/
def rosterSlice (roster : List Subject) (perPage page : Nat) : List (Nat × Subject) :=
  (((roster.drop (page * perPage)).take perPage).zipIdx).map (fun (x, i) => (page * perPage + i, x))

/-- The snapshot of a candidate job on a layout (R92 to R97); its sequence number is the channel's next (R93). -/
def State.snapshot (s : State) (k : Fin 4) (j : Job) (layoutNo : Nat) (f : LayoutFields) : Snapshot :=
  let r := s.classAt j.classNo
  let perPage := f.c * f.r
  let placeholder := s.livePlaceholder f
  let cells := (rosterSlice r.roster perPage j.page).map (fun (position, x) => s.sliceCell placeholder position x)
  { channel := k, classNo := j.classNo, page := j.page, copies := j.copies, seq := (s.channel k).nextSeq, layoutNo,
    layout := f, title := r.title, rosterLength := r.roster.length, pageCount := pageCount r.roster.length perPage,
    cells, pinned := (pinnedHandles cells).map s.pinnedImage,
    pinsPlaceholder := cells.any SliceCell.usesPlaceholder }

/-- The bound layout of a class, with its number and fields (R94). -/
def State.boundLayout (s : State) (c : Nat) : Option (Nat × LayoutFields) :=
  (s.classAt c).bound.bind (fun n => (s.layout n).fields.map (fun f => (n, f)))

/-- Replace the first job of a list that satisfies a test. -/
def replaceFirst (test : Job → Bool) (new : Job) : List Job → List Job
  | [] => []
  | j :: rest => if test j then new :: rest else j :: replaceFirst test new rest

/-- Remove the first job of a list that satisfies a test. -/
def removeFirst (test : Job → Bool) : List Job → List Job
  | [] => []
  | j :: rest => if test j then rest else j :: removeFirst test rest

/-! ### Completion (R103 to R107) -/

/-- The image record copied for a handle of the pinned list. -/
def Snapshot.imageOf (p : Snapshot) (h : Nat) : Option PinnedImage := p.pinned.find? (fun im => decide (im.handle = h))

/-- The i-th placed cell of a finished plan (R100, R106, R120, R141, R143). With no caption line set the block's y offset is
the one of no lines, which no rule states (log 35). -/
def State.planCell (s : State) (p : Snapshot) (g : Grid) (t : Targets) (i : Nat) (c : SliceCell) : Cell :=
  let origin := cellOrigin p.layout g i
  let fit := s.fitCaption p.layout g.cw c.caption
  { position := c.position, row := i / p.layout.c, column := i % p.layout.c, x := origin.1, y := origin.2,
    subjectId := c.subjectId, source := c.source,
    fitting := (c.source.bind p.imageOf).map (fitImage g t),
    lines := fit.lines.map (s.centredRun p.layout.captionScale g.cw),
    lineY := blockOffset p.layout fit.lines.length,
    placeholder := c.reason, truncated := fit.truncated, glyphMissing := fit.lines.flatten.any s.missing,
    captionOmitted := fit.omitted, damagedMidpage := false }

/-- The handle of the layout copy's placeholder. -/
def Snapshot.placeholderHandle (p : Snapshot) : Option Nat := p.layout.placeholder.map PortraitRef.handle

/-- The finished plan (R103, R105): grid, head targets, cells, title and the substitute record, which is present in a
plan that pins the placeholder as placeholder (R107). -/
def State.completePlan (s : State) (p : Snapshot) : Plan :=
  let g := gridOf p.layout p.cells.length
  let t := targetsOf p.layout g
  { snap := p, grid := g, targets := t, title := s.fitTitle p.layout p.title,
    cells := p.cells.zipIdx.map (fun (c, i) => s.planCell p g t i c),
    substitute :=
      if p.pinsPlaceholder then (p.placeholderHandle.bind p.imageOf).map (fitImage g t) else none }

end Sys2Proof.Machine
end

