-- ==== Sys2Proof/Machine/Channels.lean ====
section
/-! DEFINITION. The Press Channels: releases, page ends, stalls, the channel reset, and the meanings of the press orders
(chapter 8); with the two planning commands, which raise and lower what a page end returns (R92, R104). -/

namespace Sys2Proof.Machine

/-! ### Releases (R157 to R159) -/

/-- Bands of a page: ceil(H / bh) (R157). -/
def bandCount (h bandHeight : Nat) : Nat := (h + bandHeight - 1) / bandHeight

/-- The row limit of a ROW boundary (R159). -/
def rowLimit (f : LayoutFields) (g : Grid) (boundary : Nat) : Nat :=
  if boundary = f.r then f.h
  else
    match boundary with
    | 0 => f.t + g.my
    | r + 1 => f.t + g.my + r * g.py + g.ch + f.cap

/-- The next ROW boundary at or after one whose limit raises bands released: the new bands released and the boundary
after the one taken, which stays at R after boundary R (R159; log 18). -/
def nextRowRelease (f : LayoutFields) (g : Grid) (bandHeight bands released boundary : Nat) (fuel : Nat) : Nat × Nat :=
  match fuel with
  | 0 => (released, boundary)
  | n + 1 =>
    let reached := min bands (bandCount (rowLimit f g boundary) bandHeight)
    if released < reached then (reached, min f.r (boundary + 1))
    else nextRowRelease f g bandHeight bands released (min f.r (boundary + 1)) n

/-- Raise bands released by one release (R158, R159). -/
def Rendering.raise (r : Rendering) (mode : ChannelMode) (bandHeight : Nat) (p : Plan) : Rendering :=
  match mode with
  | .page => { r with released := r.bandCount }
  | .band => { r with released := min r.bandCount (r.released + 1) }
  | .row =>
    let next := nextRowRelease p.snap.layout p.grid bandHeight r.bandCount r.released r.boundary
      (p.snap.layout.r + 1)
    { r with released := next.1, boundary := next.2 }

/-- The rendering record at its creation (R157). -/
def freshRendering (bands : Nat) : Rendering :=
  { bandCount := bands, copy := 1, released := 0, started := 0, inFlight := false, boundary := 0, abortPending := false }

/-- A release consumes the trigger flag, except under IMMEDIATE (R157). -/
def Channel.consume (c : Channel) : Channel :=
  { c with flag := if c.source = .immediate then c.flag else false }

/-- An entry is DAMAGED at this moment (R184). -/
def State.damagedEntry (s : State) (h : Nat) : Bool := decide ((s.entry h).state = .damaged)

/-- Take a release on a channel when one is needed and the trigger flag counts as set (R157). In ARMED the first job
becomes RENDERING with its rendering record, and its cells whose handle's entry is DAMAGED take DAMAGED_MIDPAGE
(R184). -/
def State.takeRelease (s : State) (k : Fin 4) : State :=
  let c := s.channel k
  if c.triggered then
    match c.state with
    | .armed =>
      match c.plannedPlan? with
      | some p =>
        let p := p.flagDamage s.damagedEntry
        s.putChannel k { c.consume with
          jobs := replaceFirst (fun _ => true)
            { classNo := p.snap.classNo, page := p.snap.page, copies := p.snap.copies, stage := .rendering p } c.jobs
          rendering := some ((freshRendering (bandCount p.snap.layout.h c.bandHeight)).raise c.mode c.bandHeight p) }
      | none => s
    | .paused =>
      match c.renderingPlan?, c.rendering with
      | some p, some r => s.putChannel k { c.consume with rendering := some (r.raise c.mode c.bandHeight p) }
      | _, _ => s
    | _ => s
  else s

/-- Set a channel's trigger flag and take the release it allows (R155, R157). -/
def State.trigger (s : State) (k : Fin 4) : State :=
  (s.putChannel k { s.channel k with flag := true }).takeRelease k

/-! ### The end of a page (R164, R165) -/

/-- Return what a plan in flight holds: its pins, its class's in-flight count, and the in-flight page count (R61, R18,
R133). The pins are released in the order of the pinned list, which no rule states (log 33). -/
def State.returnPlan (s : State) (p : Snapshot) : State :=
  ((p.handles.foldl State.unpin s).lowerInFlight p.classNo).lowerPages

/-- Copies completed of a RENDERING page: those before the current one, and the current one when its last band has been
sent whole (R165; log 10). -/
def Rendering.completed (r : Rendering) (cut : Bool) : Nat :=
  r.copy - 1 + (if r.started = r.bandCount ∧ ¬ cut ∧ ¬ r.inFlight then 1 else 0)

/-- What the Page Done of a RENDERING page carries (R165). -/
def Channel.pageDone (k : Fin 4) (p : Plan) (r : Rendering) (result : PageResult) (cut : Bool) : PageDone :=
  { channel := k, seq := p.snap.seq, classNo := p.snap.classNo, page := p.snap.page, result, copies := p.snap.copies,
    completed := r.completed cut, bands := r.started, cut, counts := flagCounts p }

/-- What the Page Done of a page with no copy begun carries: an ARMED job that stalls (R167). -/
def stalledArmed (k : Fin 4) (p : Plan) : PageDone :=
  { channel := k, seq := p.snap.seq, classNo := p.snap.classNo, page := p.snap.page, result := .stalled,
    copies := p.snap.copies, completed := 0, bands := 0, cut := false, counts := flagCounts p }

/-- Remove the first job and the rendering record (R164, step 4). -/
def State.dropFirstJob (s : State) (k : Fin 4) : State :=
  let c := s.channel k
  s.putChannel k { c with jobs := c.jobs.drop 1, rendering := none }

/-- Set the chained flags of a page end of channel k: every enabled channel whose source is CHAINED(k) (R156). The flags
of other channels may release at once; channel k's own counts for the release of its step 6. -/
def State.chain_ (s : State) (k : Fin 4) : State :=
  fours.foldl
    (fun s j =>
      let c := s.channel j
      if c.enabled ∧ c.source = .chained k then
        let s := s.putChannel j { c with flag := true }
        if j = k then s else s.takeRelease j
      else s) s

/-- End the first job of a channel's list, with its Page Done record (R164, steps 1 to 4 and 6; step 5 for DONE and
DEFECT). -/
def State.endPage (s : State) (k : Fin 4) (p : Plan) (d : PageDone) : State :=
  let s := ((s.recordPageDone k d).returnPlan p.snap).dropFirstJob k
  let s := if d.result = .done ∨ d.result = .defect then s.chain_ k else s
  s.takeRelease k

/-- End the RENDERING page of a channel (R164 to R167). -/
def State.endRendering (s : State) (k : Fin 4) (result : PageResult) : State :=
  match (s.channel k).renderingPlan?, (s.channel k).rendering with
  | some p, some r => s.endPage k p (Channel.pageDone k p r result false)
  | _, _ => s

/-! ### The channel reset (R108, R168) -/

/-- Send the Job Cancelled notice of each job (R170). -/
def State.cancelNotices (s : State) (k : Fin 4) (jobs : List Job) (cause : CancelCause) : State :=
  jobs.foldl (fun s j => s.notice (.p k) .jobCancelled (bytesJobCancelled k j cause)) s

/-- Return what a plan holds at Hall Clear: no swap and no switch takes place (R40, R68). -/
def State.returnPlanQuietly (s : State) (p : Snapshot) : State :=
  ((p.handles.foldl State.unpinQuietly s).lowerInFlightQuietly p.classNo).lowerPages

/-- The channel record after a Channel Reset (R168, step 5). -/
def Channel.cleared (c : Channel) : Channel :=
  { c with jobs := [], credits := 0, flag := false, rendering := none }

/-- Cut the channel's band in flight at once (R124, R168, step 1). -/
def State.cutBand (s : State) (k : Fin 4) : State :=
  if s.ce.any (fun b => decide (b.channel = k)) then { s with ce := none } else s

/-- The Page Done of a channel's RENDERING page, ABORTED, with its band cut when one was in flight (R168, step 2). -/
def State.abortRendering (s : State) (k : Fin 4) : State :=
  match (s.channel k).renderingPlan?, (s.channel k).rendering with
  | some p, some r => s.recordPageDone k (Channel.pageDone k p r .aborted r.inFlight)
  | _, _ => s

/-- A job of the channel in PLANNING is discarded: the planner is free (R108). -/
def State.freePlanner (s : State) (k : Fin 4) : State :=
  if s.pln.planning = some k then { s with pln := { s.pln with planning := none } } else s

/-- Empty a channel as a Channel Reset does, before its plans are returned (R168): cut the band in flight, end the RENDERING
page ABORTED, cancel every other job, clear the channel, and free the planner. -/
def State.clearChannel (s : State) (k : Fin 4) (cause : CancelCause) : State :=
  let others := (s.channel k).jobs.filter (fun j => (Job.renderingPlan? j).isNone)
  let s := ((s.cutBand k).abortRendering k).cancelNotices k others cause
  (s.putChannel k (s.channel k).cleared).freePlanner k

/-- Bring a channel to the state after a Channel Reset (R168), with every plan returned (R108; step 4),
plan by plan in list order, which no rule states (log 33). -/
def State.resetChannel (s : State) (k : Fin 4) (cause : CancelCause) (giveBack : State → Snapshot → State) : State :=
  ((s.channel k).jobs.filterMap Job.snap?).foldl giveBack (s.clearChannel k cause)

/-! ### Configuration, enabling and disabling (R150, R151) -/

/-- What a channel does with a Configure Channel (R150). -/
def State.configureChannel (s : State) (from_ : Sender) (k : Fin 4) (payload : Bytes) : State :=
  let c := s.channel k
  match readConfiguration payload with
  | none => s.refuse from_ .badField
  | some f =>
    if ¬ ((c.state = .off ∨ c.state = .idle) ∧ c.jobs = []) then s.refuse from_ .busy
    else
      (s.ok from_ []).putChannel k { c with
        mode := f.mode, source := f.source, order := f.order, mirror := f.mirror, bandHeight := f.bandHeight,
        stallWindow := f.stallWindow, flag := false, credits := 0 }

/-- An order of a press port, with the channel paired with the port (R198). -/
def takePressOrder (o : Order) (port : Port) (tag : Byte) (payload : Bytes) (s : State)
    (act : State → Sender → Fin 4 → State) : Result :=
  takeOrder o port tag payload s (fun s =>
    match port with
    | .p k => .next (act s ⟨port, tag, o.code⟩ k)
    | _ => .next s)

/-- CONFIGURE_CHANNEL (R150). -/
def execConfigureChannel (port : Port) (tag : Byte) (payload : Bytes) (s : State) : Result :=
  takePressOrder .configureChannel port tag payload s (fun s from_ k => s.configureChannel from_ k payload)

/-- What a channel does with an Enable Channel (R151). -/
def State.enableChannel (s : State) (from_ : Sender) (k : Fin 4) : State :=
  if (s.channel k).enabled then s.ok from_ []
  else (s.ok from_ []).putChannel k { s.channel k with enabled := true }

/-- ENABLE_CHANNEL (R151). -/
def execEnableChannel (port : Port) (tag : Byte) (payload : Bytes) (s : State) : Result :=
  takePressOrder .enableChannel port tag payload s State.enableChannel

/-- What a channel does with a Disable Channel (R151). -/
def State.disableChannel (s : State) (from_ : Sender) (k : Fin 4) : State :=
  let c := s.channel k
  match c.state with
  | .off => s.ok from_ []
  | .idle =>
    if c.jobs = [] then (s.ok from_ []).putChannel k { c with enabled := false, flag := false, credits := 0 }
    else s.refuse from_ .busy
  | _ => s.refuse from_ .busy

/-- DISABLE_CHANNEL (R151). -/
def execDisableChannel (port : Port) (tag : Byte) (payload : Bytes) (s : State) : Result :=
  takePressOrder .disableChannel port tag payload s State.disableChannel

/-! ### The job list (R153, R154) -/

/-- What a channel does with a Queue Page (R153). -/
def State.queuePage (s : State) (from_ : Sender) (k : Fin 4) (classNo page copies : Nat) : State :=
  let c := s.channel k
  if 511 < classNo ∨ copies = 0 ∨ 99 < copies then s.refuse from_ .badField
  else if (s.classAt classNo).state = .empty then s.refuse from_ .notFound
  else if Config.jobMax ≤ c.jobs.length then s.refuse from_ .busy
  else
    (s.ok from_ (bytes1 c.jobs.length)).putChannel k
      { c with jobs := c.jobs ++ [{ classNo, page, copies, stage := .queued }] }

/-- QUEUE_PAGE (R153). -/
def execQueuePage (port : Port) (tag : Byte) (payload : Bytes) (s : State) : Result :=
  takePressOrder .queuePage port tag payload s (fun s from_ k =>
    s.queuePage from_ k (word16At payload 0) (byteAt payload 2) (byteAt payload 3))

/-- Remove the last job of a list that satisfies a test (R154). -/
def removeLast (test : Job → Bool) (jobs : List Job) : List Job := (removeFirst test jobs.reverse).reverse

/-- What a channel does with a Cancel Page (R154). -/
def State.cancelPage (s : State) (from_ : Sender) (k : Fin 4) (classNo page : Nat) : State :=
  let c := s.channel k
  let named (j : Job) : Bool := decide (j.classNo = classNo) && decide (j.page = page)
  let target (j : Job) : Bool := named j && j.queued
  if 511 < classNo then s.refuse from_ .badField
  else if c.jobs.any target then (s.ok from_ []).putChannel k { c with jobs := removeLast target c.jobs }
  else if c.jobs.any named then s.refuse from_ .busy
  else s.refuse from_ .notFound

/-- CANCEL_PAGE (R154). -/
def execCancelPage (port : Port) (tag : Byte) (payload : Bytes) (s : State) : Result :=
  takePressOrder .cancelPage port tag payload s (fun s from_ k =>
    s.cancelPage from_ k (word16At payload 0) (byteAt payload 2))

/-! ### Triggers and credits (R155, R160) -/

/-- What a channel does with a trigger its source may take or not (R155): the reply carries whether the flag was already
set. -/
def State.takeTrigger (s : State) (from_ : Sender) (k : Fin 4) (applies : Bool) : State :=
  let c := s.channel k
  if c.enabled ∧ applies then (s.ok from_ (bytesBool c.flag)).trigger k else s.refuse from_ .ignored

/-- SHEET_READY (R155). -/
def execSheetReady (port : Port) (tag : Byte) (payload : Bytes) (s : State) : Result :=
  takePressOrder .sheetReady port tag payload s (fun s from_ k =>
    s.takeTrigger from_ k (decide ((s.channel k).source = .sheet)))

/-- A source that a Start sets the flag of (R155). -/
def TriggerSource.startable (t : TriggerSource) : Bool :=
  match t with
  | .software => true
  | .chained _ => true
  | .immediate => false
  | .sheet => false

/-- START (R155, R199): the channel is the one the payload names. -/
def execStart (port : Port) (tag : Byte) (payload : Bytes) (s : State) : Result :=
  takeOrder .start port tag payload s (fun s =>
    let from_ : Sender := ⟨port, tag, Order.code .start⟩
    match four? (byteAt payload 0) with
    | none => .next (s.refuse from_ .badField)
    | some k => .next (s.takeTrigger from_ k (s.channel k).source.startable))

/-- What a channel does with a Grant Bands (R160). -/
def State.grantBands (s : State) (from_ : Sender) (k : Fin 4) (n : Nat) : State :=
  let c := s.channel k
  let credits := min Config.creditMax (c.credits + n)
  if n = 0 ∨ 8 < n then s.refuse from_ .badField
  else if ¬ c.enabled then s.refuse from_ .ignored
  else (s.ok from_ (bytes1 credits)).putChannel k { c with credits }

/-- GRANT_BANDS (R160). -/
def execGrantBands (port : Port) (tag : Byte) (payload : Bytes) (s : State) : Result :=
  takePressOrder .grantBands port tag payload s (fun s from_ k => s.grantBands from_ k (byteAt payload 0))

/-! ### Abort, stall and reset (R166 to R168) -/

/-- What a channel does with an Abort Page (R166). -/
def State.abortPage (s : State) (from_ : Sender) (k : Fin 4) : State :=
  let c := s.channel k
  let s := s.ok from_ []
  match c.renderingPlan?, c.rendering with
  | some _, some r =>
    if r.inFlight then s.putChannel k { c with rendering := some { r with abortPending := true } }
    else s.endRendering k .aborted
  | _, _ => s.putChannel k { c with lastPage := none }

/-- ABORT_PAGE (R166). -/
def execAbortPage (port : Port) (tag : Byte) (payload : Bytes) (s : State) : Result :=
  takePressOrder .abortPage port tag payload s State.abortPage

/-- The page waited on ends STALLED (R167): the RENDERING page, or the PLANNED job of an ARMED channel. -/
def State.stall (s : State) (k : Fin 4) : State :=
  let c := s.channel k
  match c.state with
  | .armed =>
    match c.plannedPlan? with
    | some p => s.endPage k p (stalledArmed k p)
    | none => s
  | _ => s.endRendering k .stalled

/-- STALL_TIMER_EXPIRY (R167): due when the channel's stall timer has run out (log 6). -/
def execStallTimerExpiry (channel : Fin 4) (s : State) : Result :=
  if (s.channel channel).stallTimer = some 0 then .next (s.stall channel) else .next s

/-- CHANNEL_RESET (R168): the notices follow the reply. -/
def execChannelReset (port : Port) (tag : Byte) (payload : Bytes) (s : State) : Result :=
  takePressOrder .channelReset port tag payload s (fun s from_ k =>
    (s.ok from_ []).resetChannel k .channelReset State.returnPlan)

/-! ### The planning commands (R92, R96, R104) -/

/-- The channel whose candidate the free planner takes (R90): the first eligible one in rotation. -/
def State.planningTurn (s : State) : Option (Fin 4) :=
  match s.pln.planning with
  | some _ => none
  | none => (rotation s.pln.lastServed).find? s.eligible

/-- A job whose page number is not below the page count ends EMPTY_PAGE within its start step (R96). -/
def State.endEmptyPage (s : State) (k : Fin 4) (p : Snapshot) : State :=
  let d : PageDone :=
    { channel := k, seq := p.seq, classNo := p.classNo, page := p.page, result := .emptyPage, copies := p.copies,
      completed := 0, bands := 0, cut := false, counts := noFlags }
  let s := s.putChannel k { s.channel k with jobs := removeFirst Job.queued (s.channel k).jobs }
  (((s.raiseInFlight p.classNo).raisePages.lowerInFlight p.classNo).lowerPages).recordPageDone k d

/-- The start step of a channel's candidate (R92). -/
def State.startStep (s : State) (k : Fin 4) : State :=
  match (s.channel k).candidate with
  | none => s
  | some j =>
    match s.boundLayout j.classNo with
    | none => s
    | some (n, f) =>
      let p := s.snapshot k j n f
      let s := { s with pln := { s.pln with lastServed := k } }
      let s := s.putChannel k { s.channel k with nextSeq := (p.seq + 1) % 65536 }
      if p.pageCount ≤ p.page then s.endEmptyPage k p
      else
        let s := ((p.handles.foldl State.pin s).raiseInFlight p.classNo).raisePages
        let s := s.putChannel k { s.channel k with
          jobs := replaceFirst Job.queued { j with stage := .planning p } (s.channel k).jobs }
        { s with pln := { s.pln with planning := some k } }

/-- PLANNING_START_STEP (R92): due when the planner is free and a channel is eligible (R90; log 7). -/
def execPlanningStartStep (s : State) : Result :=
  match s.planningTurn with
  | some k => .next (s.startStep k)
  | none => .next s

/-- The job of a list in PLANNING, with its snapshot. -/
def Job.planningSnap? (j : Job) : Option Snapshot :=
  match j.stage with
  | .planning p => some p
  | _ => none

/-- Hand the finished plan to the channel: its job becomes PLANNED, the planner is free, and an ARMED channel may be
released at once (R104, R157). -/
def State.completePlanning (s : State) (k : Fin 4) : State :=
  let c := s.channel k
  let s' := { s with pln := { s.pln with planning := none } }
  match c.jobs.findSome? Job.planningSnap? with
  | none => s'
  | some p =>
    (s'.putChannel k { c with
      jobs := replaceFirst (fun j => (Job.planningSnap? j).isSome)
        { classNo := p.classNo, page := p.page, copies := p.copies, stage := .planned (s.completePlan p) }
        c.jobs }).takeRelease k

/-- PLANNING_COMPLETION (R104): due when the planner is planning a job. -/
def execPlanningCompletion (s : State) : Result :=
  match s.pln.planning with
  | some k => .next (s.completePlanning k)
  | none => .next s

end Sys2Proof.Machine
end

