-- ==== Sys2Proof/Machine/Integrity.lean ====
section
/-! DEFINITION. The Scrubber and Error Log: faults by the state and owner of their cluster, the error log, corrections,
scrub visits, and their meanings (chapter 9). -/

namespace Sys2Proof.Machine

/-! ### The error log (R187) -/

/-- Offer a fault to the error log: latched with a Store Fault notice when the log is empty, else the overflow flag is
set (R187). -/
def State.offerLog (s : State) (r : LogRecord) : State :=
  match s.sel.log with
  | none => ({ s with sel := { s.sel with log := some r } }).notice .l .storeFault (bytesLogRecord r)
  | some _ => { s with sel := { s.sel with overflow := true } }

/-! ### Reservation loss (R186) -/

/-- While the free count is below the reservation total, fail the upload at the end of the open list STORE_FULL (R186).
Each failure takes a slot off the list, so that four are enough. -/
def State.coverReservations (s : State) (fuel : Nat) : State :=
  match fuel with
  | 0 => s
  | n + 1 =>
    if s.sc.freeCount < s.sc.reserved then
      match s.openUploads.getLast? with
      | some (k, u) => (s.failUpload k u .storeFull).coverReservations n
      | none => s
    else s

/-! ### Faults by owner (R181 to R184) -/

/-- The RENDERING job of a list with its plan changed. -/
def flagRendering (test : Nat → Bool) (j : Job) : Job :=
  match j.stage with
  | .rendering p => { j with stage := .rendering (p.flagDamage test) }
  | _ => j

/-- Every placed cell of every RENDERING page whose source is a handle takes DAMAGED_MIDPAGE (R184). -/
def State.flagPages (s : State) (h : Nat) : State :=
  fours.foldl
    (fun s k =>
      s.setChannel k { s.channel k with
        jobs := (s.channel k).jobs.map (flagRendering (fun n => decide (n = h))) }) s

/-- The contents of a Portrait Damaged (R181): handle, generation, cluster, pin count, whether a pending replacement or
an open upload is held, marked clusters of the CURRENT chain (log 12). -/
def State.bytesPortraitDamaged (s : State) (h cluster : Nat) : Bytes :=
  let e := s.entry h
  bytes2 h ++ bytes1 e.generation ++ bytes4 cluster ++ bytes1 e.pins
    ++ bytesBool (e.replacement.isSome || e.upload.isSome)
    ++ bytes1 (match e.image with | some r => s.markedIn r.first | none => 0)

/-- A fault in a cluster of a CURRENT chain (R181). -/
def State.currentFault (s : State) (h cluster : Nat) : State :=
  if (s.cluster cluster).suspect then s
  else
    let s := s.markCluster cluster
    let e := s.entry h
    let s := if e.state = .ready then s.setEntry h { e with state := .damaged } else s
    let s := s.flagPages h
    let payload := s.bytesPortraitDamaged h cluster
    (s.notice .i .portraitDamaged payload).notice .l .portraitDamaged payload

/-- A fault in a cluster of a PENDING chain (R182). -/
def State.pendingFault (s : State) (h cluster : Nat) : State :=
  let s := s.markCluster cluster
  let e := s.entry h
  match e.replacement with
  | none => s
  | some r =>
    ((s.setEntry h { e with replacement := none }).freeChain r.first).notice .i .replacementLost
      (bytes2 h ++ bytes1 e.generation ++ bytes4 cluster ++ bytes1 r.clusters)

/-- The OPEN upload of a handle. -/
def State.uploadOf (s : State) (h : Nat) : Option (Fin 4 × UploadRecord) :=
  s.openUploads.find? (fun ku => decide (ku.2.handle = h))

/-- A fault in a cluster of an UPLOAD chain fails that upload STORE_ERROR (R183). -/
def State.uploadFault (s : State) (h cluster : Nat) : State :=
  let s := s.markCluster cluster
  match s.uploadOf h with
  | some (k, u) => s.failUpload k u .storeError
  | none => s

/-- Take a fault (R180): the effect of the cluster's state and owner, then the error log. -/
def State.takeFault (s : State) (kind : FaultKind) (cluster offset : Nat) (syndrome : BitVec 8)
    (channel : Option (Fin 4)) : State :=
  let owner := (s.cluster cluster).owner?
  let s' :=
    match owner with
    | some ⟨h, .current⟩ => s.currentFault h cluster
    | some ⟨h, .pending⟩ => s.pendingFault h cluster
    | some ⟨h, .upload⟩ => s.uploadFault h cluster
    | none => if s.cluster cluster = ClusterEntry.free then (s.retireFree cluster).coverReservations 4 else s
  s'.offerLog { kind, cluster, offset, syndrome, owner := owner.map Owner.handle, channel }

/-! ### Corrections (R176, R179) -/

/-- Raise the correction counter, which saturates at 65,535 (R176). -/
def State.countCorrection (s : State) : State :=
  { s with sel := { s.sel with corrections := min Config.correctionMax (s.sel.corrections + 1) } }

/-- Offer a cluster to the rescrub list: it joins the end when it is not on it and fewer than 8 are (R179). -/
def State.offerRescrub (s : State) (cluster : Nat) : State :=
  if cluster ∈ s.sel.rescrub ∨ Config.rescrubMax ≤ s.sel.rescrub.length then s
  else { s with sel := { s.sel with rescrub := s.sel.rescrub ++ [cluster] } }

/-! ### The scrubber (R177, R178) -/

/-- What a visit does with one word that does not read clean (R178). -/
def State.scrubWord (s : State) (w : Nat) : State :=
  match s.wordFault w with
  | none => s
  | some (.correctable bit) => s.countCorrection.writeBack w bit
  | some (.uncorrectable syndrome) =>
    s.takeFault .scrub (w / Config.clusterWords) (8 * (w % Config.clusterWords)) syndrome none

/-- A visit reads every word of its cluster (R178), in rising word order, which the rule does not state (log 34). A clean
word changes nothing, so that the words with errors are taken alone. -/
def State.visit (s : State) (cluster : Nat) : State :=
  ((s.sc.errors.map Prod.fst).filter (fun w => decide (w / Config.clusterWords = cluster))).foldl State.scrubWord s

/-- A cluster that the sweep visits: FREE or in a CURRENT or PENDING chain (R177). -/
def ClusterEntry.sweepable (e : ClusterEntry) : Bool :=
  match e with
  | .free => true
  | .retired => false
  | .linked _ _ o => decide (o.kind ≠ .upload)
  | .last _ o => decide (o.kind ≠ .upload)

/-- The first cluster of `count` from `start` up, wrapping from 131,071 to 0, that the sweep visits (R177). -/
def sweepFrom (map : Table ClusterEntry) (count start : Nat) : Option Nat :=
  match count with
  | 0 => none
  | n + 1 =>
    if (Table.get .free map start).sweepable then some start else sweepFrom map n ((start + 1) % Config.clusters)

/-- The first entry of the rescrub list that is not RETIRED, with the entries behind it; those before it are dropped
(R177). -/
def State.nextRescrub (s : State) : Option (Nat × List Nat) :=
  match s.sel.rescrub.dropWhile (fun c => decide (s.cluster c = ClusterEntry.retired)) with
  | [] => none
  | c :: rest => some (c, rest)

/-- Replace the rescrub list. -/
def State.setRescrub (s : State) (l : List Nat) : State := { s with sel := { s.sel with rescrub := l } }

/-- The scrubber's event: at most one visit, from the rescrub list or else the sweep (R177; log 19). -/
def State.scrub (s : State) : State :=
  match s.nextRescrub with
  | some (c, rest) => (s.setRescrub rest).visit c
  | none =>
    let s := s.setRescrub []
    match sweepFrom s.sc.map Config.clusters s.sel.cursor with
    | some c => ({ s with sel := { s.sel with cursor := (c + 1) % Config.clusters } }).visit c
    | none => s

/-- SCRUB_TIMER_EXPIRY (R177): due when the scrub timer has run out (log 6); the next period starts. -/
def execScrubTimerExpiry (s : State) : Result :=
  if s.sel.timer = some 0 then .next ({ s with sel := { s.sel with timer := some Config.scrubMs } }).scrub
  else .next s

/-! ### Clear Error Log and Query Store (R188, R189) -/

/-- CLEAR_ERROR_LOG (R188). -/
def execClearErrorLog (port : Port) (tag : Byte) (payload : Bytes) (s : State) : Result :=
  takeOrder .clearErrorLog port tag payload s (fun s =>
    let s := s.ok ⟨port, tag, Order.code .clearErrorLog⟩ []
    .next { s with sel := { s.sel with log := none, overflow := false } })

/-- The result fields of a Query Store: the 72 bytes of R212 after the status (R66, R189). -/
def State.bytesStoreReply (s : State) : Bytes :=
  bytesBool (decide (s.phase ≠ .running)) ++ bytes4 s.sc.freeCount ++ bytes4 s.sc.reserved ++ bytes4 s.sc.retiredCount
    ++ bytes4 s.sc.cursor ++ bytes4 s.sel.cursor
    ++ bytes1 s.sel.rescrub.length ++ (s.sel.rescrub.map bytes4).flatten ++ zeros (32 - 4 * s.sel.rescrub.length)
    ++ bytes2 s.sel.corrections
    ++ (match s.sel.log with
      | none => zeros 14
      | some r => bytes1 1 ++ bytesLogRecord r)
    ++ bytesBool s.sel.overflow

/-- QUERY_STORE (R66, R189). -/
def execQueryStore (port : Port) (tag : Byte) (payload : Bytes) (s : State) : Result :=
  takeOrder .queryStore port tag payload s
    (fun s => .next (s.ok ⟨port, tag, Order.code .queryStore⟩ s.bytesStoreReply))

end Sys2Proof.Machine
end

