-- ==== Sys2Proof/Machine/Engine.lean ====
section
/-! DEFINITION. The Composition Engine and the engine arbiter: starting a band, reading the store for a row, the value of
each pixel, the Row Data of a row, and the end of a band (6.4, 6.5, 7.6, 8.6). -/

namespace Sys2Proof.Machine

/-! ### Starting a band (R127, R161, R162) -/

/-- The channel the arbiter grants the free engine to: the first requester in rotation (R161). -/
def State.engineTurn (s : State) : Option (Fin 4) :=
  match s.ce with
  | some _ => none
  | none => (rotation s.pch.lastServed).find? (fun k => (s.channel k).requests)

/-- What a cell that carries DAMAGED_MIDPAGE draws from: the substitute record, or backdrop (R127). -/
def State.substituteDraw (s : State) (p : Plan) : Option CellDraw :=
  match p.substitute, p.snap.placeholderHandle with
  | some fitting, some h =>
    if s.damagedEntry h then none else (p.snap.imageOf h).map (fun image => { image, fitting })
  | _, _ => none

/-- What a placed cell draws from for the whole of a band (R127). -/
def State.cellDraw (s : State) (p : Plan) (c : Cell) : Option CellDraw :=
  if c.damagedMidpage then s.substituteDraw p
  else
    match c.source.bind p.snap.imageOf, c.fitting with
    | some image, some fitting => some { image, fitting }
    | _, _ => none

/-- The band at an order position: q under FORWARD, N - 1 - q under REVERSE (R157). -/
def bandAt (order : BandOrder) (bands q : Nat) : Nat :=
  match order with
  | .forward => q
  | .reverse => bands - 1 - q

/-- The band that starts at the arbiter's grant (R124, R161). -/
def State.newBand (s : State) (k : Fin 4) (p : Plan) (r : Rendering) : Band :=
  let c := s.channel k
  let index := bandAt c.order r.bandCount r.started
  let firstRow := index * c.bandHeight
  let rowCount := min c.bandHeight (p.snap.layout.h - firstRow)
  { channel := k, plan := p, copy := r.copy, index, order := c.order, mirror := c.mirror, firstRow, rowCount,
    rowsLeft := rowCount, draws := p.cells.map (s.cellDraw p), reads := [] }

/-- The contents of a Band Start (R162, R212). -/
def bytesBandStart (b : Band) : Bytes :=
  bytes1 b.channel.val ++ bytes2 b.plan.snap.seq ++ bytes1 b.copy ++ bytes2 b.index ++ bytes2 b.firstRow
    ++ bytes1 b.rowCount ++ bytes1 b.order.code ++ bytesBool b.mirror

/-- Grant the engine to a requesting channel: its next band starts, for one credit (R161). -/
def State.grantEngine (s : State) (k : Fin 4) : State :=
  let c := s.channel k
  match c.renderingPlan?, c.rendering with
  | some p, some r =>
    let b := s.newBand k p r
    let s := { s with ce := some b, pch := { s.pch with lastServed := k } }
    (s.putChannel k { c with
      credits := c.credits - 1
      rendering := some { r with started := r.started + 1, inFlight := true } }).notice (.p k) .bandStart
        (bytesBandStart b)
  | _, _ => s

/-- ENGINE_GRANT (R161): due when the engine is free and a channel requests it (log 7). -/
def execEngineGrant (s : State) : Result :=
  match s.engineTurn with
  | some k => .next (s.grantEngine k)
  | none => .next s

/-! ### Sampling (R121, R126) -/

/-- The Q16 limit of an axis of a source (R118). -/
def sourceLimit (size : Nat) : Nat := (size - 1) * 65536

/-- The source position of an output coordinate, when it lies from 0 to the limit (R119, R121). -/
def sourceAt (origin : Int) (step : Nat) (limit : Nat) (n : Nat) : Option Nat :=
  let at_ := origin + (n * step : Nat)
  if 0 ≤ at_ ∧ at_ ≤ (limit : Int) then some at_.toNat else none

/-- The sample of an output pixel: columns i and i + 1, rows j and j + 1 with edge replication, and the fractions of 8
bits (R121). -/
structure Sample where
  i0 : Nat
  i1 : Nat
  j0 : Nat
  j1 : Nat
  fx : Nat
  fy : Nat
  deriving DecidableEq, Repr

/-- The sample of output pixel (x, y) of a cell; `none` for a backdrop pixel (R119, R121, R126). -/
def sampleAt (d : CellDraw) (x y : Nat) : Option Sample :=
  match sourceAt d.fitting.x0 d.fitting.step (sourceLimit d.image.width) x,
    sourceAt d.fitting.y0 d.fitting.step (sourceLimit d.image.height) y with
  | some sx, some sy =>
    let i := sx / 65536
    let j := sy / 65536
    some { i0 := i, i1 := min (i + 1) (d.image.width - 1), j0 := j, j1 := min (j + 1) (d.image.height - 1),
           fx := sx % 65536 / 256, fy := sy % 65536 / 256 }
  | _, _ => none

/-- The image offset of the first byte of source pixel (i, j) (R51, R123). -/
def pixelOffset (width i j : Nat) : Nat := (j * width + i) * 3

/-- The image offsets of the bytes of a sample's four neighbours, p00, p01, p10, p11 (R123). -/
def sampleOffsets (width : Nat) (q : Sample) : List Nat :=
  [pixelOffset width q.i0 q.j0, pixelOffset width q.i1 q.j0, pixelOffset width q.i0 q.j1,
    pixelOffset width q.i1 q.j1].flatMap (fun o => [o, o + 1, o + 2])

/-- The image offsets a row of a cell needs, in the order in which they are read (R123; log 9). -/
def rowOffsets (d : CellDraw) (cw y : Nat) : List Nat :=
  (List.range cw).flatMap (fun x => ((sampleAt d x y).map (sampleOffsets d.image.width)).getD [])

/-! ### Render reads (R123, R173, R176, R180, R185) -/

/-- The read of a word for a cell that the band holds, if it has been made (R123). -/
def Band.read? (b : Band) (cell w : Nat) : Option ReadWord :=
  b.reads.find? (fun r => decide (r.cell = cell) && decide (r.word = w))

/-- The data a render read returns, and what the read does: a correction is counted and offers its cluster to the
rescrub list, an uncorrectable word is a fault (R173, R176, R180). -/
def State.renderRead (s : State) (k : Fin 4) (w : Nat) : State × Option (BitVec 64) :=
  let held := Memory.word s.sc.store w
  let cluster := w / Config.clusterWords
  match s.wordFault w with
  | none => (s, some held)
  | some (.correctable bit) => (s.countCorrection.offerRescrub cluster, some (correctWord held bit))
  | some (.uncorrectable syndrome) =>
    (s.takeFault .read cluster (8 * (w % Config.clusterWords)) syndrome (some k), none)

/-- Read a word for a cell of the band in production, once for the band (R123). -/
def State.readForCell (s : State) (cell w : Nat) : State :=
  match s.ce with
  | none => s
  | some b =>
    match b.read? cell w with
    | some _ => s
    | none =>
      let (s', data) := s.renderRead b.channel w
      { s' with ce := some { b with reads := b.reads ++ [{ cell, word := w, data }] } }

/-- A row of the page lies in a cell's portrait area: the row's number within the cell (R126). -/
def portraitRow (b : Band) (c : Cell) (row : Nat) : Option Nat :=
  if c.y ≤ row ∧ row < c.y + b.plan.grid.ch then some (row - c.y) else none

/-- The placed cells of the band with their numbers and what they draw from. -/
def Band.cells (b : Band) : List (Nat × Cell × Option CellDraw) :=
  (b.plan.cells.zip b.draws).zipIdx.map (fun (cd, n) => (n, cd.1, cd.2))

/-- The words a row needs, cell after cell: the cell's number and the word (R123, R126). -/
def rowReads (map : Table ClusterEntry) (b : Band) (row : Nat) : List (Nat × Nat) :=
  b.cells.flatMap (fun (n, c, draw) =>
    match portraitRow b c row, draw with
    | some y, some d =>
      (rowOffsets d b.plan.grid.cw y).filterMap (fun o => (wordOfOffset map d.image.first o).map (fun w => (n, w)))
    | _, _ => [])

/-! ### Pixels (R122, R125, R126, R145, R146, R185) -/

/-- The byte of an image offset among the words read for a cell; `none` where the word could not be corrected or was not
read (R185). -/
def imageByte (map : Table ClusterEntry) (b : Band) (cell first o : Nat) : Option Byte :=
  match (wordOfOffset map first o).bind (b.read? cell) with
  | some { data := some v, .. } => some ((v >>> (8 * (o % 8))).setWidth 8)
  | _ => none

/-- One channel of a resampled pixel (R122). -/
def blend (p00 p01 p10 p11 fx fy : Nat) : Nat :=
  ((p00 * (256 - fx) + p01 * fx) * (256 - fy) + (p10 * (256 - fx) + p11 * fx) * fy + 32768) / 65536

/-- The bytes of an optional list, when each is there. -/
def allBytes : List (Option Byte) → Option (List Byte)
  | [] => some []
  | none :: _ => none
  | some v :: rest => (allBytes rest).map (fun l => v :: l)

/-- A resampled pixel of a sample, `none` when a neighbour has a byte in an uncorrectable word (R122, R185). -/
def resample (map : Table ClusterEntry) (b : Band) (cell : Nat) (d : CellDraw) (q : Sample) : Option Rgb :=
  match allBytes ((sampleOffsets d.image.width q).map (imageByte map b cell d.image.first)) with
  | some [r00, g00, b00, r01, g01, b01, r10, g10, b10, r11, g11, b11] =>
    let mix (a c e f : Byte) : Byte := BitVec.ofNat 8 (blend a.toNat c.toNat e.toNat f.toNat q.fx q.fy)
    some { r := mix r00 r01 r10 r11, g := mix g00 g01 g10 g11, b := mix b00 b01 b10 b11 }
  | _ => none

/-- A pixel of a cell's portrait area; `none` is the backdrop colour (R126, R185). -/
def portraitPixel (map : Table ClusterEntry) (b : Band) (cell : Nat) (d : CellDraw) (x y : Nat) : Option Rgb :=
  (sampleAt d x y).bind (resample map b cell d)

/-- Whether a set glyph pixel falls on column x and mask row v of a run at a scale, x counted from the run's start (R140,
R145). -/
def State.inkInRun (s : State) (scale v x : Nat) : List Nat → Bool
  | [] => false
  | code :: rest =>
    let width := scale * s.advance code
    if x < width then
      match s.glyph code with
      | some g => decide (code ≠ Config.breakMark) && maskPixel g.mask (x / scale) v
      | none => false
    else s.inkInRun scale v (x - width) rest

/-- Whether a set glyph pixel of a line falls on a page pixel, by the line's left column, top row and scale (R145,
R146). -/
def State.inkInLine (s : State) (scale left top x y : Nat) (codes : List Nat) : Bool :=
  if left ≤ x ∧ top ≤ y ∧ y < top + 32 * scale then s.inkInRun scale ((y - top) / scale) (x - left) codes else false

/-- Whether the title's ink falls on a page pixel (R125, R144). -/
def State.titleInk (s : State) (p : Plan) (x y : Nat) : Bool :=
  match p.title.line with
  | some run => s.inkInLine p.snap.layout.titleScale run.x p.title.y x y run.codes
  | none => false

/-- Whether the ink of a cell's caption falls on a page pixel (R125, R143). -/
def State.captionInk (s : State) (p : Plan) (c : Cell) (x y : Nat) : Bool :=
  let scale := p.snap.layout.captionScale
  c.lines.zipIdx.any (fun (run, n) =>
    s.inkInLine scale (c.x + run.x) (c.y + p.grid.ch + c.lineY + n * 32 * scale) x y run.codes)

/-- The value of page pixel (x, y) of the band in production, by the region it lies in (R102, R125). -/
def State.pagePixel (s : State) (b : Band) (x y : Nat) : Rgb :=
  let p := b.plan
  let layout := p.snap.layout
  if y < layout.t then (if s.titleInk p x y then layout.ink else layout.backdrop)
  else
    match b.cells.find? (fun (_, c, _) =>
        decide (c.x ≤ x) && decide (x < c.x + p.grid.cw) && decide (c.y ≤ y)
          && decide (y < c.y + p.grid.ch + layout.cap)) with
    | none => layout.backdrop
    | some (n, c, draw) =>
      if y < c.y + p.grid.ch then
        match draw with
        | some d => (portraitPixel s.sc.map b n d (x - c.x) (y - c.y)).getD layout.backdrop
        | none => layout.backdrop
      else if s.captionInk p c x y then layout.ink
      else layout.backdrop

/-! ### Rows (R124, R162) -/

/-- The page row the engine produces next: top to bottom under FORWARD, bottom to top under REVERSE (R124). -/
def Band.nextRow (b : Band) : Nat :=
  match b.order with
  | .forward => b.firstRow + (b.rowCount - b.rowsLeft)
  | .reverse => b.firstRow + (b.rowsLeft - 1)

/-- The pixels of an emitted row: reversed across the live width when mirror is on (R162). -/
def State.emittedRow (s : State) (b : Band) (row : Nat) : List Rgb :=
  let pixels := (List.range b.plan.snap.layout.w).map (fun x => s.pagePixel b x row)
  if b.mirror then pixels.reverse else pixels

/-- The contents of the Row Data frames of an emitted row, of at most 1,360 pixels each (R162, R212). -/
def rowFrames (b : Band) (row column : Nat) (pixels : List Rgb) (fuel : Nat) : List Bytes :=
  match fuel with
  | 0 => []
  | n + 1 =>
    match pixels with
    | [] => []
    | _ =>
      let now := pixels.take Config.rowPixels
      (bytes2 b.plan.snap.seq ++ bytes2 b.index ++ bytes2 row ++ bytes2 column ++ bytes2 now.length
          ++ now.flatMap bytesRgb)
        :: rowFrames b row (column + now.length) (pixels.drop Config.rowPixels) n

/-- Produce the next row of the band and hand it to the LIU as Row Data frames (R124, R162): its words are read, then its
pixels drawn. -/
def State.produceRow (s : State) (b : Band) : State :=
  let row := b.nextRow
  let s := (rowReads s.sc.map b row).foldl (fun s cw => s.readForCell cw.1 cw.2) s
  match s.ce with
  | none => s
  | some b =>
    let pixels := s.emittedRow b row
    let s := { s with ce := some { b with rowsLeft := b.rowsLeft - 1 } }
    (rowFrames b row 0 pixels pixels.length).foldl (fun s payload => s.notice (.p b.channel) .rowData payload) s

/-! ### The end of a band (R162, R163) -/

/-- What follows the end of a band's send on its channel (R163). -/
def State.afterBand (s : State) (k : Fin 4) : State :=
  let c := s.channel k
  match c.renderingPlan?, c.rendering with
  | some p, some r =>
    let s := s.putChannel k { c with rendering := some { r with inFlight := false } }
    if r.abortPending then s.endRendering k .aborted
    else if r.started = r.bandCount then
      if p.snap.copies ≤ r.copy then s.endRendering k (if p.defective then .defect else .done)
      else
        (s.putChannel k { s.channel k with
          rendering := some { r with inFlight := false, copy := r.copy + 1, released := 0, started := 0,
                                     boundary := 0 } }).takeRelease k
    else if r.started = r.released then s.takeRelease k
    else s
  | _, _ => s

/-- With no row of its band left the engine is free, and the channel goes on, within the event that handed on the last
row (R124, R162, R163). -/
def State.endBandIfSent (s : State) : State :=
  match s.ce with
  | some b => if b.rowsLeft = 0 then { s with ce := none }.afterBand b.channel else s
  | none => s

/-- ROW_DATA (R162): due while a band is in production; with the last row the band ends (log 8, log 21). -/
def execRowData (s : State) : Result :=
  match s.ce with
  | some b => .next (if 0 < b.rowsLeft then s.produceRow b else s).endBandIfSent
  | none => .next s

/-- BAND_END (R163): due when at most one row of the band in production is left; it hands that row on and the band ends
(log 8). -/
def execBandEnd (s : State) : Result :=
  match s.ce with
  | some b =>
    if 1 < b.rowsLeft then .next s else .next (if 0 < b.rowsLeft then s.produceRow b else s).endBandIfSent
  | none => .next s

/-! ### Query Channel (R171) -/

/-- A job of the list as the reply gives it: class, page, copies, state, and the sequence number, 0 before the start step
(R171, R212; log 12). -/
def bytesJob (j : Job) : Bytes :=
  bytes2 j.classNo ++ bytes1 j.page ++ bytes1 j.copies ++ bytes1 j.stage.code
    ++ bytes2 (match j.snap? with | some p => p.seq | none => 0)

/-- The plan figures of R105 for a job in PLANNED or RENDERING, 0 for any other: sequence number, placed cells, pinned
handles, and the number of cells with each flag of R106. -/
def bytesFigures (j : Job) : Bytes :=
  match j.plan? with
  | none => zeros 22
  | some p =>
    let n := flagCounts p
    bytes2 p.snap.seq ++ bytes2 p.cells.length ++ bytes2 p.snap.pinned.length
      ++ bytes2 (n.noPortrait + n.stale + n.notReady + n.damaged) ++ bytes2 n.scaleClamped ++ bytes2 n.shifted
      ++ bytes2 n.short ++ bytes2 n.truncated ++ bytes2 n.glyphMissing ++ bytes2 n.captionOmitted
      ++ bytes2 n.damagedMidpage

/-- The whole seconds left on a timer in milliseconds (R171; log 20). -/
def secondsLeft (ms : Nat) : Nat := ms / 1000

/-- The candidate's wait as an item that may be NONE (R112, R212; log 12). -/
def bytesWait (w : Wait) : Bytes := if w = .none then zeros 2 else bytes1 1 ++ bytes1 w.code

/-- The result fields of a Query Channel (R171, R212; log 12). -/
def State.bytesChannelReply (s : State) (k : Fin 4) : Bytes :=
  let c := s.channel k
  bytes1 c.state.code ++ bytesBool c.enabled
    ++ bytes1 c.mode.code ++ bytes1 c.source.code ++ bytes1 c.order.code ++ bytesBool c.mirror ++ bytes1 c.bandHeight
    ++ bytes1 c.stallWindow
    ++ bytes1 c.credits ++ bytesBool c.flag
    ++ (match c.stallTimer with | none => zeros 2 | some ms => bytes1 1 ++ bytes1 (secondsLeft ms))
    ++ bytes2 c.nextSeq
    ++ (match c.lastPage with | none => zeros 38 | some d => bytes1 1 ++ bytesPageDone d)
    ++ bytes1 c.jobs.length ++ (c.jobs.map bytesJob).flatten ++ zeros (7 * (Config.jobMax - c.jobs.length))
    ++ (c.jobs.map bytesFigures).flatten ++ zeros (22 * (Config.jobMax - c.jobs.length))
    ++ (match c.rendering with
      | none => zeros 11
      | some r =>
        bytes1 1 ++ bytes1 r.copy ++ bytes2 r.bandCount ++ bytes2 r.released ++ bytes2 r.started ++ bytesBool r.inFlight
          ++ bytes1 r.boundary ++ bytesBool r.abortPending)
    ++ bytesWait (s.wait k)

/-- QUERY_CHANNEL (R171). -/
def execQueryChannel (port : Port) (tag : Byte) (payload : Bytes) (s : State) : Result :=
  takeOrder .queryChannel port tag payload s (fun s =>
    let from_ : Sender := ⟨port, tag, Order.code .queryChannel⟩
    match four? (byteAt payload 0) with
    | none => .next (s.refuse from_ .badField)
    | some k => .next (s.ok from_ (s.bytesChannelReply k)))

end Sys2Proof.Machine
end

