-- ==== Sys2Proof/Machine/Links.lean ====
section
/-! DEFINITION. The links, power-on and Hall Clear: the meanings of the link events and of PORST, of a dropped frame and
an unknown order, of a frame's departure, of Hall Clear and of Query Link (chapter 10, 9.2). -/

namespace Sys2Proof.Machine

/-! ### Power-on (R174, R207) -/

/-- PORST_ASSERTED (R207): every waiting frame and every state of the part is discarded for the power-on values. -/
def execPorstAsserted (s : State) : Result := .next (powerOn .inReset s.clock s.pending)

/-- PORST_RELEASED (R174, R207): the power-on values, with the store initialisation begun (log 24). -/
def execPorstReleased (s : State) : Result := .next (powerOn .initialising s.clock s.pending)

/-- STORE_INITIALISATION_END (R174): due while initialisation runs; every word of the store holds zeros with valid check
bits, orders reach their blocks from now on, and the scrub timer starts. -/
def execStoreInitialisationEnd (s : State) : Result :=
  if s.phase = .initialising then
    .next { s with
      phase := .running
      sc := { s.sc with store := [], errors := [] }
      sel := { s.sel with timer := some Config.scrubMs } }
  else .next s

/-! ### Link state (R191, R192) -/

/-- LINK_UP (R191): due on a DOWN link while PORST is not asserted (log 24). -/
def execLinkUp (port : Port) (s : State) : Result :=
  if s.phase = .inReset ∨ (s.port port).up then .next s
  else .next (s.setPort port { s.port port with up := true, silence := some Config.silenceMs })

/-- IDLE_FILL (R191): an arrival on an UP link. -/
def execIdleFill (port : Port) (s : State) : Result :=
  if (s.port port).up then .next (s.arrival port) else .next s

/-- Loss of the layout link closes an OPENING or OPEN glyph window (R136). -/
def State.layoutLinkLoss (s : State) : State := s.setWindow .closed

/-- A link goes DOWN: its waiting frames are discarded and its blocks told (R192). -/
def State.linkDown (s : State) (p : Port) : State :=
  let s := s.setPort p { s.port p with up := false, silence := none, waiting := [] }
  match p with
  | .l => s.layoutLinkLoss
  | .i => s.abandonUploads
  | .p k => s.resetChannel k .channelReset State.returnPlan

/-- SILENCE_TIMER_EXPIRY (R191): due when the port's silence timer has run out (log 6). -/
def execSilenceTimerExpiry (port : Port) (s : State) : Result :=
  if (s.port port).up ∧ (s.port port).silence = some 0 then .next (s.linkDown port) else .next s

/-- LINE_LOSS (R191): the physical layer of an UP link reports the loss of the line. -/
def execLineLoss (port : Port) (s : State) : Result :=
  if (s.port port).up then .next (s.linkDown port) else .next s

/-! ### Frames (R193, R195, R197) -/

/-- FRAME_DROPPED (R193): an arriving frame that fails the frame check is dropped. A frame that passes it is no such
event, and no frame is taken from a DOWN link (log 14). -/
def execFrameDropped (port : Port) (frame : Bytes) (s : State) : Result :=
  if ¬ (s.port port).up then .next s
  else if frameSound frame ∧ (s.port port).backlog ≤ Config.backlogMax then .next s
  else .next ((s.arrival port).dropFrame port)

/-- FRAME_DEPARTURE (R197): the first waiting frame leaves on its UP link (log 15). -/
def execFrameDeparture (port : Port) (s : State) : Result :=
  if (s.port port).up then .next (s.setPort port { s.port port with waiting := (s.port port).waiting.drop 1 })
  else .next s

/-- UNKNOWN_ORDER (R195, step 1): an order frame whose message code names no order of the part. A code that names one is
no such event (log 14). -/
def execUnknownOrder (port : Port) (tag : Byte) (code : BitVec 16) (payload : Bytes) (s : State) : Result :=
  if ¬ (s.port port).up then .next s
  else if ¬ s.takesFrame port payload then .next ((s.arrival port).dropFrame port)
  else if (Order.ofCode code).isSome then .next s
  else .next ((s.arrival port).reply port tag code .unknownOrder [])

/-! ### Query Link (R194, R201) -/

/-- The ports in the order of their codes (R213). -/
def allPorts : List Port := [.l, .i, .p 0, .p 1, .p 2, .p 3]

/-- The result fields of a Query Link: link state and frame-fault flag of each port, and the asking port (R201). -/
def State.bytesLinkReply (s : State) (p : Port) : Bytes :=
  allPorts.flatMap (fun q => bytesBool (s.port q).up ++ bytesBool (s.port q).frameFault) ++ bytes1 (portCode p)

/-- QUERY_LINK (R201): the flags as they stood, and then the asking port's flag is cleared (R194). -/
def execQueryLink (port : Port) (tag : Byte) (payload : Bytes) (s : State) : Result :=
  takeOrder .queryLink port tag payload s (fun s =>
    let s := s.ok ⟨port, tag, Order.code .queryLink⟩ (s.bytesLinkReply port)
    .next (s.setPort port { s.port port with frameFault := false }))

/-! ### Hall Clear (R68, R205, R206) -/

/-- A Cluster Map entry after every chain has been freed: RETIRED stays, a marked cluster becomes RETIRED (R48, R68). -/
def ClusterEntry.cleared (e : ClusterEntry) : ClusterEntry :=
  if e = .retired ∨ e.suspect then .retired else .free

/-- Free every remaining chain and set the store counts (R68, steps 3 and 4). -/
def State.clearStore (s : State) : State :=
  let map := s.sc.map.filterMap (fun e => if e.2.cleared = .retired then some (e.1, ClusterEntry.retired) else none)
  { s with sc := { s.sc with
      map
      retiredCount := map.length
      freeCount := Config.clusters - map.length
      reserved := 0
      cursor := 0 } }

/-- The effects of Hall Clear, after its reply (R205): channels, uploads, chains, directory, classes, pool and layouts;
then the Upload Result of each cancelled upload, with generation 0 (R83). -/
def State.hallClear (s : State) : State :=
  let s := fours.foldl (fun s k => s.resetChannel k .hallClear State.returnPlanQuietly) s
  let uploads := s.openUploads
  let s := (uploads.foldl (fun s ku => s.cleanUp ku.1 ku.2) s).clearStore
  let s := { s with
    pdir := []
    ru := { classes := [], poolFree := Config.poolRecords }
    layouts := [] }
  uploads.foldl (fun s ku => s.uploadResult ku.1 ku.2 .cancelled 0) s

/-- HALL_CLEAR (R205). -/
def execHallClear (port : Port) (tag : Byte) (payload : Bytes) (s : State) : Result :=
  takeOrder .hallClear port tag payload s
    (fun s => .next (s.ok ⟨port, tag, Order.code .hallClear⟩ []).hallClear)

end Sys2Proof.Machine
end

