-- ==== Sys2Proof/Machine/Dispatch.lean ====
section
/-! DEFINITION. Dispatch: each command to its meaning. -/

namespace Sys2Proof.Machine

/-- A command's effect on everything but the queue of waiting commands (95_what_each_step_holds.md). -/
def exec (i : Instr) (s : State) : Host.Outcome State Fault Refusal :=
  match i with
  | .porstAsserted => Sys2Proof.Machine.execPorstAsserted s
  | .porstReleased => Sys2Proof.Machine.execPorstReleased s
  | .storeInitialisationEnd => Sys2Proof.Machine.execStoreInitialisationEnd s
  | .linkUp port => Sys2Proof.Machine.execLinkUp port s
  | .idleFill port => Sys2Proof.Machine.execIdleFill port s
  | .silenceTimerExpiry port => Sys2Proof.Machine.execSilenceTimerExpiry port s
  | .lineLoss port => Sys2Proof.Machine.execLineLoss port s
  | .frameDropped port frame => Sys2Proof.Machine.execFrameDropped port frame s
  | .frameDeparture port => Sys2Proof.Machine.execFrameDeparture port s
  | .unknownOrder port tag code payload => Sys2Proof.Machine.execUnknownOrder port tag code payload s
  | .defineLayout port tag payload => Sys2Proof.Machine.execDefineLayout port tag payload s
  | .deleteLayout port tag payload => Sys2Proof.Machine.execDeleteLayout port tag payload s
  | .queryLayout port tag payload => Sys2Proof.Machine.execQueryLayout port tag payload s
  | .openClass port tag payload => Sys2Proof.Machine.execOpenClass port tag payload s
  | .addSubject port tag payload => Sys2Proof.Machine.execAddSubject port tag payload s
  | .updateSubject port tag payload => Sys2Proof.Machine.execUpdateSubject port tag payload s
  | .removeSubject port tag payload => Sys2Proof.Machine.execRemoveSubject port tag payload s
  | .setTitle port tag payload => Sys2Proof.Machine.execSetTitle port tag payload s
  | .rebindClass port tag payload => Sys2Proof.Machine.execRebindClass port tag payload s
  | .withdrawRebind port tag payload => Sys2Proof.Machine.execWithdrawRebind port tag payload s
  | .freezeClass port tag payload => Sys2Proof.Machine.execFreezeClass port tag payload s
  | .deleteClass port tag payload => Sys2Proof.Machine.execDeleteClass port tag payload s
  | .queryClass port tag payload => Sys2Proof.Machine.execQueryClass port tag payload s
  | .beginUpload port tag payload => Sys2Proof.Machine.execBeginUpload port tag payload s
  | .putPixels port tag payload => Sys2Proof.Machine.execPutPixels port tag payload s
  | .endUpload port tag payload => Sys2Proof.Machine.execEndUpload port tag payload s
  | .cancelUpload port tag payload => Sys2Proof.Machine.execCancelUpload port tag payload s
  | .idleTimerExpiry slot => Sys2Proof.Machine.execIdleTimerExpiry slot s
  | .deletePortrait port tag payload => Sys2Proof.Machine.execDeletePortrait port tag payload s
  | .queryPortrait port tag payload => Sys2Proof.Machine.execQueryPortrait port tag payload s
  | .queryStore port tag payload => Sys2Proof.Machine.execQueryStore port tag payload s
  | .openGlyphWindow port tag payload => Sys2Proof.Machine.execOpenGlyphWindow port tag payload s
  | .closeGlyphWindow port tag payload => Sys2Proof.Machine.execCloseGlyphWindow port tag payload s
  | .loadGlyph port tag payload => Sys2Proof.Machine.execLoadGlyph port tag payload s
  | .queryGlyph port tag payload => Sys2Proof.Machine.execQueryGlyph port tag payload s
  | .planningStartStep => Sys2Proof.Machine.execPlanningStartStep s
  | .planningCompletion => Sys2Proof.Machine.execPlanningCompletion s
  | .configureChannel port tag payload => Sys2Proof.Machine.execConfigureChannel port tag payload s
  | .enableChannel port tag payload => Sys2Proof.Machine.execEnableChannel port tag payload s
  | .disableChannel port tag payload => Sys2Proof.Machine.execDisableChannel port tag payload s
  | .queuePage port tag payload => Sys2Proof.Machine.execQueuePage port tag payload s
  | .cancelPage port tag payload => Sys2Proof.Machine.execCancelPage port tag payload s
  | .sheetReady port tag payload => Sys2Proof.Machine.execSheetReady port tag payload s
  | .start port tag payload => Sys2Proof.Machine.execStart port tag payload s
  | .grantBands port tag payload => Sys2Proof.Machine.execGrantBands port tag payload s
  | .abortPage port tag payload => Sys2Proof.Machine.execAbortPage port tag payload s
  | .channelReset port tag payload => Sys2Proof.Machine.execChannelReset port tag payload s
  | .queryChannel port tag payload => Sys2Proof.Machine.execQueryChannel port tag payload s
  | .engineGrant => Sys2Proof.Machine.execEngineGrant s
  | .rowData => Sys2Proof.Machine.execRowData s
  | .bandEnd => Sys2Proof.Machine.execBandEnd s
  | .stallTimerExpiry channel => Sys2Proof.Machine.execStallTimerExpiry channel s
  | .scrubTimerExpiry => Sys2Proof.Machine.execScrubTimerExpiry s
  | .clearErrorLog port tag payload => Sys2Proof.Machine.execClearErrorLog port tag payload s
  | .hallClear port tag payload => Sys2Proof.Machine.execHallClear port tag payload s
  | .queryLink port tag payload => Sys2Proof.Machine.execQueryLink port tag payload s

end Sys2Proof.Machine
end

