-- ==== Sys2Proof/Safety.lean ====
section
/-! DEFINITION. The words the statements are written in: when an order reaches its block, what a command sends, which
blocks it may change; the values of power-on; and the invariants of the part. -/

namespace Sys2Proof.Machine

/-! ### Orders and answers -/

/-- An order reaches its block (R191, R193, R195): its link is UP, its payload fits a frame, the port's waiting replies
and notices are within their bound, the order is permitted on the port, initialisation does not hold it back, and its
payload has the length of its layout. -/
def Admitted (o : Order) (port : Port) (payload : Bytes) (s : State) : Prop :=
  (s.port port).up = true ∧ payload.length ≤ Config.payloadMax ∧ (s.port port).backlog ≤ Config.backlogMax
    ∧ permitted o port payload = true ∧ (needsReady o = true → s.phase = .running) ∧ lengthOk o payload = true

/-- A reply frame (R196, R209, R210). -/
def replyFrame (o : Order) (tag : Byte) (status : Status) (fields : Bytes) : Frame :=
  { kind := .reply, tag, code := o.code, payload := status.code :: fields }

/-- A notice frame (R203, R209). -/
def noticeFrame (n : Notice) (payload : Bytes) : Frame := { kind := .notice, tag := 0, code := n.code, payload }

/-- Frames for one port and none for the others. -/
def onPort (p : Port) (frames : List Frame) (q : Port) : List Frame := if q = p then frames else []

/-- Frames of two senders, one after the other on each port. -/
def andThen (first second : Port → List Frame) (q : Port) : List Frame := first q ++ second q

/-- What a command does to the ports: the silence timer of the port a frame arrived on restarts, the frames sent join
those waiting on an UP link and are lost on a DOWN one, and nothing else of any port changes (R191, R197, R204). -/
def PortsGain (heard : Option Port) (sent : Port → List Frame) (s t : State) : Prop :=
  ∀ q, t.port q = { s.port q with
    silence := if heard = some q then some Config.silenceMs else (s.port q).silence
    waiting := if (s.port q).up then (s.port q).waiting ++ sent q else (s.port q).waiting }

/-- The blocks of the part (00_scope.md). -/
inductive Block where
  | liu
  | lt
  | ru
  | sc
  | pdir
  | ie
  | gs
  | pln
  | pch
  | ce
  | sel
  deriving DecidableEq, Repr

/-- A block is the same in two states. -/
def Block.same (b : Block) (s t : State) : Prop :=
  match b with
  | .liu => t.liu = s.liu
  | .lt => t.layouts = s.layouts
  | .ru => t.ru = s.ru
  | .sc => t.sc = s.sc
  | .pdir => t.pdir = s.pdir
  | .ie => t.ie = s.ie
  | .gs => t.gs = s.gs
  | .pln => t.pln = s.pln
  | .pch => t.pch = s.pch
  | .ce => t.ce = s.ce
  | .sel => t.sel = s.sel

/-- The phase, the model's clock and the queue, and every block but those listed, are the same in two states. With `.sc`
not listed every byte of the store is the same. -/
def OnlyChanges (blocks : List Block) (s t : State) : Prop :=
  t.phase = s.phase ∧ t.clock = s.clock ∧ t.pending = s.pending ∧ ∀ b, b ∉ blocks → b.same s t

/-- An order is answered with a status alone and changes nothing else (R5, R210). -/
def Refused (o : Order) (port : Port) (tag : Byte) (status : Status) (s t : State) : Prop :=
  PortsGain (some port) (onPort port [replyFrame o tag status []]) s t ∧ OnlyChanges [.liu] s t

/-- An order is answered OK with its result fields, nothing else is sent, and only the blocks listed change beside the
LIU. -/
def Accepted (o : Order) (port : Port) (tag : Byte) (fields : Bytes) (blocks : List Block) (s t : State) : Prop :=
  PortsGain (some port) (onPort port [replyFrame o tag .ok fields]) s t ∧ OnlyChanges (.liu :: blocks) s t

/-- An order is answered OK with its result fields, the frames of `also` are sent after the reply, and only the blocks
listed change beside the LIU. -/
def AcceptedWith (o : Order) (port : Port) (tag : Byte) (fields : Bytes) (also : Port → List Frame)
    (blocks : List Block) (s t : State) : Prop :=
  PortsGain (some port) (andThen (onPort port [replyFrame o tag .ok fields]) also) s t
    ∧ OnlyChanges (.liu :: blocks) s t

/-! ### Chains and uploads -/

/-- The clusters of the chain of a slot's upload; none for an IDLE slot and for an empty chain (R70). -/
def State.slotChain (s : State) (k : Fin 4) : List Nat :=
  match s.slot k with
  | some u => (match u.chain with | some (first, _) => s.chain first | none => [])
  | none => []

/-- The clusters still reserved for a slot's upload; 0 for an IDLE slot (R70). -/
def State.slotReserved (s : State) (k : Fin 4) : Nat := ((s.slot k).map UploadRecord.reserved).getD 0

/-- Clusters have been freed (R48): those that are marked are RETIRED and the others FREE, with the counts by that; no other
cluster, no byte of the store and not the allocation cursor changes. -/
def ClustersFreed (clusters : List Nat) (marked : Nat → Bool) (s t : State) : Prop :=
  (∀ c, t.cluster c = if c ∈ clusters then (if marked c then .retired else .free) else s.cluster c)
    ∧ t.sc.freeCount = s.sc.freeCount + (clusters.filter (fun c => !marked c)).length
    ∧ t.sc.retiredCount = s.sc.retiredCount + (clusters.filter marked).length
    ∧ t.sc.cursor = s.sc.cursor ∧ t.sc.store = s.sc.store ∧ t.sc.errors = s.sc.errors

/-! ### Readiness reports -/

/-- The layout's placeholder names a handle (R12). -/
def LayoutRecord.names (r : LayoutRecord) (h : Nat) : Bool :=
  r.fields.any (fun f => f.placeholder.any (fun ref => decide (ref.handle = h)))

/-- A class that switches when a handle's entry enters READY (R12, R30, R31): its pending layout names the handle and is
ready in `t`, and it has nothing in flight. -/
def switchesAt (h : Nat) (s t : State) (c : Nat) : Bool :=
  decide ((s.classAt c).inFlight = 0)
    && (s.classAt c).pending.any (fun n => (s.layout n).names h && t.layoutReady n)

/-- What the entering of READY by a handle's entry, if it does so, sets off in classes and layouts (R12, R14, R30, R31):
every class that switches takes its pending layout as its bound one, and its old one is released. -/
def ReadinessReported (enters : Bool) (h : Nat) (s t : State) : Prop :=
  let switches (c : Nat) : Bool := enters && switchesAt h s t c
  (∀ c, t.classAt c =
      if switches c then { s.classAt c with bound := (s.classAt c).pending, pending := none } else s.classAt c)
    ∧ t.ru.poolFree = s.ru.poolFree
    ∧ ∀ n, t.layout n = { s.layout n with
        bindings := (s.layout n).bindings
          - ((s.ru.classes.map Prod.fst).filter (fun c => switches c && decide ((s.classAt c).bound = some n))).length }

/-- The Rebind Done notices of those switches (R30), by rising layout number and, for one layout, rising class number (the
model's choice, log 11). -/
def rebindDones (enters : Bool) (h : Nat) (s t : State) : List Frame :=
  (s.layouts.map Prod.fst).flatMap (fun n =>
    ((s.ru.classes.map Prod.fst).filter
      (fun c => enters && switchesAt h s t c && decide ((s.classAt c).pending = some n))).map
        (fun c => noticeFrame .rebindDone (bytes2 c ++ bytes1 n)))

/-! ### Channels and page ends -/

/-- A channel takes a new record, its stall timer by R167. -/
def ChannelTakes (k : Fin 4) (c : Channel) (s t : State) : Prop :=
  t.channel k = { c with stallTimer := settleTimer (s.channel k) c }

/-- Every channel but one, and the engine arbiter's last-served channel, are the same in two states. -/
def OthersSame (k : Fin 4) (s t : State) : Prop :=
  (∀ j, j ≠ k → t.channel j = s.channel j) ∧ t.pch.lastServed = s.pch.lastServed

/-- A channel's record after a release that its first job needs (R157), `damaged` being the entries that are DAMAGED: a
PLANNED job becomes RENDERING with a fresh rendering record and its cells of damaged handles flagged (R184); a RENDERING
one has more bands released; the trigger flag is consumed, except under IMMEDIATE. -/
def Channel.afterRelease (damaged : Nat → Bool) (c : Channel) : Channel :=
  let flag := if c.source = .immediate then c.flag else false
  match c.jobs with
  | [] => c
  | j :: rest =>
    match j.stage, c.rendering with
    | .planned p, _ =>
      let q := p.flagDamage damaged
      { c with
        flag := flag
        jobs := { classNo := p.snap.classNo, page := p.snap.page, copies := p.snap.copies, stage := .rendering q } :: rest
        rendering := some ((freshRendering (bandCount p.snap.layout.h c.bandHeight)).raise c.mode c.bandHeight q) }
    | .rendering p, some r => { c with flag := flag, rendering := some (r.raise c.mode c.bandHeight p) }
    | _, _ => c

/-- Plans whose return sets off nothing else: no handle pinned twice by one plan, no pinned entry with a pending
replacement, no class with a pending layout, and the glyph window not OPENING. -/
def QuietReturn (s : State) (plans : List Snapshot) : Prop :=
  s.gs.window ≠ .opening ∧ (∀ c, (s.classAt c).pending = none)
    ∧ ∀ p ∈ plans, p.handles.Nodup ∧ ∀ h ∈ p.handles, (s.entry h).replacement = none

/-- What plans held has been returned: each pin of theirs (R61), one of the in-flight count of a class for each of its
plans (R18), and one of the in-flight page count for each plan (R133). -/
def PlansReturned (plans : List Snapshot) (s t : State) : Prop :=
  (∀ h, t.entry h = { s.entry h with
      pins := (s.entry h).pins - (plans.filter (fun p => decide (h ∈ p.handles))).length })
    ∧ (∀ c, t.classAt c = { s.classAt c with
        inFlight := (s.classAt c).inFlight - (plans.filter (fun p => decide (p.classNo = c))).length })
    ∧ t.ru.poolFree = s.ru.poolFree ∧ t.gs = { s.gs with inFlight := s.gs.inFlight - plans.length }

/-- The part after plans have been returned one after the other (R61, R18, R133): for each plan its pins, in the order of its
pinned list, then one of its class's in-flight count, then one of the in-flight page count, each by the step whose effects,
the swap, the class switch and the glyph window's opening among them, ReturnsSetOffAtZero states. -/
def State.givenBack (s : State) (plans : List Snapshot) : State :=
  plans.foldl (fun u p => ((p.handles.foldl State.unpin u).lowerInFlight p.classNo).lowerPages) s

/-- The frames that the return of plans has sent on a port, whatever it set off. -/
def State.returnFrames (s : State) (plans : List Snapshot) (q : Port) : List Frame :=
  ((s.givenBack plans).port q).waiting.drop (s.port q).waiting.length

/-- Layouts, classes, store, directory and glyph window are as the return of plans leaves them, whatever it sets off. -/
def ReturnTaken (plans : List Snapshot) (s t : State) : Prop :=
  let u := s.givenBack plans
  t.layouts = u.layouts ∧ t.ru = u.ru ∧ t.sc = u.sc ∧ t.pdir = u.pdir ∧ t.gs = u.gs

/-- The contents of a Page Done (R165). -/
def pageDoneOf (k : Fin 4) (p : Plan) (result : PageResult) (completed bands : Nat) (cut : Bool) : PageDone :=
  { channel := k, seq := p.snap.seq, classNo := p.snap.classNo, page := p.snap.page, result := result,
    copies := p.snap.copies, completed := completed, bands := bands, cut := cut, counts := flagCounts p }

/-- The effects of a page end beside its notices (R164), `rest` being the jobs behind the page's and `chained` whether the
chained flags are set: the plan is returned, which sets off nothing else if QuietReturn holds; the channel keeps the Page Done
as its last page, loses the job and the rendering record, and takes a release at once if it is then ARMED with its trigger, its
stall timer by R167 at each of the two changes; and every other channel CHAINED on it takes its flag and the release it allows.
The releases find the entries DAMAGED that are so after the return. -/
def PageEnded (k : Fin 4) (p : Plan) (d : PageDone) (chained : Bool) (rest : List Job) (s t : State) : Prop :=
  ReturnTaken [p.snap] s t ∧ (QuietReturn s [p.snap] → PlansReturned [p.snap] s t)
    ∧ t.pch.lastServed = s.pch.lastServed
    ∧ (let c := s.channel k
       let c' : Channel := { c with
          lastPage := some d, jobs := rest, rendering := none
          flag := c.flag || (chained && c.enabled && decide (c.source = .chained k)) }
       let waiting : Channel := { c' with stallTimer := settleTimer c c' }
       let released := c'.afterRelease t.damagedEntry
       t.channel k =
        if c'.triggered = true ∧ c'.state = .armed then { released with stallTimer := settleTimer waiting released }
        else waiting)
    ∧ ∀ j, j ≠ k →
        let c := s.channel j
        if chained = true ∧ c.enabled = true ∧ c.source = .chained k then
          ChannelTakes j
            (if c.releaseNeeded then Channel.afterRelease t.damagedEntry { c with flag := true }
             else { c with flag := true }) s t
        else t.channel j = s.channel j

/-- A command has sent frames, `first` and then what the return of the plans sent, and changed only some blocks. With a return
that sets off nothing else only `first` is sent and layouts and store are the same besides. -/
def SendsAndReturns (heard : Option Port) (first : Port → List Frame) (blocks : List Block) (plans : List Snapshot)
    (s t : State) : Prop :=
  PortsGain heard (andThen first (s.returnFrames plans)) s t ∧ OnlyChanges (.lt :: .sc :: blocks) s t
    ∧ (QuietReturn s plans → PortsGain heard first s t ∧ OnlyChanges blocks s t)

/-! ### Rows of a band -/

/-- The words of a row that the engine has still to read for the band (R123, R126): for each placed cell that draws from a
handle, every word of its chain that holds a byte of a neighbour of a resampled pixel of the row, unless it has been read for
that cell in this band. -/
def RowNeeds (s : State) (b : Band) (row cell w : Nat) : Prop :=
  (∀ r ∈ b.reads, ¬ (r.cell = cell ∧ r.word = w))
    ∧ ∃ c d, b.plan.cells[cell]? = some c ∧ b.draws[cell]? = some (some d)
      ∧ c.y ≤ row ∧ row < c.y + b.plan.grid.ch
      ∧ ∃ x q, x < b.plan.grid.cw ∧ sampleAt d x (row - c.y) = some q
        ∧ ∃ o ∈ sampleOffsets d.image.width q, wordOfOffset s.sc.map d.image.first o = some w

/-- What a render read returns (R173, R185): the word as held, the corrected word, or nothing usable. -/
def State.wordData (s : State) (w : Nat) : Option (BitVec 64) :=
  match s.wordFault w with
  | none => some (Memory.word s.sc.store w)
  | some (.correctable bit) => some (correctWord (Memory.word s.sc.store w) bit)
  | some (.uncorrectable _) => none

/-- The corrected ones of a row's reads. -/
def State.corrected (s : State) (reads : List ReadWord) : List ReadWord :=
  reads.filter (fun r => (s.wordFault r.word).isSome)

/-- The Row Data frames of a row's pixels in emitted order (R162, R212): at most 1,360 pixels each, with the sequence number,
the band's index, the page row and the emitted column of the first pixel. -/
def rowNotices (b : Band) (row : Nat) (pixels : List Rgb) : List Frame :=
  (List.range ((b.plan.snap.layout.w + 1359) / 1360)).map (fun n =>
    let part := (pixels.drop (1360 * n)).take 1360
    noticeFrame .rowData (bytes2 b.plan.snap.seq ++ bytes2 b.index ++ bytes2 row ++ bytes2 (1360 * n)
      ++ bytes2 part.length ++ part.flatMap bytesRgb))

/-- The pixels of a row of a band in emitted order: in order, or with mirror on in reverse order (R162). -/
def State.emittedPixels (s : State) (b : Band) (row : Nat) : List Rgb :=
  let width := b.plan.snap.layout.w
  (List.range width).map (fun x => s.pagePixel b (if b.mirror then width - 1 - x else x) row)

/-- A row of a band has been produced and handed on with no word found uncorrectable (R123, R124, R162, R176, R179). Each
word the row needs and the band has not read is read once for its cell; every corrected read is counted, up to 65,535, and
offers its cluster to the rescrub list. The row leaves as Row Data frames of at most 1,360 pixels, its pixels in order or,
with mirror on, in reverse order. Nothing else changes. -/
def RowSent (b : Band) (reads : List ReadWord) (s t : State) : Prop :=
  let row := match b.order with
    | .forward => b.firstRow + (b.rowCount - b.rowsLeft)
    | .reverse => b.firstRow + (b.rowsLeft - 1)
  let now : Band := { b with reads := b.reads ++ reads }
  let corrected := s.corrected reads
  (∀ cell w, (∃ r ∈ reads, r.cell = cell ∧ r.word = w) ↔ RowNeeds s b row cell w)
    ∧ (reads.map (fun r => (r.cell, r.word))).Nodup ∧ (∀ r ∈ reads, r.data = s.wordData r.word)
    ∧ OnlyChanges [.liu, .ce, .sel] s t
    ∧ t.ce = some { b with rowsLeft := b.rowsLeft - 1, reads := b.reads ++ reads }
    ∧ t.sel = { s.sel with
        corrections := if corrected = [] then s.sel.corrections else min 65535 (s.sel.corrections + corrected.length)
        rescrub := corrected.foldl (fun l r =>
          if r.word / 8192 ∈ l ∨ 8 ≤ l.length then l else l ++ [r.word / 8192]) s.sel.rescrub }
    ∧ PortsGain none (onPort (.p b.channel) (rowNotices b row (s.emittedPixels now row))) s t

/-- A row of a band has been produced and handed on, whatever its words read (R123, R124, R173, R176, R179, R185). The words
the row needs are read one by one, each once for its cell, by the read whose effects RowDataSendsOneRow states (a corrected
word, a fault of kind READ); then the row leaves in its frames, drawn from what the reads gave, whether words were usable or
not, and one row fewer is left. With no word uncorrectable it is sent as RowSent says. -/
def RowProduced (b : Band) (s t : State) : Prop :=
  ∃ order : List (Nat × Nat), order.Nodup ∧ (∀ cell w, (cell, w) ∈ order ↔ RowNeeds s b b.nextRow cell w)
    ∧ (let reads : List ReadWord := order.map (fun r => { cell := r.1, word := r.2, data := s.wordData r.2 })
       let u := order.foldl (fun u r => u.readForCell r.1 r.2) s
       let now : Band := { b with reads := b.reads ++ reads }
       u.ce = some now ∧ t.ce = some { now with rowsLeft := b.rowsLeft - 1 } ∧ OnlyChanges [.liu, .ce] u t
         ∧ PortsGain none (onPort (.p b.channel) (rowNotices b b.nextRow (u.emittedPixels now b.nextRow))) u t
         ∧ ((∀ r ∈ order, uncorrectable (s.wordFault r.2) = false) → RowSent b reads s t))

/-- A set glyph pixel of a line falls on a page pixel (R140, R145): the line's codes stand from column `left` on, each at
`scale` times the advances before it, and a set mask pixel (u, v) below the advance covers a block of `scale` by `scale`
pixels. -/
def State.inkAt (s : State) (scale left top : Nat) (codes : List Nat) (x y : Nat) : Prop :=
  ∃ before code rest g u v, codes = before ++ code :: rest ∧ code ≠ 4095 ∧ s.glyph code = some g
    ∧ u < g.advance ∧ v < 32 ∧ maskPixel g.mask u v = true
    ∧ left + scale * (before.map s.advance).sum + scale * u ≤ x
    ∧ x < left + scale * (before.map s.advance).sum + scale * u + scale
    ∧ top + scale * v ≤ y ∧ y < top + scale * v + scale

/-! ### Power-on (R207) -/

/-- The values every block has after power-on (R1, R16, R17, R39, R67, R87, R113, R130, R147, R148, R172, R189, R191,
R194). -/
def PowerOnValues (s : State) : Prop :=
  (∀ p, s.port p = { up := false, silence := none, frameFault := false, waiting := [] })
    ∧ (∀ n, s.layout n = { fields := none, bindings := 0 })
    ∧ (∀ c, s.classAt c =
        { state := .empty, bound := none, pending := none, title := [], roster := [], inFlight := 0 })
    ∧ s.ru.poolFree = 32768
    ∧ (∀ c, s.cluster c = .free)
    ∧ s.sc.freeCount = 131072 ∧ s.sc.retiredCount = 0 ∧ s.sc.reserved = 0 ∧ s.sc.cursor = 0
    ∧ (∀ h, s.entry h =
        { state := .free, generation := 0, upload := none, image := none, pins := 0, replacement := none })
    ∧ (∀ k, s.slot k = none) ∧ s.ie.openList = []
    ∧ (∀ code, s.glyph code = none) ∧ s.gs.window = .closed ∧ s.gs.inFlight = 0
    ∧ s.pln = { planning := none, lastServed := 3 }
    ∧ (∀ k, s.channel k =
        { enabled := false, mode := .page, source := .immediate, order := .forward, mirror := false, bandHeight := 32,
          stallWindow := 30, jobs := [], credits := 0, flag := false, rendering := none, stallTimer := none,
          lastPage := none, nextSeq := 0 })
    ∧ s.pch.lastServed = 3 ∧ s.ce = none
    ∧ s.sel = { cursor := 0, timer := none, rescrub := [], corrections := 0, log := none, overflow := false }

/-! ### Invariants -/

/-- Every sparse table of the state, the store among them, has its canonical form. -/
def State.canonical (s : State) : Prop :=
  Table.wf emptyLayout s.layouts = true ∧ Table.wf emptyClass s.ru.classes = true
    ∧ Table.wf ClusterEntry.free s.sc.map = true ∧ Memory.wf s.sc.store = true ∧ Table.wf 0#72 s.sc.errors = true
    ∧ Table.wf (freeEntry 0) s.pdir = true ∧ Table.wf none s.gs.glyphs = true

/-- A roster as R21 has every roster: in roster order, with no subject id and no handle twice, and of at most 256
records. -/
def RosterOrdered (roster : List Subject) : Prop :=
  roster.Pairwise (fun a b => standsBefore a b = true) ∧ (roster.map Subject.id).Nodup
    ∧ (roster.filterMap (fun x => x.ref.map PortraitRef.handle)).Nodup ∧ roster.length ≤ Config.rosterMax

/-- The Roster Unit as R17, R19 and R21 have it: the Class Table in its canonical form, every roster in order, an EMPTY
class with nothing in it, and every pool record free or in one roster. -/
def State.rosterSound (s : State) : Prop :=
  Table.wf emptyClass s.ru.classes = true
    ∧ (∀ c, RosterOrdered (s.classAt c).roster)
    ∧ (∀ c, (s.classAt c).state = .empty → s.classAt c = emptyClass)
    ∧ s.ru.poolFree + (s.ru.classes.map (fun e => e.2.roster.length)).sum = Config.poolRecords

/-- The number of times a layout is named by a class, as its bound layout and as its pending layout (R13). -/
def namedBy (n : Nat) (r : ClassRecord) : Nat :=
  (if r.bound = some n then 1 else 0) + (if r.pending = some n then 1 else 0)

/-- Binding counts as R1 and R13 have them: the count of a record is the number of classes bound to it and pending on it,
and an EMPTY record's count is 0. -/
def State.bindingsSound (s : State) : Prop :=
  Table.wf emptyClass s.ru.classes = true
    ∧ (∀ c, (s.classAt c).state = .empty → s.classAt c = emptyClass)
    ∧ (∀ n, (s.layout n).bindings = (s.ru.classes.map (fun e => namedBy n e.2)).sum)
    ∧ (∀ n, (s.layout n).fields = none → (s.layout n).bindings = 0)

/-- The open list as R71 has it: the OPEN slots, no slot twice. -/
def State.openListSound (s : State) : Prop :=
  s.ie.openList.Nodup ∧ ∀ k, k ∈ s.ie.openList ↔ (s.slot k).isSome = true

/-- The ranges of the counters and lists of the channels and of the scrubber (R93, R148, R160, R176, R179). -/
def State.bounded (s : State) : Prop :=
  (∀ k, (s.channel k).jobs.length ≤ Config.jobMax ∧ (s.channel k).credits ≤ Config.creditMax
      ∧ (s.channel k).nextSeq < 65536)
    ∧ s.sel.corrections ≤ Config.correctionMax ∧ s.sel.rescrub.length ≤ Config.rescrubMax ∧ s.sel.rescrub.Nodup

/-- The job is in PLANNING or PLANNED. -/
def Job.inPlan (j : Job) : Bool := j.inFlight && (Job.renderingPlan? j).isNone

/-- The shape of a job list (R152): at most one RENDERING job, first; at most one PLANNING or PLANNED job, next; then
QUEUED jobs. -/
def JobsShaped (jobs : List Job) : Prop :=
  ∃ rendering planned queued, jobs = rendering ++ planned ++ queued
    ∧ rendering.length ≤ 1 ∧ (∀ j ∈ rendering, (Job.renderingPlan? j).isSome = true)
    ∧ planned.length ≤ 1 ∧ (∀ j ∈ planned, Job.inPlan j = true)
    ∧ ∀ j ∈ queued, Job.queued j = true

/-- The channels, the planner and the engine as R88, R124, R148, R149, R152 and R167 have them together: every list has
its shape; an OFF channel holds QUEUED jobs alone; the rendering record is present with a RENDERING job and not without;
the planner plans the channel that has a job in PLANNING; the engine holds a band of the channel that has a band in flight;
and a stall timer runs only while its channel waits on its press. -/
def State.channelsSound (s : State) : Prop :=
  (∀ k, JobsShaped (s.channel k).jobs
      ∧ ((s.channel k).enabled = false → ∀ j ∈ (s.channel k).jobs, Job.queued j = true)
      ∧ ((s.channel k).rendering.isSome = true ↔ (s.channel k).renderingPlan?.isSome = true)
      ∧ (s.pln.planning = some k ↔ ∃ j ∈ (s.channel k).jobs, (Job.planningSnap? j).isSome = true)
      ∧ ((s.ce.map Band.channel = some k) ↔ ∃ r, (s.channel k).rendering = some r ∧ r.inFlight = true)
      ∧ ((s.channel k).stallTimer.isSome = true → (s.channel k).pressWait.isSome = true))

/-- The plans in flight on the four channels (R18). -/
def State.plansInFlight (s : State) : List Snapshot :=
  fours.flatMap (fun k => (s.channel k).jobs.filterMap Job.snap?)

/-- In-flight counts as R18 and R133 have them: the Glyph Store's is the number of jobs in PLANNING, PLANNED or RENDERING
on all channels, and a class's is the number of those of the class. -/
def State.inFlightSound (s : State) : Prop :=
  (∀ c, (s.classAt c).state = .empty → s.classAt c = emptyClass)
    ∧ s.gs.inFlight = s.plansInFlight.length
    ∧ ∀ c, (s.classAt c).inFlight = (s.plansInFlight.filter (fun p => decide (p.classNo = c))).length

/-- Pin counts as R60 has them: an entry's is the number of plans in flight whose pinned list holds its handle, each list
holding a handle once; and a FREE or FILLING entry has no pins (R53). -/
def State.pinsSound (s : State) : Prop :=
  (∀ p ∈ s.plansInFlight, p.handles.Nodup)
    ∧ (∀ h, (s.entry h).pins = (s.plansInFlight.filter (fun p => decide (h ∈ p.handles))).length)
    ∧ ∀ h, (s.entry h).state = .free ∨ (s.entry h).state = .filling → (s.entry h).pins = 0

/-- The glyph window is OPEN only with no page in flight, and OPENING only with one (R133 to R135, R138). -/
def State.windowSound (s : State) : Prop :=
  (s.gs.window = .opened → s.gs.inFlight = 0) ∧ (s.gs.window = .opening → 0 < s.gs.inFlight)

/-- The holders of chains (R43, R44): the first cluster, the owner and the number of clusters of the chain of every open
upload, of every entry's CURRENT chain and of every pending replacement. -/
def State.chainHolders (s : State) : List (Nat × Owner × Nat) :=
  fours.flatMap (fun k => match s.slot k with
      | some u => (match u.chain with | some (first, _) => [(first, ⟨u.handle, .upload⟩, u.held)] | none => [])
      | none => [])
    ++ s.pdir.flatMap (fun e =>
      (match e.2.image with | some im => [(im.first, (⟨e.1, .current⟩ : Owner), im.clusters)] | none => [])
        ++ (match e.2.replacement with | some im => [(im.first, (⟨e.1, .pending⟩ : Owner), im.clusters)] | none => []))

/-- The record of an OPEN slot as R70 has it, with the entry it has claimed (R53, R56, R59). -/
def UploadSound (s : State) (k : Fin 4) (u : UploadRecord) : Prop :=
  128 ≤ u.width ∧ u.width ≤ 2048 ∧ 160 ≤ u.height ∧ u.height ≤ 2560
    ∧ u.expected = u.width * u.height * 3 ∧ u.received ≤ u.expected
    ∧ u.held + u.reserved = (u.expected + 65535) / 65536
    ∧ u.received ≤ u.held * 65536 ∧ u.held * 65536 ≤ u.received + 65535
    ∧ (u.chain = none ↔ u.held = 0)
    ∧ (∀ first last, u.chain = some (first, last) → (s.chain first).getLast? = some last)
    ∧ (s.entry u.handle).upload = some (k, u.mode)
    ∧ (u.mode = .new ↔ (s.entry u.handle).state = .filling)

/-- A directory entry as R53 has it, its open upload being that of an OPEN slot; a pending replacement waits for pins
(R58, R62). -/
def EntrySound (s : State) (h : Nat) (e : DirEntry) : Prop :=
  (∀ k mode, e.upload = some (k, mode) → ∃ u, s.slot k = some u ∧ u.handle = h ∧ u.mode = mode)
    ∧ (match e.state with
      | .free => e = freeEntry e.generation
      | .filling => e = { freeEntry e.generation with state := .filling, upload := e.upload } ∧ e.upload ≠ none
      | .ready | .damaged =>
        e.image ≠ none ∧ (e.replacement ≠ none → e.upload = none ∧ 0 < e.pins))

/-- The Store Controller, the Ingest Engine and the Portrait Directory as R43, R44, R46, R47, R53 and R70 have them
together: the counts are those of the Cluster Map; the reservation total is that of the OPEN slots and no more than the free
count; every slot and every entry is as it should be; every holder's chain has its number of clusters, all of its owner, and
ends with a LAST one; no cluster is twice in a chain or in two of them; and every chained cluster is in one. -/
def State.storeSound (s : State) : Prop :=
  Table.wf ClusterEntry.free s.sc.map = true ∧ Table.wf (freeEntry 0) s.pdir = true
    ∧ (∀ e ∈ s.sc.map, e.1 < 131072) ∧ (∀ e ∈ s.sc.errors, e.1 < 131072 * 8192)
    ∧ s.sc.freeCount + s.sc.map.length = 131072
    ∧ s.sc.retiredCount = (s.sc.map.filter (fun e => decide (e.2 = ClusterEntry.retired))).length
    ∧ s.sc.reserved = (fours.map s.slotReserved).sum ∧ s.sc.reserved ≤ s.sc.freeCount ∧ s.sc.cursor < 131072
    ∧ (∀ k u, s.slot k = some u → UploadSound s k u)
    ∧ (∀ h, EntrySound s h (s.entry h))
    ∧ (∀ holder ∈ s.chainHolders,
        (s.chain holder.1).length = holder.2.2 ∧ 0 < holder.2.2
          ∧ (∀ c ∈ s.chain holder.1, (s.cluster c).owner? = some holder.2.1)
          ∧ ∃ c m, (s.chain holder.1).getLast? = some c ∧ s.cluster c = .last m holder.2.1)
    ∧ (s.chainHolders.flatMap (fun holder => s.chain holder.1)).Nodup
    ∧ ∀ c, (s.cluster c).owner?.isSome = true → ∃ holder ∈ s.chainHolders, c ∈ s.chain holder.1

end Sys2Proof.Machine
end

