-- ==== Sys2Proof/Certificates/Slice0/Obligations.lean ====
section
/-! DEFINITION. The statements for the provers, block by block in the order of the spec's chapters. -/

open Sys2Proof Sys2Proof.Machine

/-! ### One step -/

/-- A step takes the command at the front of the queue: it is that command's effect on the state with the queue's rest. -/
def Obligations.StepRunsFrontCommand : Prop :=
  ∀ (c : Instr) (rest : List Instr) (s : State),
    step { s with pending := c :: rest } = exec c { s with pending := rest }

/-- With no command waiting a step is one idle millisecond (the model's choice, log 2): every running timer loses a
millisecond and stays at 0 when it has run out, the model's clock rises, and the DRAM may flip bits (log 3), which reaches
the bytes of the store and their check bits alone. The bits of a word that have changed are the wrong bits it has gained or
lost. A word with one wrong bit reads corrected, the syndrome naming that bit, one with two reads uncorrectable with a nonzero
syndrome, and a word that reads uncorrectable goes on doing so. -/
def Obligations.IdleStepRunsTimers : Prop :=
  ∀ s : State, s.pending = [] →
    ∃ t, step s = .next t ∧ t.clock = s.clock + 1 ∧ t.phase = s.phase ∧ t.pending = []
      ∧ (∀ p, t.port p = { s.port p with silence := (s.port p).silence.map (fun n => n - 1) })
      ∧ (∀ k, t.slot k = (s.slot k).map (fun u => { u with timer := u.timer - 1 })) ∧ t.ie.openList = s.ie.openList
      ∧ (∀ k, t.channel k = { s.channel k with stallTimer := (s.channel k).stallTimer.map (fun n => n - 1) })
      ∧ t.pch.lastServed = s.pch.lastServed
      ∧ t.sel = { s.sel with timer := s.sel.timer.map (fun n => n - 1) }
      ∧ t.sc = { s.sc with store := t.sc.store, errors := t.sc.errors }
      ∧ t.layouts = s.layouts ∧ t.ru = s.ru ∧ t.pdir = s.pdir ∧ t.gs = s.gs ∧ t.pln = s.pln ∧ t.ce = s.ce
      ∧ ∀ w,
        let before := Table.get 0#72 s.sc.errors w
        let after := Table.get 0#72 t.sc.errors w
        Memory.word t.sc.store w = Memory.word s.sc.store w ^^^ (before ^^^ after).setWidth 64
          ∧ (∀ n : Fin 72, after = 1#72 <<< n.val → t.wordFault w = some (.correctable n))
          ∧ (∀ m n : Fin 72, m < n → after = (1#72 <<< m.val) ||| (1#72 <<< n.val) →
              ∃ v, v ≠ 0#8 ∧ t.wordFault w = some (.uncorrectable v))
          ∧ ∀ v, s.wordFault w = some (.uncorrectable v) → ∃ v', t.wordFault w = some (.uncorrectable v')

/-! ### Power-on and the links -/

/-- The state at reset holds the power-on values of every block, with the store initialisation running and no command
waiting, and every invariant of the model holds there. -/
def Obligations.ResetHoldsPowerOnValues : Prop :=
  PowerOnValues State.reset ∧ State.reset.phase = .initialising ∧ State.reset.pending = []
    ∧ State.reset.canonical ∧ State.reset.rosterSound ∧ State.reset.bindingsSound ∧ State.reset.openListSound
    ∧ State.reset.bounded ∧ State.reset.channelsSound ∧ State.reset.inFlightSound
    ∧ State.reset.storeSound ∧ State.reset.pinsSound ∧ State.reset.windowSound

/-- PORST discards every waiting frame and all state of the part: at its assertion and at its release every block takes its
power-on values, and the release begins the store initialisation. -/
def Obligations.PorstTakesPowerOnValues : Prop :=
  ∀ s : State,
    (∃ t, exec .porstAsserted s = .next t ∧ PowerOnValues t ∧ t.phase = .inReset ∧ t.pending = s.pending
        ∧ t.clock = s.clock)
      ∧ ∃ t, exec .porstReleased s = .next t ∧ PowerOnValues t ∧ t.phase = .initialising ∧ t.pending = s.pending
        ∧ t.clock = s.clock

/-- The end of the store initialisation: every byte of the store reads 0 with valid check bits, the part runs, the scrub
timer starts with its 200 ms, and nothing else changes. While no initialisation runs the event is not due and changes
nothing (log 1). -/
def Obligations.InitialisationEndStartsPart : Prop :=
  ∀ s : State,
    (s.phase = .initialising →
      ∃ t, exec .storeInitialisationEnd s = .next t ∧ t.phase = .running
        ∧ (∀ a, Memory.read t.sc.store a = 0) ∧ (∀ w, t.wordFault w = none)
        ∧ t.sc = { s.sc with store := t.sc.store, errors := t.sc.errors }
        ∧ t.sel = { s.sel with timer := some 200 } ∧ t.clock = s.clock ∧ t.pending = s.pending
        ∧ ∀ b : Block, b ≠ .sc → b ≠ .sel → b.same s t)
      ∧ (s.phase ≠ .initialising → exec .storeInitialisationEnd s = .next s)

/-- A DOWN link goes UP when its training completes, with a silence timer of 100 ms and its frame-fault flag kept, and idle
fill restarts the timer of an UP link. The silence timer's expiry and the loss of the line take an UP link DOWN in the same
way: they answer one state, in which that port is DOWN with a stopped timer, no frame waiting and its frame-fault flag kept.
Loss of the layout link closes the glyph window, OPENING or OPEN, with no notice, and changes no other block. The model's
choices: a silence timer that has not run out does not expire and changes nothing (log 1 and log 6), no link goes UP while
PORST is asserted (log 24), and a link that is UP does not go UP again, nor does a DOWN one fill, fall silent or lose its line
(log 1). -/
def Obligations.LinksGoUpAndDown : Prop :=
  ∀ (s : State) (p : Port),
    (s.phase ≠ .inReset → (s.port p).up = false →
      ∃ t, exec (.linkUp p) s = .next t ∧ t.port p = { s.port p with up := true, silence := some 100 }
        ∧ (∀ q, q ≠ p → t.port q = s.port q) ∧ OnlyChanges [.liu] s t)
      ∧ (s.phase = .inReset ∨ (s.port p).up = true → exec (.linkUp p) s = .next s)
      ∧ ((s.port p).up = false → exec (.idleFill p) s = .next s ∧ exec (.lineLoss p) s = .next s
        ∧ exec (.silenceTimerExpiry p) s = .next s)
      ∧ ((s.port p).up = true →
        (∃ t, exec (.idleFill p) s = .next t ∧ PortsGain (some p) (fun _ => []) s t ∧ OnlyChanges [.liu] s t)
        ∧ (∃ t, exec (.lineLoss p) s = .next t
          ∧ t.port p = { up := false, silence := none, frameFault := (s.port p).frameFault, waiting := [] }
          ∧ ((s.port p).silence = some 0 → exec (.silenceTimerExpiry p) s = .next t)
          ∧ (p = .l → t.gs = { s.gs with window := .closed } ∧ (∀ q, q ≠ .l → t.port q = s.port q)
            ∧ OnlyChanges [.liu, .gs] s t))
        ∧ ((s.port p).silence ≠ some 0 → exec (.silenceTimerExpiry p) s = .next s))

/-- Loss of the ingest link abandons every OPEN slot with no Upload Result: every slot is IDLE, the open list is empty, the
entry of an open NEW upload is FREE at its own generation and that of a REPLACE upload keeps all but its open upload. Every
reservation is returned, and with no cluster in two of the uploads' chains, or twice in one, every chain of theirs is freed
and no other cluster changes. No byte of the store changes. -/
def Obligations.IngestLinkLossAbandonsUploads : Prop :=
  ∀ s : State, s.openListSound → (s.port .i).up = true →
    let chains := s.ie.openList.flatMap s.slotChain
    ∃ t, exec (.lineLoss .i) s = .next t ∧ (∀ k, t.slot k = none) ∧ t.ie.openList = []
      ∧ (∀ h, t.entry h =
          if ∃ k u, s.slot k = some u ∧ u.handle = h then
            (if (s.entry h).state = .filling then freeEntry (s.entry h).generation
             else { s.entry h with upload := none })
          else s.entry h)
      ∧ t.sc.reserved = s.sc.reserved - (s.ie.openList.map s.slotReserved).sum
      ∧ (chains.Nodup → ClustersFreed chains (fun c => (s.cluster c).suspect) s t)
      ∧ (∀ a, Memory.read t.sc.store a = Memory.read s.sc.store a) ∧ t.sc.cursor = s.sc.cursor
      ∧ (∀ q, q ≠ .i → t.port q = s.port q) ∧ OnlyChanges [.liu, .sc, .pdir, .ie] s t

/-- A frame that fails the frame check on an UP link is dropped: the port's frame-fault flag is set, its silence timer
restarts, and nothing is sent or passed on. A frame leaves an UP link in the order of production: the first waiting frame
goes, the others keep their order, and nothing else changes. By itself a frame fails the check when it is too short for its
head and CRC, when its CRC-16 is not that of the bytes before it, when its length field is above 4,096 or is not the number of
its payload bytes, and when its kind is not ORDER. The CRC-16 takes each byte most significant bit first, by the polynomial
0x1021 from 0xFFFF, so that the bytes 0x31 to 0x39 give 0x29B1. What counts toward the 16,384 bytes above which a port drops
frames is the model's reading (log 13): every waiting reply and notice with its 8 bytes of head and CRC and its payload, Band
Start and Row Data not. That nothing is kept of a frame that has left is its choice (log 15). -/
def Obligations.FramesDroppedAndDeparting : Prop :=
  (∀ (s : State) (p : Port), (s.port p).up = true →
    (∀ frame : Bytes, frameSound frame = false ∨ 16384 < (s.port p).backlog →
      ∃ t, exec (.frameDropped p frame) s = .next t
        ∧ t.port p = { s.port p with silence := some 100, frameFault := true }
        ∧ (∀ q, q ≠ p → t.port q = s.port q) ∧ OnlyChanges [.liu] s t)
      ∧ ∀ (f : Frame) (rest : List Frame), (s.port p).waiting = f :: rest →
        ∃ t, exec (.frameDeparture p) s = .next t ∧ t.port p = { s.port p with waiting := rest }
          ∧ (∀ q, q ≠ p → t.port q = s.port q) ∧ OnlyChanges [.liu] s t)
    ∧ (∀ p : PortState, p.backlog =
        ((p.waiting.filter (fun f => decide (f.kind = .reply ∨ (f.code ≠ 0x0810#16 ∧ f.code ≠ 0x0811#16)))).map
          (fun f => 8 + f.payload.length)).sum)
    ∧ (∀ frame : Bytes, frameSound frame = false ↔
        frame.length < 8
          ∨ word16At frame (frame.length - 2) ≠ (crc16 (frame.take (frame.length - 2))).toNat
          ∨ 4096 < word16At frame 4 ∨ word16At frame 4 ≠ frame.length - 8 ∨ byteAt frame 0 ≠ 1)
    ∧ crc16 [] = 0xFFFF#16
    ∧ (∀ (bytes : Bytes) (b : Byte), crc16 (bytes ++ [b]) =
        (List.range 8).foldl (fun r _ => if r.msb then (r <<< 1) ^^^ 0x1021#16 else r <<< 1)
          (crc16 bytes ^^^ (b.setWidth 16 <<< 8)))
    ∧ crc16 [0x31, 0x32, 0x33, 0x34, 0x35, 0x36, 0x37, 0x38, 0x39] = 0x29B1#16

/-- What becomes of an order that does not reach its block. One whose message code names no order of the part is answered
UNKNOWN_ORDER, with its own tag and code. On a DOWN link it is not taken. One with too long a payload, or
on a port with more than 16,384 bytes of replies and notices waiting, is dropped and sets the frame-fault flag. Otherwise
an order not permitted on its port is answered NOT_PERMITTED, an order other than a query that comes before the part runs
NOT_READY, and one whose payload has not its layout's length BAD_FIELD, in that order; each changes nothing but its
port. That an order command with a payload above 4,096 bytes stands for a frame that is dropped is the model's choice (log 14),
and the count of the bytes waiting is its reading (log 13; FramesDroppedAndDeparting states it). -/
def Obligations.OrderTurnedAway : Prop :=
  ∀ (s : State) (port : Port) (tag : Byte) (payload : Bytes),
    ((s.port port).up = true → payload.length ≤ 4096 → (s.port port).backlog ≤ 16384 →
      ∀ code : BitVec 16, (∀ o : Order, o.code ≠ code) →
      ∃ t, exec (.unknownOrder port tag code payload) s = .next t
        ∧ PortsGain (some port)
          (onPort port [{ kind := .reply, tag := tag, code := code, payload := [Status.unknownOrder.code] }]) s t
        ∧ OnlyChanges [.liu] s t)
      ∧ ∀ o : Order, ((s.port port).up = false → exec (o.command port tag payload) s = .next s)
      ∧ ((s.port port).up = true → (4096 < payload.length ∨ 16384 < (s.port port).backlog) →
        ∃ t, exec (o.command port tag payload) s = .next t
          ∧ t.port port = { s.port port with silence := some 100, frameFault := true }
          ∧ (∀ q, q ≠ port → t.port q = s.port q) ∧ OnlyChanges [.liu] s t)
      ∧ ((s.port port).up = true → payload.length ≤ 4096 → (s.port port).backlog ≤ 16384 →
        (permitted o port payload = false →
          ∃ t, exec (o.command port tag payload) s = .next t ∧ Refused o port tag .notPermitted s t)
        ∧ (permitted o port payload = true → needsReady o = true → s.phase ≠ .running →
          ∃ t, exec (o.command port tag payload) s = .next t ∧ Refused o port tag .notReady s t)
        ∧ (permitted o port payload = true → (needsReady o = true → s.phase = .running) → lengthOk o payload = false →
          ∃ t, exec (o.command port tag payload) s = .next t ∧ Refused o port tag .badField s t))

/-- Which port may give which order: the orders of layouts, classes, glyphs, the error log and Hall Clear on port L alone;
the upload orders and Delete Portrait on port I alone; the press orders on the press ports alone; Start on port L whatever
it names and on port Pk when it names channel k, or names none for want of a payload; the queries everywhere. The store initialisation holds back every order but
the queries. And the length that each order's payload has. -/
def Obligations.PermissionByPort : Prop :=
  let queries : List Order :=
    [.queryLayout, .queryClass, .queryPortrait, .queryStore, .queryGlyph, .queryChannel, .queryLink]
  (∀ (o : Order) (port : Port) (payload : Bytes),
    permitted o port payload = true ↔
      (o ∈ queries)
        ∨ (port = .l ∧ o ∈ [.defineLayout, .deleteLayout, .openClass, .deleteClass, .addSubject, .updateSubject,
            .removeSubject, .setTitle, .rebindClass, .withdrawRebind, .freezeClass, .openGlyphWindow,
            .closeGlyphWindow, .loadGlyph, .clearErrorLog, .hallClear, .start])
        ∨ (port = .i ∧ o ∈ [.beginUpload, .putPixels, .endUpload, .cancelUpload, .deletePortrait])
        ∨ (∃ k : Fin 4, port = .p k ∧ (o ∈ [.configureChannel, .enableChannel, .disableChannel, .queuePage, .cancelPage,
            .grantBands, .sheetReady, .abortPage, .channelReset] ∨ (o = .start ∧ (payload = [] ∨ byteAt payload 0 = k.val)))))
    ∧ (∀ o : Order, needsReady o = false ↔ o ∈ queries)
    ∧ ∀ (o : Order) (p : Bytes),
      (o = .putPixels → (lengthOk o p = true ↔ 9 ≤ p.length ∧ p.length = 9 + word16At p 7))
        ∧ (o = .loadGlyph → (lengthOk o p = true ↔
            4 ≤ p.length ∧ (byteAt p 3 = 0 → p.length = 68) ∧ (byteAt p 3 = 1 → p.length = 132)))
        ∧ (o ≠ .putPixels → o ≠ .loadGlyph → (lengthOk o p = true ↔
            (p.length = 0 ∧ o ∈ [.openGlyphWindow, .closeGlyphWindow, .clearErrorLog, .hallClear, .enableChannel,
                .disableChannel, .sheetReady, .abortPage, .channelReset, .queryStore, .queryLink])
              ∨ (p.length = 1 ∧ o ∈ [.deleteLayout, .grantBands, .start, .queryLayout, .queryChannel])
              ∨ (p.length = 2 ∧ o ∈ [.deleteClass, .withdrawRebind, .freezeClass, .deletePortrait, .queryPortrait,
                .queryGlyph])
              ∨ (p.length = 3 ∧ o ∈ [.openClass, .rebindClass, .endUpload, .cancelUpload, .cancelPage, .queryClass])
              ∨ (p.length = 4 ∧ o = .queuePage) ∨ (p.length = 5 ∧ o = .removeSubject)
              ∨ (p.length = 6 ∧ o = .configureChannel) ∨ (p.length = 17 ∧ o = .beginUpload)
              ∨ (p.length = 29 ∧ o = .defineLayout) ∨ (p.length = 95 ∧ (o = .addSubject ∨ o = .updateSubject))
              ∨ (p.length = 131 ∧ o = .setTitle)))

/-- DECODE AND ENCODE AGREE: the order frame built for a well-formed order, known or not, is read back as that order, with
its tag, its message code and every byte of its payload. -/
def Obligations.FrameRoundTrip : Prop :=
  ∀ (c : Instr) (port : Port) (frame : Bytes), c.wellFormed = true → encodeFrame c = some (port, frame) →
    decodeFrame port frame = some c

/-! ### Layouts -/

/-- The field checks of the orders that carry a record, by the bytes of their payloads: of a Define Layout, and of an Add
Subject or Update Subject with its role, caption and portrait reference. -/
def Obligations.RecordFieldChecks : Prop :=
  ∀ p : Bytes,
    (layoutFieldsOk (readLayout p) = false ↔
      63 < byteAt p 0 ∨ word16At p 1 < 512 ∨ 8192 < word16At p 1 ∨ word16At p 3 < 512 ∨ 8192 < word16At p 3
        ∨ byteAt p 5 < 1 ∨ 16 < byteAt p 5 ∨ byteAt p 6 < 1 ∨ 16 < byteAt p 6
        ∨ (byteAt p 10 ≠ 1 ∧ byteAt p 10 ≠ 2) ∨ 1023 < word16At p 11
        ∨ (byteAt p 13 ≠ 1 ∧ byteAt p 13 ≠ 2 ∧ byteAt p 13 ≠ 4) ∨ 1 < byteAt p 16 ∨ 4094 < word16At p 27
        ∨ 1 < byteAt p 23 ∨ (byteAt p 23 = 1 ∧ (16383 < word16At p 24 ∨ 15 < byteAt p 26)))
      ∧ (let caption := ((List.range 40).map (fun n => word16At p (15 + 2 * n))).take (byteAt p 14)
        subjectFieldsOk (readSubject p) = false ↔
          1 < byteAt p 5 ∨ byteAt p 14 = 0 ∨ 40 < byteAt p 14 ∨ (∃ code ∈ caption, 4095 < code)
            ∨ 1 < caption.count 4095 ∨ caption.head? = some 4095 ∨ caption.getLast? = some 4095
            ∨ 1 < byteAt p 10 ∨ (byteAt p 10 = 1 ∧ (16383 < word16At p 11 ∨ 15 < byteAt p 13)))

/-- The geometry check, for every sign of its two numerators: an order whose fields are in range is answered BAD_GEOMETRY,
and changes nothing, exactly when its grid's cell width floor((W - (C - 1) g) / C) or cell height
floor((H - T - R cap - (R - 1) v) / R) is below 32, that is, when a numerator is below 32 C or 32 R. -/
def Obligations.GeometryCheckIsOnCells : Prop :=
  ∀ (s : State) (port : Port) (tag : Byte) (p : Bytes), Admitted .defineLayout port p s →
    layoutFieldsOk (readLayout p) = true →
    let w : Int := word16At p 1; let h : Int := word16At p 3; let c : Int := byteAt p 5; let r : Int := byteAt p 6
    let g : Int := byteAt p 7; let v : Int := byteAt p 8; let cap : Int := byteAt p 9; let t : Int := word16At p 11
    let refused := ∃ s', exec (.defineLayout port tag p) s = .next s' ∧ Refused .defineLayout port tag .badGeometry s s'
    (refused ↔ (w - (c - 1) * g) / c < 32 ∨ (h - t - r * cap - (r - 1) * v) / r < 32)
      ∧ (refused ↔ w - (c - 1) * g < 32 * c ∨ h - t - r * cap - (r - 1) * v < 32 * r)

/-- Define Layout: refused BAD_FIELD, BAD_GEOMETRY or IN_USE, or accepted. An accepted one stores every field of its payload,
the ratios clamped into 32 to 224, makes the record DEFINED with a binding count of 0, and is answered OK with the
RATIO_CLAMPED indication; no other record and no other block changes. -/
def Obligations.DefineLayoutOutcome : Prop :=
  ∀ (s : State) (port : Port) (tag : Byte) (p : Bytes), Admitted .defineLayout port p s →
    ∃ t, exec (.defineLayout port tag p) s = .next t
      ∧ (layoutFieldsOk (readLayout p) = false → Refused .defineLayout port tag .badField s t)
      ∧ (layoutFieldsOk (readLayout p) = true → geometryOk (readLayout p) = false →
          Refused .defineLayout port tag .badGeometry s t)
      ∧ (layoutFieldsOk (readLayout p) = true → geometryOk (readLayout p) = true →
          0 < (s.layout (byteAt p 0)).bindings → Refused .defineLayout port tag .inUse s t)
      ∧ (layoutFieldsOk (readLayout p) = true → geometryOk (readLayout p) = true →
          (s.layout (byteAt p 0)).bindings = 0 →
          Accepted .defineLayout port tag
              [BitVec.ofNat 8 ((if byteAt p 14 < 32 ∨ 224 < byteAt p 14 then 1 else 0)
                + (if byteAt p 15 < 32 ∨ 224 < byteAt p 15 then 2 else 0))] [.lt] s t
            ∧ t.layout (byteAt p 0) =
              { fields := some
                  { w := word16At p 1, h := word16At p 3, c := byteAt p 5, r := byteAt p 6, g := byteAt p 7,
                    v := byteAt p 8, cap := byteAt p 9, captionScale := byteAt p 10, t := word16At p 11,
                    titleScale := byteAt p 13, headRatio := max 32 (min (byteAt p 14) 224),
                    eyeRatio := max 32 (min (byteAt p 15) 224),
                    alignment := if byteAt p 16 = 0 then .left else .centred,
                    backdrop := { r := p.getD 17 0, g := p.getD 18 0, b := p.getD 19 0 },
                    ink := { r := p.getD 20 0, g := p.getD 21 0, b := p.getD 22 0 },
                    placeholder := if byteAt p 23 = 0 then none
                      else some { handle := word16At p 24, generation := byteAt p 26 },
                    ellipsis := word16At p 27 }
                bindings := 0 }
            ∧ ∀ n, n ≠ byteAt p 0 → t.layout n = s.layout n)

/-- Delete Layout: a number above 63 is refused BAD_FIELD, an EMPTY record NOT_FOUND, a record with a binding count above 0
IN_USE; otherwise the record is EMPTY with its fields discarded and the order is answered OK. No other record and no other
block changes, page plans among them. -/
def Obligations.DeleteLayoutOutcome : Prop :=
  ∀ (s : State) (port : Port) (tag : Byte) (p : Bytes), Admitted .deleteLayout port p s →
    ∃ t, exec (.deleteLayout port tag p) s = .next t
      ∧ (63 < byteAt p 0 → Refused .deleteLayout port tag .badField s t)
      ∧ (byteAt p 0 ≤ 63 → (s.layout (byteAt p 0)).fields = none → Refused .deleteLayout port tag .notFound s t)
      ∧ (byteAt p 0 ≤ 63 → (s.layout (byteAt p 0)).fields ≠ none → 0 < (s.layout (byteAt p 0)).bindings →
          Refused .deleteLayout port tag .inUse s t)
      ∧ (byteAt p 0 ≤ 63 → (s.layout (byteAt p 0)).fields ≠ none → (s.layout (byteAt p 0)).bindings = 0 →
          Accepted .deleteLayout port tag [] [.lt] s t
            ∧ t.layout (byteAt p 0) = { fields := none, bindings := 0 }
            ∧ ∀ n, n ≠ byteAt p 0 → t.layout n = s.layout n)

/-! ### Classes and rosters -/

/-- Open Class: refused BAD_FIELD, IN_USE or NOT_FOUND, or accepted. An accepted one makes the class OPEN on the layout, with
no pending layout, an empty title, an empty roster and an in-flight count of 0, and raises the layout's binding count by
1. -/
def Obligations.OpenClassOutcome : Prop :=
  ∀ (s : State) (port : Port) (tag : Byte) (p : Bytes), Admitted .openClass port p s →
    let c := word16At p 0
    let n := byteAt p 2
    ∃ t, exec (.openClass port tag p) s = .next t
      ∧ (511 < c ∨ 63 < n → Refused .openClass port tag .badField s t)
      ∧ (c ≤ 511 → n ≤ 63 → (s.classAt c).state ≠ .empty → Refused .openClass port tag .inUse s t)
      ∧ (c ≤ 511 → n ≤ 63 → (s.classAt c).state = .empty → (s.layout n).fields = none →
          Refused .openClass port tag .notFound s t)
      ∧ (c ≤ 511 → n ≤ 63 → (s.classAt c).state = .empty → (s.layout n).fields ≠ none →
          Accepted .openClass port tag [] [.lt, .ru] s t
            ∧ t.classAt c =
              { state := .opened, bound := some n, pending := none, title := [], roster := [], inFlight := 0 }
            ∧ (∀ d, d ≠ c → t.classAt d = s.classAt d) ∧ t.ru.poolFree = s.ru.poolFree
            ∧ t.layout n = { s.layout n with bindings := (s.layout n).bindings + 1 }
            ∧ ∀ m, m ≠ n → t.layout m = s.layout m)

/-- The checks of the edit orders. An Add Subject or Update Subject with a field out of range is answered BAD_FIELD. Once its
own fields are in range, an edit order's class number above 511 gives BAD_FIELD, an EMPTY class NOT_FOUND and a FROZEN class
FROZEN. Each of these changes nothing. -/
def Obligations.ClassChecksOfEdits : Prop :=
  ∀ (o : Order) (s : State) (port : Port) (tag : Byte) (p : Bytes), Admitted o port p s →
    let c := word16At p 0
    (o = .addSubject ∨ o = .updateSubject → subjectFieldsOk (readSubject p) = false →
        ∃ t, exec (o.command port tag p) s = .next t ∧ Refused o port tag .badField s t)
      ∧ ((o = .addSubject ∨ o = .updateSubject) ∧ subjectFieldsOk (readSubject p) = true
          ∨ o = .removeSubject ∨ o = .withdrawRebind
          ∨ o = .setTitle ∧ titleOk (byteAt p 2) (readTitle p) = true ∨ o = .rebindClass ∧ byteAt p 2 ≤ 63 →
        (511 < c → ∃ t, exec (o.command port tag p) s = .next t ∧ Refused o port tag .badField s t)
          ∧ (c ≤ 511 → (s.classAt c).state = .empty →
            ∃ t, exec (o.command port tag p) s = .next t ∧ Refused o port tag .notFound s t)
          ∧ (c ≤ 511 → (s.classAt c).state = .frozen →
            ∃ t, exec (o.command port tag p) s = .next t ∧ Refused o port tag .frozen s t))

/-- Add Subject with fields in range to an OPEN class: refused DUPLICATE, ROSTER_FULL or POOL_FULL in that order of checks,
or accepted. An accepted one takes one record of the pool and stands in the roster at the position roster order gives it,
which the reply carries, the records from there on one place later. No other class and no other block changes. -/
def Obligations.AddSubjectOutcome : Prop :=
  ∀ (s : State) (port : Port) (tag : Byte) (p : Bytes), Admitted .addSubject port p s →
    subjectFieldsOk (readSubject p) = true →
    let c := word16At p 0
    let x : Subject :=
      { id := word24At p 2, role := if byteAt p 5 = 0 then .staff else .student, sortKey := word32At p 6,
        caption := ((List.range 40).map (fun n => word16At p (15 + 2 * n))).take (byteAt p 14),
        ref := if byteAt p 10 = 0 then none else some { handle := word16At p 11, generation := byteAt p 13 } }
    let roster := (s.classAt c).roster
    let twice := (∃ y ∈ roster, y.id = x.id) ∨ ∃ y ∈ roster, ∃ q r, y.ref = some q ∧ x.ref = some r ∧ q.handle = r.handle
    let pos := (roster.filter (fun y => standsBefore y x)).length
    c ≤ 511 → (s.classAt c).state = .opened → RosterOrdered roster →
    ∃ t, exec (.addSubject port tag p) s = .next t
      ∧ (twice → Refused .addSubject port tag .duplicate s t)
      ∧ (¬ twice → roster.length = 256 → Refused .addSubject port tag .rosterFull s t)
      ∧ (¬ twice → roster.length < 256 → s.ru.poolFree = 0 → Refused .addSubject port tag .poolFull s t)
      ∧ (¬ twice → roster.length < 256 → 0 < s.ru.poolFree →
          Accepted .addSubject port tag [BitVec.ofNat 8 pos] [.ru] s t
            ∧ t.classAt c = { s.classAt c with roster := roster.take pos ++ x :: roster.drop pos }
            ∧ (∀ d, d ≠ c → t.classAt d = s.classAt d) ∧ t.ru.poolFree + 1 = s.ru.poolFree)

/-- Update Subject with fields in range in an OPEN class: refused NOT_FOUND or DUPLICATE, or accepted. An accepted one
gives the record of its subject id the order's role, sort key, caption and reference and moves it to the position its new
values give, which the reply carries; the other records keep their order and the pool does not change. -/
def Obligations.UpdateSubjectOutcome : Prop :=
  ∀ (s : State) (port : Port) (tag : Byte) (p : Bytes), Admitted .updateSubject port p s →
    subjectFieldsOk (readSubject p) = true →
    let c := word16At p 0
    let x : Subject :=
      { id := word24At p 2, role := if byteAt p 5 = 0 then .staff else .student, sortKey := word32At p 6,
        caption := ((List.range 40).map (fun n => word16At p (15 + 2 * n))).take (byteAt p 14),
        ref := if byteAt p 10 = 0 then none else some { handle := word16At p 11, generation := byteAt p 13 } }
    let roster := (s.classAt c).roster
    let others := roster.filter (fun y => decide (y.id ≠ x.id))
    let twice := ∃ y ∈ others, ∃ q r, y.ref = some q ∧ x.ref = some r ∧ q.handle = r.handle
    let pos := (others.filter (fun y => standsBefore y x)).length
    c ≤ 511 → (s.classAt c).state = .opened → RosterOrdered roster →
    ∃ t, exec (.updateSubject port tag p) s = .next t
      ∧ ((∀ y ∈ roster, y.id ≠ x.id) → Refused .updateSubject port tag .notFound s t)
      ∧ ((∃ y ∈ roster, y.id = x.id) → twice → Refused .updateSubject port tag .duplicate s t)
      ∧ ((∃ y ∈ roster, y.id = x.id) → ¬ twice →
          Accepted .updateSubject port tag [BitVec.ofNat 8 pos] [.ru] s t
            ∧ t.classAt c = { s.classAt c with roster := others.take pos ++ x :: others.drop pos }
            ∧ (∀ d, d ≠ c → t.classAt d = s.classAt d) ∧ t.ru.poolFree = s.ru.poolFree)

/-- Remove Subject in an OPEN class takes the record of its subject id out of the roster and returns it to the pool, or is
refused NOT_FOUND; Set Title replaces the title by the order's string, or is refused BAD_FIELD for a string of more than 64
codes or with a code above 4,094. No other class and no other block changes. -/
def Obligations.RemoveSubjectAndSetTitle : Prop :=
  ∀ (s : State) (port : Port) (tag : Byte) (p : Bytes),
    let c := word16At p 0
    let id := word24At p 2
    let roster := (s.classAt c).roster
    let title := ((List.range 64).map (fun n => word16At p (3 + 2 * n))).take (byteAt p 2)
    (Admitted .removeSubject port p s → c ≤ 511 → (s.classAt c).state = .opened →
      ∃ t, exec (.removeSubject port tag p) s = .next t
        ∧ ((∀ y ∈ roster, y.id ≠ id) → Refused .removeSubject port tag .notFound s t)
        ∧ ((∃ y ∈ roster, y.id = id) →
            Accepted .removeSubject port tag [] [.ru] s t
              ∧ t.classAt c = { s.classAt c with roster := roster.filter (fun y => decide (y.id ≠ id)) }
              ∧ (∀ d, d ≠ c → t.classAt d = s.classAt d) ∧ t.ru.poolFree = s.ru.poolFree + 1))
      ∧ (Admitted .setTitle port p s →
        ∃ t, exec (.setTitle port tag p) s = .next t
          ∧ (64 < byteAt p 2 ∨ (∃ code ∈ title, 4094 < code) → Refused .setTitle port tag .badField s t)
          ∧ (byteAt p 2 ≤ 64 → (∀ code ∈ title, code ≤ 4094) → c ≤ 511 → (s.classAt c).state = .opened →
              Accepted .setTitle port tag [] [.ru] s t ∧ t.classAt c = { s.classAt c with title := title }
                ∧ (∀ d, d ≠ c → t.classAt d = s.classAt d) ∧ t.ru.poolFree = s.ru.poolFree))

/-- Rebind Class of an OPEN class. To its own bound layout it clears a pending layout. To an EMPTY layout it is refused
NOT_FOUND and a pending layout stays. Otherwise the layout is bound once more and an old pending layout released; if the
class has nothing in flight and the layout is ready the class switches at once, the old bound layout is released and Rebind
Done follows the reply, and else the layout becomes the pending layout. A layout is ready when it is DEFINED and has no
placeholder, or one whose entry is READY and has the reference's generation. -/
def Obligations.RebindClassOutcome : Prop :=
  (∀ (s : State) (n : Nat), s.layoutReady n = true ↔
    ∃ f, (s.layout n).fields = some f ∧ ∀ ref, f.placeholder = some ref →
      (s.entry ref.handle).generation = ref.generation ∧ (s.entry ref.handle).state = .ready)
    ∧ ∀ (s : State) (port : Port) (tag : Byte) (p : Bytes), Admitted .rebindClass port p s →
    let c := word16At p 0
    let n := byteAt p 2
    let r := s.classAt c
    let switches := r.inFlight = 0 ∧ s.layoutReady n = true
    ∃ t, exec (.rebindClass port tag p) s = .next t
      ∧ (63 < n → Refused .rebindClass port tag .badField s t)
      ∧ (c ≤ 511 → n ≤ 63 → r.state = .opened → r.bound = some n →
          Accepted .rebindClass port tag [] [.lt, .ru] s t ∧ t.classAt c = { r with pending := none }
            ∧ (∀ d, d ≠ c → t.classAt d = s.classAt d) ∧ t.ru.poolFree = s.ru.poolFree
            ∧ ∀ m, t.layout m = { s.layout m with
                bindings := (s.layout m).bindings - (if r.pending = some m then 1 else 0) })
      ∧ (c ≤ 511 → n ≤ 63 → r.state = .opened → r.bound ≠ some n → (s.layout n).fields = none →
          Refused .rebindClass port tag .notFound s t)
      ∧ (c ≤ 511 → n ≤ 63 → r.state = .opened → r.bound ≠ some n → (s.layout n).fields ≠ none → ¬ switches →
          Accepted .rebindClass port tag [] [.lt, .ru] s t ∧ t.classAt c = { r with pending := some n }
            ∧ (∀ d, d ≠ c → t.classAt d = s.classAt d) ∧ t.ru.poolFree = s.ru.poolFree
            ∧ ∀ m, t.layout m = { s.layout m with
                bindings := (s.layout m).bindings + (if m = n then 1 else 0) - (if r.pending = some m then 1 else 0) })
      ∧ (c ≤ 511 → n ≤ 63 → r.state = .opened → r.bound ≠ some n → (s.layout n).fields ≠ none → switches →
          AcceptedWith .rebindClass port tag []
              (onPort .l [noticeFrame .rebindDone (bytes2 c ++ bytes1 n)]) [.lt, .ru] s t
            ∧ t.classAt c = { r with bound := some n, pending := none }
            ∧ (∀ d, d ≠ c → t.classAt d = s.classAt d) ∧ t.ru.poolFree = s.ru.poolFree
            ∧ ∀ m, t.layout m = { s.layout m with
                bindings := (s.layout m).bindings + (if m = n then 1 else 0) - (if r.pending = some m then 1 else 0)
                  - (if r.bound = some m then 1 else 0) })

/-- Withdraw Rebind and Freeze Class release and clear the pending layout of an OPEN class; Freeze Class makes it FROZEN
besides, and Rebind Withdrawn follows its reply when a pending layout was cleared. Freeze Class answers OK for a FROZEN
class, which stays as it is, and refuses a class number above 511 with BAD_FIELD and an EMPTY class with NOT_FOUND. -/
def Obligations.WithdrawAndFreeze : Prop :=
  ∀ (s : State) (port : Port) (tag : Byte) (p : Bytes),
    let c := word16At p 0
    let r := s.classAt c
    let released (t : State) : Prop :=
      (∀ d, d ≠ c → t.classAt d = s.classAt d) ∧ t.ru.poolFree = s.ru.poolFree
        ∧ ∀ m, t.layout m = { s.layout m with
            bindings := (s.layout m).bindings - (if r.pending = some m then 1 else 0) }
    (Admitted .withdrawRebind port p s → c ≤ 511 → r.state = .opened →
      ∃ t, exec (.withdrawRebind port tag p) s = .next t ∧ Accepted .withdrawRebind port tag [] [.lt, .ru] s t
        ∧ t.classAt c = { r with pending := none } ∧ released t)
      ∧ (Admitted .freezeClass port p s →
        ∃ t, exec (.freezeClass port tag p) s = .next t
          ∧ (511 < c → Refused .freezeClass port tag .badField s t)
          ∧ (c ≤ 511 → r.state = .empty → Refused .freezeClass port tag .notFound s t)
          ∧ (c ≤ 511 → r.state = .frozen → Accepted .freezeClass port tag [] [] s t)
          ∧ (c ≤ 511 → r.state = .opened →
              AcceptedWith .freezeClass port tag []
                  (onPort .l (match r.pending with
                    | some n => [noticeFrame .rebindWithdrawn (bytes2 c ++ bytes1 n)]
                    | none => [])) [.lt, .ru] s t
                ∧ t.classAt c = { r with state := .frozen, pending := none } ∧ released t))

/-- Delete Class: refused BAD_FIELD, NOT_FOUND or BUSY (in flight), or accepted. An accepted one removes every QUEUED job of
the class from every channel, each with its Job Cancelled notice on the channel's port, returns every record of the roster
to the pool, releases the bound and the pending layout, and leaves the class EMPTY. The other jobs keep their
order, and each channel's stall timer is as the change of its list leaves it. That the notices of one port come in list order is the model's choice (log 32). -/
def Obligations.DeleteClassOutcome : Prop :=
  ∀ (s : State) (port : Port) (tag : Byte) (p : Bytes), Admitted .deleteClass port p s →
    let c := word16At p 0
    let r := s.classAt c
    let removed (j : Job) : Bool := j.queued && decide (j.classNo = c)
    ∃ t, exec (.deleteClass port tag p) s = .next t
      ∧ (511 < c → Refused .deleteClass port tag .badField s t)
      ∧ (c ≤ 511 → r.state = .empty → Refused .deleteClass port tag .notFound s t)
      ∧ (c ≤ 511 → r.state ≠ .empty → 0 < r.inFlight → Refused .deleteClass port tag .busy s t)
      ∧ (c ≤ 511 → r.state ≠ .empty → r.inFlight = 0 →
          AcceptedWith .deleteClass port tag []
              (fun q => match q with
                | .p k => ((s.channel k).jobs.filter removed).map
                    (fun j => noticeFrame .jobCancelled (bytesJobCancelled k j .classDeleted))
                | _ => []) [.lt, .ru, .pch] s t
            ∧ t.classAt c = emptyClass ∧ (∀ d, d ≠ c → t.classAt d = s.classAt d)
            ∧ t.ru.poolFree = s.ru.poolFree + r.roster.length
            ∧ (∀ m, t.layout m = { s.layout m with
                bindings := (s.layout m).bindings - (if r.bound = some m then 1 else 0)
                  - (if r.pending = some m then 1 else 0) })
            ∧ (∀ k, ChannelTakes k { s.channel k with
                jobs := (s.channel k).jobs.filter (fun j => !removed j) } s t)
            ∧ t.pch.lastServed = s.pch.lastServed)

/-! ### Uploads, the store and the directory -/

/-- Begin Upload: the five steps of its judgement in their order, and an accepted one. It claims the entry, reserves
ceil(width height 3 / 65,536) clusters, opens the lowest IDLE slot with the face box brought into the image's range, and
puts the slot at the end of the open list; no cluster is allocated. -/
def Obligations.BeginUploadOutcome : Prop :=
  ∀ (s : State) (port : Port) (tag : Byte) (p : Bytes), Admitted .beginUpload port p s →
    let h := word16At p 0
    let width := word16At p 3
    let height := word16At p 5
    let n := (width * height * 3 + 65535) / 65536
    let e := s.entry h
    let inRange := h ≤ 16383 ∧ byteAt p 2 ≤ 1 ∧ 128 ≤ width ∧ width ≤ 2048 ∧ 160 ≤ height ∧ height ≤ 2560
    let claimable := if byteAt p 2 = 0 then e.state = .free
      else (e.state = .ready ∨ e.state = .damaged) ∧ e.replacement = none ∧ e.upload = none
    let column := min (word16At p 7) (width - 1)
    let row := min (word16At p 9) (height - 1)
    let face := max 16 (min (word16At p 11) height)
    let clamped := decide (column ≠ word16At p 7 ∨ row ≠ word16At p 9 ∨ face ≠ word16At p 11)
    ∃ t, exec (.beginUpload port tag p) s = .next t
      ∧ (¬ inRange → Refused .beginUpload port tag .badField s t)
      ∧ (inRange → ¬ claimable → byteAt p 2 = 0 → Refused .beginUpload port tag .inUse s t)
      ∧ (inRange → ¬ claimable → byteAt p 2 = 1 → Refused .beginUpload port tag .busy s t)
      ∧ (inRange → claimable → (∀ k, s.slot k ≠ none) → Refused .beginUpload port tag .slotsFull s t)
      ∧ (inRange → claimable → (∃ k, s.slot k = none) → s.sc.freeCount < s.sc.reserved + n →
          Refused .beginUpload port tag .storeFull s t)
      ∧ (inRange → claimable → s.sc.reserved + n ≤ s.sc.freeCount → ∀ k, s.slot k = none →
          (∀ j, j < k → s.slot j ≠ none) →
          Accepted .beginUpload port tag [BitVec.ofNat 8 k.val, BitVec.ofNat 8 n, BitVec.ofNat 8 clamped.toNat]
              [.sc, .pdir, .ie] s t
            ∧ t.slot k = some
              { handle := h, mode := if byteAt p 2 = 0 then .new else .replace, width := width, height := height,
                faceCentre := column, eyeRow := row, faceHeight := face, boxClamped := clamped,
                declaredCrc := BitVec.ofNat 32 (word32At p 13), expected := width * height * 3, received := 0,
                crc := 0xFFFFFFFF#32, chain := none, held := 0, reserved := n, timer := 2000 }
            ∧ (∀ j, j ≠ k → t.slot j = s.slot j) ∧ t.ie.openList = s.ie.openList ++ [k]
            ∧ t.sc = { s.sc with reserved := s.sc.reserved + n }
            ∧ t.entry h = { e with
                state := if byteAt p 2 = 0 then .filling else e.state
                upload := some (k, if byteAt p 2 = 0 then .new else .replace) }
            ∧ ∀ g, g ≠ h → t.entry g = s.entry g)

/-- The checks of a Put Pixels, in their order: BAD_FIELD, NOT_OPEN, and OUT_OF_ORDER and OVERRUN with the bytes received.
A refused Put Pixels writes nothing and does not restart the idle timer. -/
def Obligations.PutPixelsRefused : Prop :=
  ∀ (s : State) (port : Port) (tag : Byte) (p : Bytes), Admitted .putPixels port p s →
    let h := word16At p 1
    let offset := word32At p 3
    let count := word16At p 7
    let bad := 3 < byteAt p 0 ∨ 16383 < h ∨ count = 0 ∨ 4080 < count
    (bad → ∃ t, exec (.putPixels port tag p) s = .next t ∧ Refused .putPixels port tag .badField s t)
      ∧ ∀ k : Fin 4, k.val = byteAt p 0 → ¬ bad →
        ((∀ u, s.slot k = some u → u.handle ≠ h) →
          ∃ t, exec (.putPixels port tag p) s = .next t ∧ Refused .putPixels port tag .notOpen s t)
        ∧ ∀ u, s.slot k = some u → u.handle = h →
          (offset ≠ u.received →
            ∃ t, exec (.putPixels port tag p) s = .next t ∧ OnlyChanges [.liu] s t
              ∧ PortsGain (some port) (onPort port [replyFrame .putPixels tag .outOfOrder (bytes4 u.received)]) s t)
          ∧ (offset = u.received → u.expected < offset + count →
            ∃ t, exec (.putPixels port tag p) s = .next t ∧ OnlyChanges [.liu] s t
              ∧ PortsGain (some port) (onPort port [replyFrame .putPixels tag .overrun (bytes4 u.received)]) s t)

/-- An accepted Put Pixels. The upload holds the clusters its bytes received fill, the last one in part or whole. Byte i of
the chunk is stored at image offset received + i: in the chain's last cluster while that offset lies in the clusters held,
else in the cluster the allocation takes, at the offset's place within a cluster. Every other byte of the store is as
before; the words written read clean and the others as before.
That a word in error keeps the bytes not written as they are held is the model's choice (log 22). The bytes received, the CRC
register and the idle timer of the slot follow; the allocation, if the chunk reaches the next cluster, appends it to the chain,
moves one cluster from the reservation to the chain, lowers the free count and moves the cursor past the cluster taken. The
CRC-32 takes each byte least significant bit first, by the reflected polynomial 0xEDB88320 from 0xFFFFFFFF, so that the bytes
0x31 to 0x39 give 0xCBF43926. -/
def Obligations.PutPixelsWritesChunk : Prop :=
  (∀ (r : BitVec 32) (b : Byte), crc32Byte r b =
      (List.range 8).foldl (fun r _ => if r.getLsbD 0 then (r >>> 1) ^^^ 0xEDB88320#32 else r >>> 1)
        (r ^^^ b.setWidth 32))
    ∧ crc32Value ([0x31, 0x32, 0x33, 0x34, 0x35, 0x36, 0x37, 0x38, 0x39].foldl crc32Byte 0xFFFFFFFF#32) = 0xCBF43926#32
    ∧ crc32Value ([0x00].foldl crc32Byte 0xFFFFFFFF#32) = 0xD202EF8D#32
    ∧ ∀ (s : State) (port : Port) (tag : Byte) (p : Bytes) (k : Fin 4) (u : UploadRecord) (c : Nat),
    Admitted .putPixels port p s →
    let count := word16At p 7
    let allocates := u.held * 65536 < u.received + count
    let last := (u.chain.map Prod.snd).getD 0
    let place (i : Nat) : Nat :=
      (if u.received + i < u.held * 65536 then last else c) * 65536 + (u.received + i) % 65536
    k.val = byteAt p 0 → word16At p 1 ≤ 16383 → 0 < count → count ≤ 4080 →
    s.slot k = some u → u.handle = word16At p 1 → word32At p 3 = u.received → u.received + count ≤ u.expected →
    u.received ≤ u.held * 65536 → u.held * 65536 ≤ u.received + 65535 → (u.chain = none ↔ u.held = 0) →
    (allocates → s.nextFree = some c) →
    ∃ t, exec (.putPixels port tag p) s = .next t
      ∧ Accepted .putPixels port tag (bytes4 (u.received + count)) [.sc, .ie] s t
      ∧ (∀ i, i < count → Memory.read t.sc.store (place i) = p.getD (9 + i) 0)
      ∧ (∀ a, (∀ i, i < count → a ≠ place i) → Memory.read t.sc.store a = Memory.read s.sc.store a)
      ∧ (∀ w, t.wordFault w = if ∃ i, i < count ∧ w = place i / 8 then none else s.wordFault w)
      ∧ t.slot k = some { u with
          received := u.received + count
          crc := ((p.drop 9).take count).foldl crc32Byte u.crc
          chain := if allocates then some ((u.chain.map Prod.fst).getD c, c) else u.chain
          held := if allocates then u.held + 1 else u.held
          reserved := if allocates then u.reserved - 1 else u.reserved
          timer := 2000 }
      ∧ (∀ j, j ≠ k → t.slot j = s.slot j) ∧ t.ie.openList = s.ie.openList
      ∧ t.sc.retiredCount = s.sc.retiredCount
      ∧ (¬ allocates → t.sc = { s.sc with store := t.sc.store, errors := t.sc.errors })
      ∧ (allocates → t.sc.freeCount = s.sc.freeCount - 1 ∧ t.sc.reserved = s.sc.reserved - 1
          ∧ t.sc.cursor = (c + 1) % 131072
          ∧ t.cluster c = .last false { handle := u.handle, kind := .upload }
          ∧ ∀ d, d ≠ c → t.cluster d = match u.chain, s.cluster d with
              | some (_, l), .last m o => if d = l then .linked c m o else .last m o
              | _, e => e)

/-- The cluster an allocation takes is FREE; it is the lowest FREE cluster from the cursor up, and where none is FREE from
there up, the lowest below the cursor. While the part has a FREE cluster an allocation finds one. -/
def Obligations.AllocationTakesNextFree : Prop :=
  ∀ s : State, s.sc.cursor ≤ 131072 →
    (∀ c, s.nextFree = some c ↔
      c < 131072 ∧ s.cluster c = .free
        ∧ ((s.sc.cursor ≤ c ∧ ∀ d, s.sc.cursor ≤ d → d < c → s.cluster d ≠ .free)
          ∨ (c < s.sc.cursor ∧ (∀ d, s.sc.cursor ≤ d → d < 131072 → s.cluster d ≠ .free)
            ∧ ∀ d, d < c → s.cluster d ≠ .free)))
      ∧ (s.nextFree = none ↔ ∀ c, c < 131072 → s.cluster c ≠ .free)

/-- A chain that passes no cluster twice is freed whole: each of its clusters is FREE if its suspect mark was clear and
RETIRED if it was set, the free count rises by the number made FREE and the retired count by the number made RETIRED, and no
other cluster, no byte of the store, no reservation and not the cursor changes. Relabelling a chain changes the owner kind
of every cluster of it, and keeps next numbers, suspect marks, owner handles, every other cluster, every count and every
byte of the store. -/
def Obligations.ChainsAreFreedAndRelabelledWhole : Prop :=
  ∀ (s : State) (first : Nat),
    ((s.chain first).Nodup →
      let marked (c : Nat) : Bool := (s.cluster c).suspect
      let t := s.freeChain first
      (∀ c, t.cluster c = if c ∈ s.chain first then (if marked c then .retired else .free) else s.cluster c)
        ∧ t.sc = { s.sc with
            map := t.sc.map
            freeCount := s.sc.freeCount + ((s.chain first).filter (fun c => !marked c)).length
            retiredCount := s.sc.retiredCount + ((s.chain first).filter marked).length }
        ∧ OnlyChanges [.sc] s t)
      ∧ ∀ kind : ChainKind,
        let t := s.relabelChain first kind
        (∀ c, t.cluster c = if c ∈ s.chain first then (match s.cluster c with
            | .linked next m o => .linked next m { o with kind := kind }
            | .last m o => .last m { o with kind := kind }
            | e => e) else s.cluster c)
          ∧ t.sc = { s.sc with map := t.sc.map } ∧ t.chain first = s.chain first ∧ OnlyChanges [.sc] s t

/-- End Upload and Cancel Upload are refused BAD_FIELD for a slot above 3 or a handle above 16,383, and NOT_OPEN for a slot
that is not OPEN for the handle. An upload that ends without a hand-over, by an End Upload with bytes missing or with another CRC than the declared one,
by Cancel Upload, or by its idle timer. The order is answered OK; the slot is IDLE and off the open list, the chain is freed
(the Store Controller is as freeing that chain leaves it, see ChainsAreFreedAndRelabelledWhole) and the reservation returned, a
FILLING entry is FREE at its generation and another entry loses its open upload alone, and an Upload Result with the cause
follows on port I. The model's choice: an idle timer that has not run out, or of an IDLE slot, does not expire and changes
nothing (log 1 and log 6). -/
def Obligations.UploadEndsWithoutHandOver : Prop :=
  (∀ (s : State) (k : Fin 4), s.slot k = none → exec (.idleTimerExpiry k) s = .next s)
    ∧ (∀ (s : State) (o : Order) (port : Port) (tag : Byte) (p : Bytes), o = .endUpload ∨ o = .cancelUpload →
      Admitted o port p s →
      (3 < byteAt p 0 ∨ 16383 < word16At p 1 →
        ∃ t, exec (o.command port tag p) s = .next t ∧ Refused o port tag .badField s t)
      ∧ ∀ k : Fin 4, k.val = byteAt p 0 → word16At p 1 ≤ 16383 →
        (∀ u, s.slot k = some u → u.handle ≠ word16At p 1) →
        ∃ t, exec (o.command port tag p) s = .next t ∧ Refused o port tag .notOpen s t)
    ∧ ∀ (s : State) (k : Fin 4) (u : UploadRecord), s.slot k = some u →
    let e := s.entry u.handle
    let freed := match u.chain with
      | some (first, _) => (s.freeChain first).sc
      | none => s.sc
    let result (cause : UploadOutcome) : Port → List Frame :=
      onPort .i [noticeFrame .uploadResult (bytes1 k.val ++ bytes2 u.handle ++ bytes1 e.generation
        ++ bytes1 u.mode.code ++ bytes4 u.received ++ bytes1 cause.code ++ bytes1 0)]
    let ended (t : State) : Prop :=
      t.slot k = none ∧ (∀ j, j ≠ k → t.slot j = s.slot j)
        ∧ t.ie.openList = s.ie.openList.filter (fun j => decide (j ≠ k))
        ∧ t.sc = { freed with reserved := s.sc.reserved - u.reserved }
        ∧ t.entry u.handle = (if e.state = .filling then freeEntry e.generation else { e with upload := none })
        ∧ ∀ h, h ≠ u.handle → t.entry h = s.entry h
    (∀ (port : Port) (tag : Byte) (p : Bytes), byteAt p 0 = k.val → word16At p 1 = u.handle → u.handle ≤ 16383 →
      (Admitted .cancelUpload port p s →
        ∃ t, exec (.cancelUpload port tag p) s = .next t
          ∧ AcceptedWith .cancelUpload port tag [] (result .cancelled) [.sc, .pdir, .ie] s t ∧ ended t)
      ∧ (Admitted .endUpload port p s → u.received < u.expected →
        ∃ t, exec (.endUpload port tag p) s = .next t
          ∧ AcceptedWith .endUpload port tag [] (result .incomplete) [.sc, .pdir, .ie] s t ∧ ended t)
      ∧ (Admitted .endUpload port p s → u.expected ≤ u.received → ~~~ u.crc ≠ u.declaredCrc →
        ∃ t, exec (.endUpload port tag p) s = .next t
          ∧ AcceptedWith .endUpload port tag [] (result .crcMismatch) [.sc, .pdir, .ie] s t ∧ ended t))
      ∧ (u.timer = 0 →
        ∃ t, exec (.idleTimerExpiry k) s = .next t ∧ PortsGain none (result .timedOut) s t
          ∧ OnlyChanges [.liu, .sc, .pdir, .ie] s t ∧ ended t)
      ∧ (u.timer ≠ 0 → exec (.idleTimerExpiry k) s = .next s)

/-- End Upload of a complete image whose CRC matches hands it over. A NEW image makes its FILLING entry READY; a REPLACE image
takes the place of the old one when the entry has no pins, whose chain is freed, and waits as the pending replacement when
it has. The generation is kept, the entry's open upload cleared, the slot IDLE, the Upload Result follows the reply, and
every cluster of the chain takes the new kind. An entry that enters READY is reported: every class with nothing in flight
whose pending layout this makes ready switches to it, with its Rebind Done on port L, and its old layout is released. The
order of those notices is the model's choice (log 11). -/
def Obligations.EndUploadHandsOver : Prop :=
  ∀ (s : State) (port : Port) (tag : Byte) (p : Bytes) (k : Fin 4) (u : UploadRecord) (first last : Nat),
    Admitted .endUpload port p s → byteAt p 0 = k.val → word16At p 1 = u.handle → u.handle ≤ 16383 →
    s.slot k = some u → u.received = u.expected → ~~~ u.crc = u.declaredCrc → u.chain = some (first, last) →
    Table.wf emptyLayout s.layouts = true → s.bindingsSound →
    let e := s.entry u.handle
    let enters := decide (e.state ≠ .ready)
    let image : ImageRecord :=
      { width := u.width, height := u.height, faceCentre := u.faceCentre, eyeRow := u.eyeRow,
        faceHeight := u.faceHeight, boxClamped := u.boxClamped, first := first, clusters := u.held, crc := ~~~ u.crc }
    let result (outcome : UploadOutcome) : Port → List Frame :=
      onPort .i [noticeFrame .uploadResult (bytes1 k.val ++ bytes2 u.handle ++ bytes1 e.generation
        ++ bytes1 u.mode.code ++ bytes4 u.received ++ bytes1 outcome.code ++ bytes1 u.held)]
    let inPlace (outcome : UploadOutcome) (t : State) : Prop :=
      AcceptedWith .endUpload port tag []
          (andThen (onPort .l (rebindDones enters u.handle s t)) (result outcome)) [.lt, .ru, .sc, .pdir, .ie] s t
        ∧ t.entry u.handle = { e with state := .ready, upload := none, image := some image }
        ∧ ReadinessReported enters u.handle s t
    ∃ t, exec (.endUpload port tag p) s = .next t
      ∧ t.slot k = none ∧ (∀ j, j ≠ k → t.slot j = s.slot j)
      ∧ t.ie.openList = s.ie.openList.filter (fun j => decide (j ≠ k))
      ∧ (∀ h, h ≠ u.handle → t.entry h = s.entry h)
      ∧ t.sc.store = s.sc.store ∧ t.sc.reserved = s.sc.reserved ∧ t.sc.cursor = s.sc.cursor
      ∧ (u.mode = .new → inPlace .stored t ∧ t.sc = (s.relabelChain first .current).sc)
      ∧ (u.mode = .replace → e.pins = 0 → ∀ old, e.image = some old →
          inPlace .replaced t ∧ t.sc = ((s.relabelChain first .current).freeChain old.first).sc)
      ∧ (u.mode = .replace → 0 < e.pins →
          AcceptedWith .endUpload port tag [] (result .replacementPending) [.sc, .pdir, .ie] s t
            ∧ t.entry u.handle = { e with upload := none, replacement := some image }
            ∧ t.sc = (s.relabelChain first .pending).sc)

/-- Delete Portrait: refused BAD_FIELD, NOT_FOUND, or BUSY for a FILLING or a pinned entry, or accepted. An accepted one frees
the CURRENT chain, raises the generation by 1 modulo 16 and leaves the entry FREE with nothing but its generation; an
upload open on the entry fails CANCELLED first: its slot is IDLE and off the open list, its chain, if it has one yet, is freed
too and its reservation returned, and its Upload Result, with the raised generation, follows the reply. -/
def Obligations.DeletePortraitOutcome : Prop :=
  ∀ (s : State) (port : Port) (tag : Byte) (p : Bytes), Admitted .deletePortrait port p s →
    let h := word16At p 0
    let e := s.entry h
    let gone : DirEntry :=
      { state := .free, generation := (e.generation + 1) % 16, upload := none, image := none, pins := 0,
        replacement := none }
    ∃ t, exec (.deletePortrait port tag p) s = .next t
      ∧ (16383 < h → Refused .deletePortrait port tag .badField s t)
      ∧ (h ≤ 16383 → e.state = .free → Refused .deletePortrait port tag .notFound s t)
      ∧ (h ≤ 16383 → e.state = .filling → Refused .deletePortrait port tag .busy s t)
      ∧ (h ≤ 16383 → e.state = .ready ∨ e.state = .damaged → 0 < e.pins →
          Refused .deletePortrait port tag .busy s t)
      ∧ (h ≤ 16383 → e.state = .ready ∨ e.state = .damaged → e.pins = 0 → e.upload = none →
          ∀ old, e.image = some old →
          Accepted .deletePortrait port tag [] [.sc, .pdir] s t ∧ t.entry h = gone
            ∧ (∀ g, g ≠ h → t.entry g = s.entry g) ∧ t.sc = (s.freeChain old.first).sc)
      ∧ (h ≤ 16383 → e.state = .ready ∨ e.state = .damaged → e.pins = 0 → ∀ k mode u old,
          e.upload = some (k, mode) → s.slot k = some u → u.handle = h → e.image = some old →
          let freed := match u.chain with
            | some (first, _) => s.freeChain first
            | none => s
          AcceptedWith .deletePortrait port tag []
              (onPort .i [noticeFrame .uploadResult (bytes1 k.val ++ bytes2 h ++ bytes1 gone.generation
                ++ bytes1 u.mode.code ++ bytes4 u.received ++ bytes1 UploadOutcome.cancelled.code ++ bytes1 0)])
              [.sc, .pdir, .ie] s t
            ∧ t.entry h = gone ∧ (∀ g, g ≠ h → t.entry g = s.entry g) ∧ t.slot k = none
            ∧ (∀ j, j ≠ k → t.slot j = s.slot j)
            ∧ t.ie.openList = s.ie.openList.filter (fun j => decide (j ≠ k))
            ∧ t.sc = { (freed.freeChain old.first).sc with reserved := s.sc.reserved - u.reserved })

/-- What the return of a plan sets off. A pin release lowers the pin count by 1; at the fall to 0 a pending replacement
becomes the CURRENT image and the entry is READY at its generation, with its Replacement Swapped notice on port I when that
link is UP; the old chain is freed and the new one relabelled CURRENT; and a DAMAGED entry is reported, so that every class
with nothing in flight whose pending layout this makes ready switches to it. Without a replacement, or above 0, nothing else
changes. A class's in-flight count falls by 1; at the fall to 0 a ready pending layout becomes the bound one, the old one is
released and Rebind Done sent on port L. The in-flight page count falls by 1; at the fall to 0 an OPENING window opens, with
its notice on port L. The order of the Rebind Done notices of one report is the model's choice (log 11). -/
def Obligations.ReturnsSetOffAtZero : Prop :=
  ∀ s : State,
    (∀ h,
      let e := s.entry h
      let t := s.unpin h
      (e.pins - 1 ≠ 0 ∨ e.replacement = none →
          t.entry h = { e with pins := e.pins - 1 } ∧ (∀ g, g ≠ h → t.entry g = s.entry g) ∧ OnlyChanges [.pdir] s t)
        ∧ (e.pins - 1 = 0 → Table.wf emptyLayout s.layouts = true → s.bindingsSound →
          ∀ new, e.replacement = some new →
          let enters := decide (e.state ≠ .ready)
          t.entry h = { e with state := .ready, pins := 0, image := some new, replacement := none }
            ∧ (∀ g, g ≠ h → t.entry g = s.entry g)
            ∧ PortsGain none (andThen (onPort .l (rebindDones enters h s t))
                (onPort .i [noticeFrame .replacementSwapped
                  (bytes2 h ++ bytes1 e.generation ++ bytes1 new.clusters)])) s t
            ∧ ReadinessReported enters h s t
            ∧ OnlyChanges [.liu, .lt, .ru, .sc, .pdir] s t
            ∧ t.sc = ((s.freeImage e.image).relabelChain new.first .current).sc
            ∧ t.sc.store = s.sc.store ∧ t.sc.reserved = s.sc.reserved))
      ∧ (∀ c,
        let r := s.classAt c
        let t := s.lowerInFlight c
        (∀ d, d ≠ c → t.classAt d = s.classAt d) ∧ t.ru.poolFree = s.ru.poolFree
          ∧ ((r.inFlight - 1 ≠ 0 ∨ ∀ n, r.pending = some n → s.layoutReady n = false) →
            t.classAt c = { r with inFlight := r.inFlight - 1 } ∧ OnlyChanges [.ru] s t)
          ∧ (r.inFlight - 1 = 0 → ∀ n, r.pending = some n → s.layoutReady n = true →
            t.classAt c = { r with inFlight := 0, bound := some n, pending := none }
              ∧ PortsGain none (onPort .l [noticeFrame .rebindDone (bytes2 c ++ bytes1 n)]) s t
              ∧ OnlyChanges [.liu, .lt, .ru] s t
              ∧ ∀ m, t.layout m = { s.layout m with
                  bindings := (s.layout m).bindings - (if r.bound = some m then 1 else 0) }))
      ∧ (let t := s.lowerPages
        (s.gs.inFlight - 1 ≠ 0 ∨ s.gs.window ≠ .opening →
            t.gs = { s.gs with inFlight := s.gs.inFlight - 1 } ∧ OnlyChanges [.gs] s t)
          ∧ (s.gs.inFlight - 1 = 0 → s.gs.window = .opening →
            t.gs = { s.gs with inFlight := 0, window := .opened }
              ∧ PortsGain none (onPort .l [noticeFrame .glyphWindowOpen (bytes2 s.gs.glyphs.length)]) s t
              ∧ OnlyChanges [.liu, .gs] s t))

/-! ### Glyphs and captions -/

/-- Open Glyph Window takes a CLOSED window to OPEN with no page in flight and to OPENING with one, leaves OPENING and OPEN
as they are, and its reply carries the state after it; Close Glyph Window leaves the window CLOSED. Load Glyph is refused
BAD_FIELD for a code above 4,094, an advance of 0 or above 32, an unknown form, or NARROW with an advance above 16, and
NOT_OPEN unless the window is OPEN; else it stores the advance and the mask in the record of its code and no other, the
right quadrants clear for NARROW, and its reply says whether the record was LOADED before. Pixel (u, v) of the mask is in the
32 bytes of its quadrant, two bytes a row, the most significant bit of a row's first byte being the quadrant's column 0. -/
def Obligations.GlyphOrders : Prop :=
  ∀ (s : State) (port : Port) (tag : Byte) (p : Bytes),
    let after : WindowState := match s.gs.window with
      | .closed => if s.gs.inFlight = 0 then .opened else .opening
      | w => w
    let code := word16At p 0
    let advance := byteAt p 2
    let form := byteAt p 3
    let bad := 4094 < code ∨ advance = 0 ∨ 32 < advance ∨ 1 < form ∨ (form = 0 ∧ 16 < advance)
    (Admitted .openGlyphWindow port p s →
      ∃ t, exec (.openGlyphWindow port tag p) s = .next t
        ∧ Accepted .openGlyphWindow port tag [match after with | .closed => 0 | .opening => 1 | .opened => 2] [.gs] s t
        ∧ t.gs = { s.gs with window := after })
      ∧ (Admitted .closeGlyphWindow port p s →
        ∃ t, exec (.closeGlyphWindow port tag p) s = .next t ∧ Accepted .closeGlyphWindow port tag [] [.gs] s t
          ∧ t.gs = { s.gs with window := .closed })
      ∧ (Admitted .loadGlyph port p s →
        ∃ t, exec (.loadGlyph port tag p) s = .next t
          ∧ (bad → Refused .loadGlyph port tag .badField s t)
          ∧ (¬ bad → s.gs.window ≠ .opened → Refused .loadGlyph port tag .notOpen s t)
          ∧ (¬ bad → s.gs.window = .opened →
              Accepted .loadGlyph port tag [BitVec.ofNat 8 (s.glyph code).isSome.toNat] [.gs] s t
                ∧ t.glyph code = some
                  { advance := advance
                    mask := if form = 1 then ⟨quadrantAt p 4, quadrantAt p 36, quadrantAt p 68, quadrantAt p 100⟩
                      else ⟨quadrantAt p 4, 0, quadrantAt p 36, 0⟩ }
                ∧ (∀ g, t.glyph code = some g → ∀ u v, u < 32 → v < 32 →
                  let lower := if v < 16 then 0 else 1
                  let bit (quadrant : Nat) : Bool :=
                    (p.getD (4 + 32 * quadrant + 2 * (v % 16) + u % 16 / 8) 0).getLsbD (7 - u % 8)
                  (form = 1 → maskPixel g.mask u v = bit (2 * lower + (if u < 16 then 0 else 1)))
                    ∧ (form = 0 → maskPixel g.mask u v = if u < 16 then bit lower else false))
                ∧ (∀ d, d ≠ code → t.glyph d = s.glyph d) ∧ t.gs.window = .opened ∧ t.gs.inFlight = s.gs.inFlight))

/-- A caption's lines fit: each is at most as wide as the cell, and all of them together at most as high as the caption band,
so that nothing reaches outside the band. It is omitted exactly when it has no line, and is never both cut and omitted. With
no line available it is omitted. A caption that fits whole on one line is set on that line; else, with two lines available and
a break mark between parts that each fit, on two; else the longest prefix that fits with the ellipsis after it is set, the
break mark left out, and where not even the ellipsis fits it is omitted. -/
def Obligations.CaptionFitsItsBand : Prop :=
  ∀ (s : State) (f : LayoutFields) (cw : Nat) (codes : List Nat),
    let fit := s.fitCaption f cw codes
    let width (l : List Nat) : Nat := f.captionScale * (l.map s.advance).sum
    let available := min 2 (f.cap / (32 * f.captionScale))
    let splits (upper lower : List Nat) : Prop :=
      available = 2 ∧ codes = upper ++ 4095 :: lower ∧ 4095 ∉ upper ∧ width upper ≤ cw ∧ width lower ≤ cw
    let kept := codes.filter (fun c => decide (c ≠ 4095))
    (∀ l ∈ fit.lines, width l ≤ cw)
      ∧ fit.lines.length * 32 * f.captionScale ≤ f.cap
      ∧ (fit.omitted = true ↔ fit.lines = []) ∧ ¬ (fit.truncated = true ∧ fit.omitted = true)
      ∧ (available = 0 → fit = { lines := [], truncated := false, omitted := true })
      ∧ (0 < f.captionScale → 32 * f.captionScale ≤ f.cap → width codes ≤ cw →
          fit = { lines := [codes], truncated := false, omitted := false })
      ∧ (cw < width codes → ∀ upper lower, splits upper lower →
          fit = { lines := [upper, lower], truncated := false, omitted := false })
      ∧ (0 < available → cw < width codes → (∀ upper lower, ¬ splits upper lower) →
        (∀ n, n ≤ kept.length - 1 → width (kept.take n ++ [f.ellipsis]) ≤ cw →
          (∀ m, n < m → m ≤ kept.length - 1 → cw < width (kept.take m ++ [f.ellipsis])) →
          fit = { lines := [kept.take n ++ [f.ellipsis]], truncated := true, omitted := false })
        ∧ ((∀ n, n ≤ kept.length - 1 → cw < width (kept.take n ++ [f.ellipsis])) →
          fit = { lines := [], truncated := false, omitted := true }))

/-! ### Planning -/

/-- A channel is eligible for planning when it is enabled, the first job of its list that is not RENDERING is QUEUED and none is
PLANNING or PLANNED, the glyph window is CLOSED, and the job's class is OPEN or FROZEN with no pending layout.
The start step, taken for the first eligible channel after the last-served one in rotation, with its candidate the job
behind the channel's RENDERING jobs. With the page below the page count the job becomes PLANNING with its snapshot, the
pins of the snapshot's handles, the class's in-flight count and the in-flight page count rise by 1, and the planner is busy
with the channel. Otherwise the job leaves the list and a Page Done EMPTY_PAGE is sent and kept as the last page. In both
the sequence number is used up and the last-served channel set, and nothing else changes. That
the start step is a command of its own, and one that is not due, with the planner busy or no channel eligible, changes
nothing, are the model's choices (log 7 and log 1). -/
def Obligations.StartStepOutcome : Prop :=
  (∀ (s : State) (k : Fin 4), s.eligible k = true ↔
    (s.channel k).enabled = true ∧ s.gs.window = .closed
      ∧ (∀ x ∈ (s.channel k).jobs, (∀ p, x.stage ≠ .planning p) ∧ ∀ p, x.stage ≠ .planned p)
      ∧ ∃ a j b, (s.channel k).jobs = a ++ j :: b ∧ (∀ x ∈ a, ∃ p, x.stage = .rendering p) ∧ j.stage = .queued
        ∧ (s.classAt j.classNo).state ≠ .empty ∧ (s.classAt j.classNo).pending = none)
    ∧ ∀ s : State,
    (s.pln.planning ≠ none ∨ (∀ k, s.eligible k = false) → exec .planningStartStep s = .next s)
      ∧ ∀ (n : Fin 4) (a b : List Job) (j : Job) (layoutNo : Nat) (f : LayoutFields),
        let k : Fin 4 := s.pln.lastServed + 1 + n
        let c := s.channel k
        s.pln.planning = none → s.eligible k = true → (∀ m : Fin 4, m < n → s.eligible (s.pln.lastServed + 1 + m) = false) →
        c.jobs = a ++ j :: b → (∀ x ∈ a, (Job.renderingPlan? x).isSome = true) → j.stage = .queued →
        (s.classAt j.classNo).bound = some layoutNo → (s.layout layoutNo).fields = some f →
        let p := s.snapshot k j layoutNo f
        let pages := max 1 (((s.classAt j.classNo).roster.length + f.c * f.r - 1) / (f.c * f.r))
        let d : PageDone :=
          { channel := k, seq := c.nextSeq, classNo := j.classNo, page := j.page, result := .emptyPage,
            copies := j.copies, completed := 0, bands := 0, cut := false, counts := noFlags }
        ∃ t, exec .planningStartStep s = .next t
          ∧ (j.page < pages →
              OnlyChanges [.pdir, .ru, .gs, .pln, .pch] s t ∧ t.pln = { planning := some k, lastServed := k }
                ∧ ChannelTakes k { c with
                    nextSeq := (c.nextSeq + 1) % 65536, jobs := a ++ { j with stage := .planning p } :: b } s t
                ∧ OthersSame k s t
                ∧ (∀ h, t.entry h = { s.entry h with
                    pins := (s.entry h).pins + (if h ∈ p.handles then 1 else 0) })
                ∧ (∀ m, t.classAt m = { s.classAt m with
                    inFlight := (s.classAt m).inFlight + (if m = j.classNo then 1 else 0) })
                ∧ t.ru.poolFree = s.ru.poolFree ∧ t.gs = { s.gs with inFlight := s.gs.inFlight + 1 })
          ∧ (pages ≤ j.page →
              OnlyChanges [.liu, .ru, .pln, .pch] s t ∧ t.pln = { planning := none, lastServed := k }
                ∧ PortsGain none (onPort (.p k) [noticeFrame .pageDone (bytesPageDone d)]) s t
                ∧ ChannelTakes k { c with
                    nextSeq := (c.nextSeq + 1) % 65536, jobs := a ++ b, lastPage := some d } s t
                ∧ OthersSame k s t
                ∧ (∀ m, t.classAt m = s.classAt m) ∧ t.ru.poolFree = s.ru.poolFree)

/-- What the start step's snapshot holds: the job, the channel's next sequence number, the class's title, roster length and
layout; for each record of the page's roster slice its position, subject id, caption and portrait reference, and its source and reason by the
table of sources; the page count; and the pinned handles, each once, being those that some cell draws, the live subjects' in
roster order and then the placeholder's, with the image records copied from their entries. -/
def Obligations.SnapshotSourcesAndPins : Prop :=
  ∀ (s : State) (k : Fin 4) (j : Job) (layoutNo : Nat) (f : LayoutFields),
    let p := s.snapshot k j layoutNo f
    let r := s.classAt j.classNo
    let n := f.c * f.r
    let shown : Option Nat := match f.placeholder with
      | some q => if (s.entry q.handle).generation = q.generation ∧ (s.entry q.handle).state = .ready then some q.handle
          else none
      | none => none
    let reason (x : Subject) : Option PlaceholderReason := match x.ref with
      | none => some .noPortrait
      | some q =>
        if (s.entry q.handle).state = .free ∨ (s.entry q.handle).generation ≠ q.generation then some .stale
        else if (s.entry q.handle).state = .filling then some .notReady
        else if (s.entry q.handle).state = .damaged then some .damaged
        else none
    p.channel = k ∧ p.classNo = j.classNo ∧ p.page = j.page ∧ p.copies = j.copies ∧ p.seq = (s.channel k).nextSeq
      ∧ p.layoutNo = layoutNo ∧ p.layout = f ∧ p.title = r.title ∧ p.rosterLength = r.roster.length
      ∧ p.pageCount = max 1 ((r.roster.length + n - 1) / n)
      ∧ (RosterOrdered r.roster →
          let live := p.cells.filterMap (fun c => if c.reason = none then c.source else none)
          p.handles = live ++ (match shown with
            | some h => if p.pinsPlaceholder = true ∧ h ∉ live then [h] else []
            | none => []))
      ∧ (∀ i, p.cells[i]? = if i < n then (r.roster[j.page * n + i]?).map (fun x =>
          { position := j.page * n + i, subjectId := x.id, caption := x.caption, ref := x.ref,
            source := if reason x = none then x.ref.map PortraitRef.handle else shown, reason := reason x }) else none)
      ∧ p.handles.Nodup ∧ (∀ h, h ∈ p.handles ↔ ∃ c ∈ p.cells, c.source = some h)
      ∧ (p.pinsPlaceholder = true ↔ ∃ c ∈ p.cells, c.reason ≠ none ∧ c.source ≠ none)
      ∧ ∀ im ∈ p.pinned, ∀ e, (s.entry im.handle).image = some e →
          im.width = e.width ∧ im.height = e.height ∧ im.faceCentre = e.faceCentre ∧ im.eyeRow = e.eyeRow
            ∧ im.faceHeight = e.faceHeight ∧ im.first = e.first ∧ im.clusters = e.clusters

/-- Completion hands the finished plan of the PLANNING job to its channel and frees the planner. The job becomes PLANNED, or
RENDERING in the same event when it is first in an enabled channel's list and the trigger counts as set. Nothing is sent
and nothing else changes. The finished plan holds the snapshot, the page's grid, the three head targets, and for each record
of the slice a cell with its place and origin, its source with that image's fitting, its caption lines each centred in the
cell and the block of lines centred in the caption band, and its flags; the placeholder's fitting as substitute record when
the plan pins the placeholder as placeholder, and none else; and the title on one line centred in the title band, whole when
it fits, else its longest prefix that fits with the ellipsis, omitted where T is too low or not even the ellipsis fits, with
the title flags. That completion is a command of its own, and one that is not due, with the planner free, changes nothing,
are the model's choices (log 7 and log 1). -/
def Obligations.PlanningCompletes : Prop :=
  (∀ s : State,
    (s.pln.planning = none → exec .planningCompletion s = .next s)
      ∧ ∀ (k : Fin 4) (a b : List Job) (j : Job) (p : Snapshot),
        let c := s.channel k
        let plan := s.completePlan p
        let c' : Channel := { c with
          jobs := a ++ { classNo := p.classNo, page := p.page, copies := p.copies, stage := .planned plan } :: b }
        s.pln.planning = some k → c.jobs = a ++ j :: b → j.stage = .planning p →
        (∀ x ∈ a, (Job.renderingPlan? x).isSome = true) →
        ∃ t, exec .planningCompletion s = .next t ∧ OnlyChanges [.pln, .pch] s t
          ∧ t.pln = { planning := none, lastServed := s.pln.lastServed } ∧ OthersSame k s t
          ∧ (c.triggered = false ∨ c.enabled = false ∨ c.state = .running → ChannelTakes k c' s t)
          ∧ (a = [] → c.triggered = true → c.enabled = true → ChannelTakes k (c'.afterRelease s.damagedEntry) s t))
    ∧ ∀ (s : State) (p : Snapshot),
      let plan := s.completePlan p
      let f := p.layout
      let grid := gridOf f p.cells.length
      let targets : Targets :=
        { headHeight := (grid.ch * f.headRatio + 128) / 256, eyeRow := (grid.ch * f.eyeRatio + 128) / 256,
          centre := grid.cw / 2 }
      let copied (h : Nat) : Option PinnedImage := p.pinned.find? (fun im => decide (im.handle = h))
      let width (scale : Nat) (codes : List Nat) : Nat := scale * (codes.map s.advance).sum
      let unloaded (codes : List Nat) : Prop := ∃ code ∈ codes, code ≠ 4095 ∧ s.glyph code = none
      let set (codes : List Nat) (truncated : Bool) : Prop :=
        plan.title.line = some { codes := codes, x := (f.w - width f.titleScale codes) / 2 }
          ∧ plan.title.y = (f.t - 32 * f.titleScale) / 2 ∧ plan.title.truncated = truncated
          ∧ plan.title.omitted = false ∧ (plan.title.glyphMissing = true ↔ unloaded codes)
      let notSet (omitted : Bool) : Prop :=
        plan.title.line = none ∧ plan.title.truncated = false ∧ plan.title.omitted = omitted
          ∧ plan.title.glyphMissing = false
      plan.snap = p ∧ plan.grid = grid ∧ plan.targets = targets ∧ plan.cells.length = p.cells.length
        ∧ (∀ (i : Nat) (x : SliceCell), p.cells[i]? = some x →
          let fit := s.fitCaption f grid.cw x.caption
          ∃ cell, plan.cells[i]? = some cell
            ∧ cell.position = x.position ∧ cell.row = i / f.c ∧ cell.column = i % f.c
            ∧ (cell.x, cell.y) = cellOrigin f grid i ∧ cell.subjectId = x.subjectId
            ∧ cell.source = x.source ∧ cell.placeholder = x.reason ∧ cell.damagedMidpage = false
            ∧ (x.source = none → cell.fitting = none)
            ∧ (∀ h im, x.source = some h → copied h = some im → cell.fitting = some (fitImage grid targets im))
            ∧ cell.lines = fit.lines.map (fun l =>
                { codes := l, x := (grid.cw - width f.captionScale l) / 2 })
            ∧ (fit.lines ≠ [] → cell.lineY = (f.cap - fit.lines.length * 32 * f.captionScale) / 2)
            ∧ cell.truncated = fit.truncated ∧ cell.captionOmitted = fit.omitted
            ∧ (cell.glyphMissing = true ↔ ∃ l ∈ fit.lines, unloaded l))
        ∧ (p.pinsPlaceholder = false → plan.substitute = none)
        ∧ (p.pinsPlaceholder = true → ∀ ref im, f.placeholder = some ref → copied ref.handle = some im →
            plan.substitute = some (fitImage grid targets im))
        ∧ (p.title = [] → notSet false)
        ∧ (p.title ≠ [] → f.t < 32 * f.titleScale → notSet true)
        ∧ (p.title ≠ [] → 32 * f.titleScale ≤ f.t →
          (width f.titleScale p.title ≤ f.w → set p.title false)
          ∧ (f.w < width f.titleScale p.title →
            (∀ n, n < p.title.length → width f.titleScale (p.title.take n ++ [f.ellipsis]) ≤ f.w →
              (∀ m, n < m → m < p.title.length → f.w < width f.titleScale (p.title.take m ++ [f.ellipsis])) →
              set (p.title.take n ++ [f.ellipsis]) true)
            ∧ ((∀ n, n < p.title.length → f.w < width f.titleScale (p.title.take n ++ [f.ellipsis])) → notSet true)))

/-- The grid of a page of at most C R cells, for a layout that passes the geometry check. Every cell is at least 32 by 32,
lies with its caption band inside the live area and below the title band, and any two cells with their bands are apart by
the column gutter across or the row gap down. The cells are as wide and as high as the width, and the height under the title
band, allow; what is left over is split with the odd pixel on the right and at the bottom. Cells stand by their pitches from the
margins, and a last row of k cells, k below C, is shifted by floor((C - k) px / 2) with CENTRED and not at all with LEFT. -/
def Obligations.GridFillsPage : Prop :=
  ∀ (f : LayoutFields) (m : Nat), 1 ≤ f.c → 1 ≤ f.r → 32 * f.c + (f.c - 1) * f.g ≤ f.w →
    32 * f.r + f.t + f.r * f.cap + (f.r - 1) * f.v ≤ f.h → m ≤ f.c * f.r →
    let g := gridOf f m
    let x (i : Nat) := (cellOrigin f g i).1
    let y (i : Nat) := (cellOrigin f g i).2
    32 ≤ g.cw ∧ 32 ≤ g.ch
      ∧ f.c * g.cw + (f.c - 1) * f.g ≤ f.w ∧ f.w < f.c * (g.cw + 1) + (f.c - 1) * f.g
      ∧ (let left := f.w - (f.c * g.cw + (f.c - 1) * f.g); 2 * g.mx = left ∨ 2 * g.mx + 1 = left)
      ∧ f.t + f.r * (g.ch + f.cap) + (f.r - 1) * f.v ≤ f.h ∧ f.h < f.t + f.r * (g.ch + 1 + f.cap) + (f.r - 1) * f.v
      ∧ (let left := f.h - (f.t + f.r * (g.ch + f.cap) + (f.r - 1) * f.v); 2 * g.my = left ∨ 2 * g.my + 1 = left)
      ∧ (∀ i, i < m → y i = f.t + g.my + i / f.c * (g.ch + f.cap + f.v)
          ∧ x i = g.mx + i % f.c * (g.cw + f.g)
            + (if f.alignment = .centred ∧ i / f.c = (m - 1) / f.c ∧ m % f.c ≠ 0
                then (f.c - m % f.c) * (g.cw + f.g) / 2 else 0))
      ∧ (∀ i, i < m → x i + g.cw ≤ f.w ∧ f.t ≤ y i ∧ y i + g.ch + f.cap ≤ f.h)
      ∧ ∀ i j, i < j → j < m →
          (i / f.c = j / f.c ∧ x i + g.cw + f.g ≤ x j ∧ y i = y j)
            ∨ (i / f.c < j / f.c ∧ y i + g.ch + f.cap + f.v ≤ y j)

/-- Head fitting of an image with its face box inside it, to cells at least 32 wide and high. The step is the rounded
quotient of face height and target head height brought into 16,384 to 262,144; on an axis where the window fits, the window
lies inside the source and is moved only if the face's place would carry it out; on an axis where it does not, the face
keeps its place. SCALE_CLAMPED, SHIFTED and SHORT say which of these took place. -/
def Obligations.HeadFittingKeepsFaceInPlace : Prop :=
  ∀ (g : Grid) (t : Targets) (im : PinnedImage), 32 ≤ g.cw → 32 ≤ g.ch → 0 < t.headHeight →
    1 ≤ im.width → 1 ≤ im.height →
    let fit := fitImage g t im
    let raw := (im.faceHeight * 65536 + t.headHeight / 2) / t.headHeight
    let x : Int := (im.faceCentre : Int) * 65536 - (t.centre : Int) * fit.step
    let y : Int := (im.eyeRow : Int) * 65536 - (t.eyeRow : Int) * fit.step
    let across := (g.cw - 1) * fit.step
    let down := (g.ch - 1) * fit.step
    let wide := (im.width - 1) * 65536
    let high := (im.height - 1) * 65536
    16384 ≤ fit.step ∧ fit.step ≤ 262144
      ∧ (fit.step = raw ∨ raw < 16384 ∧ fit.step = 16384 ∨ 262144 < raw ∧ fit.step = 262144)
      ∧ (fit.scaleClamped = true ↔ raw < 16384 ∨ 262144 < raw)
      ∧ (fit.short = true ↔ wide < across ∨ high < down)
      ∧ (wide < across → fit.x0 = x) ∧ (high < down → fit.y0 = y)
      ∧ (across ≤ wide → 0 ≤ fit.x0 ∧ fit.x0 + across ≤ wide
          ∧ (0 ≤ x → x + across ≤ wide → fit.x0 = x) ∧ (x < 0 → fit.x0 = 0)
          ∧ ((wide : Int) < x + across → fit.x0 + across = wide))
      ∧ (down ≤ high → 0 ≤ fit.y0 ∧ fit.y0 + down ≤ high
          ∧ (0 ≤ y → y + down ≤ high → fit.y0 = y) ∧ (y < 0 → fit.y0 = 0)
          ∧ ((high : Int) < y + down → fit.y0 + down = high))
      ∧ (fit.shifted = true ↔ fit.x0 ≠ x ∨ fit.y0 ≠ y)

/-- One channel of a resampled pixel is the weighted mean of its four neighbours, the weights being the products of the
fractions and their complements and adding to 65,536, rounded to the nearest integer with halves up. So it lies between the
least and the greatest neighbour, and with both fractions 0 it is the first. The sample of an output pixel: its position in the
source is the crop origin plus the step times the pixel's number, the pixel is backdrop outside the source's range, and else
the neighbours are the position's column and row and the next ones, kept inside the source, with fractions of 8 bits; and the
bytes it needs are the three of each neighbour. The word of an image offset is found by the cluster at its place in the
chain. -/
def Obligations.ResampledChannelIsRoundedMean : Prop :=
  (∀ p00 p01 p10 p11 fx fy : Nat, fx ≤ 255 → fy ≤ 255 →
    let v := blend p00 p01 p10 p11 fx fy
    let sum := p00 * ((256 - fx) * (256 - fy)) + p01 * (fx * (256 - fy)) + p10 * ((256 - fx) * fy) + p11 * (fx * fy)
    (256 - fx) * (256 - fy) + fx * (256 - fy) + (256 - fx) * fy + fx * fy = 65536
      ∧ 2 * sum < (2 * v + 1) * 65536 ∧ 2 * v * 65536 ≤ 2 * sum + 65536
      ∧ min (min p00 p01) (min p10 p11) ≤ v ∧ v ≤ max (max p00 p01) (max p10 p11)
      ∧ (fx = 0 → fy = 0 → v = p00))
    ∧ (∀ (d : CellDraw) (x y : Nat),
      let sx : Int := d.fitting.x0 + ((x * d.fitting.step : Nat) : Int)
      let sy : Int := d.fitting.y0 + ((y * d.fitting.step : Nat) : Int)
      let inside := 0 ≤ sx ∧ sx ≤ (((d.image.width - 1) * 65536 : Nat) : Int)
        ∧ 0 ≤ sy ∧ sy ≤ (((d.image.height - 1) * 65536 : Nat) : Int)
      (sampleAt d x y = none ↔ ¬ inside)
        ∧ ∀ q, sampleAt d x y = some q →
          (q.i0 : Int) = sx / 65536 ∧ (q.j0 : Int) = sy / 65536
            ∧ q.i1 = min (q.i0 + 1) (d.image.width - 1) ∧ q.j1 = min (q.j0 + 1) (d.image.height - 1)
            ∧ (q.fx : Int) = sx % 65536 / 256 ∧ (q.fy : Int) = sy % 65536 / 256)
    ∧ (∀ (width o : Nat) (q : Sample), o ∈ sampleOffsets width q ↔
      ∃ i ∈ [q.i0, q.i1], ∃ j ∈ [q.j0, q.j1], ∃ n, n < 3 ∧ o = (j * width + i) * 3 + n)
    ∧ ∀ (s : State) (first o c : Nat), (s.chain first)[o / 65536]? = some c →
      wordOfOffset s.sc.map first o = some (c * 8192 + o % 65536 / 8)

/-! ### Press channels -/

/-- The state of a channel, and Configure, Enable and Disable Channel. A channel is OFF when not enabled; else RUNNING with
its first job RENDERING and a band in flight or released bands unsent, PAUSED with neither, ARMED with its first job PLANNED,
and IDLE otherwise. Configure is refused BAD_FIELD for a code no table gives, a band height other
than 16, 32 or 64, or ROW with REVERSE; BUSY unless the channel is OFF or IDLE with an empty list; else it takes the six
items, with flag and credits cleared. Enable makes an OFF channel enabled, and Disable an IDLE one with an empty list OFF,
with flag and credits cleared; both are answered OK where there is nothing to do, and Disable BUSY otherwise. -/
def Obligations.ChannelSetupOrders : Prop :=
  (∀ c : Channel,
    (c.state = .off ↔ c.enabled = false)
      ∧ (c.enabled = true →
        (∀ p r, c.renderingPlan? = some p → c.rendering = some r →
            c.state = if r.inFlight = true ∨ r.started < r.released then .running else .paused)
          ∧ (∀ p, c.plannedPlan? = some p → c.state = .armed)
          ∧ (c.renderingPlan? = none → c.plannedPlan? = none → c.state = .idle)))
    ∧ ∀ (s : State) (k : Fin 4) (tag : Byte) (p : Bytes),
    let c := s.channel k
    let bad := 2 < byteAt p 0 ∨ byteAt p 1 = 3 ∨ 7 < byteAt p 1 ∨ 1 < byteAt p 2 ∨ 1 < byteAt p 3
      ∨ (byteAt p 4 ≠ 16 ∧ byteAt p 4 ≠ 32 ∧ byteAt p 4 ≠ 64) ∨ (byteAt p 0 = 1 ∧ byteAt p 2 = 1)
    let quiet := (c.state = .off ∨ c.state = .idle) ∧ c.jobs = []
    (Admitted .configureChannel (.p k) p s →
      ∃ t, exec (.configureChannel (.p k) tag p) s = .next t
        ∧ (bad → Refused .configureChannel (.p k) tag .badField s t)
        ∧ (¬ bad → ¬ quiet → Refused .configureChannel (.p k) tag .busy s t)
        ∧ (¬ bad → quiet → ∀ (mode : ChannelMode) (source : TriggerSource) (order : BandOrder),
            mode.code = byteAt p 0 → source.code = byteAt p 1 → order.code = byteAt p 2 →
            Accepted .configureChannel (.p k) tag [] [.pch] s t ∧ OthersSame k s t
              ∧ t.channel k = { c with
                  mode := mode, source := source, order := order, mirror := decide (byteAt p 3 = 1),
                  bandHeight := byteAt p 4, stallWindow := byteAt p 5, credits := 0, flag := false,
                  stallTimer := none }))
      ∧ (Admitted .enableChannel (.p k) p s →
        ∃ t, exec (.enableChannel (.p k) tag p) s = .next t
          ∧ (c.enabled = true → Accepted .enableChannel (.p k) tag [] [] s t)
          ∧ (c.enabled = false → Accepted .enableChannel (.p k) tag [] [.pch] s t ∧ OthersSame k s t
              ∧ ChannelTakes k { c with enabled := true } s t))
      ∧ (Admitted .disableChannel (.p k) p s →
        ∃ t, exec (.disableChannel (.p k) tag p) s = .next t
          ∧ (c.state = .off → Accepted .disableChannel (.p k) tag [] [] s t)
          ∧ (c.state = .idle → c.jobs = [] → Accepted .disableChannel (.p k) tag [] [.pch] s t ∧ OthersSame k s t
              ∧ t.channel k = { c with enabled := false, credits := 0, flag := false, stallTimer := none })
          ∧ (c.state ≠ .off → ¬ (c.state = .idle ∧ c.jobs = []) → Refused .disableChannel (.p k) tag .busy s t))

/-- Queue Page puts a QUEUED job at the end of its channel's list and answers with its position, unless it is refused
BAD_FIELD, NOT_FOUND for an EMPTY class or BUSY with four jobs on the list. Cancel Page takes the last QUEUED job of the
class and page named out of the list; where only jobs of later states name them it is refused BUSY, where none does
NOT_FOUND, and a class number above 511 BAD_FIELD. -/
def Obligations.JobListOrders : Prop :=
  ∀ (s : State) (k : Fin 4) (tag : Byte) (p : Bytes),
    let c := s.channel k
    let n := word16At p 0
    let page := byteAt p 2
    let copies := byteAt p 3
    let bad := 511 < n ∨ copies = 0 ∨ 99 < copies
    let named (j : Job) : Prop := j.classNo = n ∧ j.page = page
    (Admitted .queuePage (.p k) p s →
      ∃ t, exec (.queuePage (.p k) tag p) s = .next t
        ∧ (bad → Refused .queuePage (.p k) tag .badField s t)
        ∧ (¬ bad → (s.classAt n).state = .empty → Refused .queuePage (.p k) tag .notFound s t)
        ∧ (¬ bad → (s.classAt n).state ≠ .empty → 4 ≤ c.jobs.length → Refused .queuePage (.p k) tag .busy s t)
        ∧ (¬ bad → (s.classAt n).state ≠ .empty → c.jobs.length < 4 →
            Accepted .queuePage (.p k) tag [BitVec.ofNat 8 c.jobs.length] [.pch] s t ∧ OthersSame k s t
              ∧ ChannelTakes k { c with
                  jobs := c.jobs ++ [{ classNo := n, page := page, copies := copies, stage := .queued }] } s t))
      ∧ (Admitted .cancelPage (.p k) p s →
        ∃ t, exec (.cancelPage (.p k) tag p) s = .next t
          ∧ (511 < n → Refused .cancelPage (.p k) tag .badField s t)
          ∧ (n ≤ 511 → (∀ j ∈ c.jobs, ¬ named j) → Refused .cancelPage (.p k) tag .notFound s t)
          ∧ (n ≤ 511 → (∃ j ∈ c.jobs, named j) → (∀ j ∈ c.jobs, named j → Job.queued j = false) →
              Refused .cancelPage (.p k) tag .busy s t)
          ∧ (n ≤ 511 → ∀ a b j, c.jobs = a ++ j :: b → named j → Job.queued j = true →
              (∀ x ∈ b, named x → Job.queued x = false) →
              Accepted .cancelPage (.p k) tag [] [.pch] s t ∧ OthersSame k s t
                ∧ ChannelTakes k { c with jobs := a ++ b } s t))

/-- Triggers and credits. Sheet Ready to an enabled SHEET channel and Start to an enabled SOFTWARE or CHAINED one are
answered OK with the flag as it stood and set the flag, which an ARMED or PAUSED channel consumes at once in a release; to
any other channel they are answered IGNORED, and a Start of a channel above 3 BAD_FIELD. Grant Bands of 1 to 8 raises an
enabled channel's credits, up to 8, and answers with them; it is IGNORED by an OFF channel and BAD_FIELD for any other
number. -/
def Obligations.TriggersAndCredits : Prop :=
  ∀ (s : State) (port : Port) (tag : Byte) (p : Bytes) (k : Fin 4),
    let c := s.channel k
    (∀ o : Order, o = .sheetReady ∧ port = .p k ∨ o = .start ∧ byteAt p 0 = k.val → Admitted o port p s →
      let takes := c.enabled = true ∧ (o = .sheetReady → c.source = .sheet)
        ∧ (o = .start → c.source = .software ∨ ∃ j, c.source = .chained j)
      ∃ t, exec (o.command port tag p) s = .next t
        ∧ (¬ takes → Refused o port tag .ignored s t)
        ∧ (takes → Accepted o port tag [BitVec.ofNat 8 c.flag.toNat] [.pch] s t ∧ OthersSame k s t
            ∧ (c.releaseNeeded = false → ChannelTakes k { c with flag := true } s t)
            ∧ (c.releaseNeeded = true →
                ChannelTakes k (Channel.afterRelease s.damagedEntry { c with flag := true }) s t)))
      ∧ (Admitted .start port p s → 3 < byteAt p 0 →
        ∃ t, exec (.start port tag p) s = .next t ∧ Refused .start port tag .badField s t)
      ∧ (port = .p k → Admitted .grantBands port p s →
        let n := byteAt p 0
        ∃ t, exec (.grantBands port tag p) s = .next t
          ∧ (n = 0 ∨ 8 < n → Refused .grantBands port tag .badField s t)
          ∧ (1 ≤ n → n ≤ 8 → c.enabled = false → Refused .grantBands port tag .ignored s t)
          ∧ (1 ≤ n → n ≤ 8 → c.enabled = true →
              Accepted .grantBands port tag [BitVec.ofNat 8 (min 8 (c.credits + n))] [.pch] s t ∧ OthersSame k s t
                ∧ ChannelTakes k { c with credits := min 8 (c.credits + n) } s t))

/-- What a release raises: in PAGE mode bands released to the number of bands, in BAND mode by 1, and in ROW mode to the
bands that start above the limit of the next row boundary which releases a band that is not released yet, from where the next
release goes on. The limits are T + my at boundary 0, the row after the caption band of grid row r at boundary r + 1, and H at
boundary R.
Nothing else of the rendering record changes. The next boundary's stay at R after the last one is the model's reading (log
18), as is that a release with nothing left to release takes every boundary (log 17). -/
def Obligations.ReleaseRaisesBands : Prop :=
  ∀ (r : Rendering) (bh : Nat) (p : Plan),
    let rows := p.snap.layout.r
    let limit (n : Nat) : Nat :=
      if n = rows then p.snap.layout.h
      else if n = 0 then p.snap.layout.t + p.grid.my
      else p.snap.layout.t + p.grid.my + (n - 1) * p.grid.py + p.grid.ch + p.snap.layout.cap
    let reach (n : Nat) : Nat := min r.bandCount ((limit n + bh - 1) / bh)
    r.raise .page bh p = { r with released := r.bandCount }
      ∧ r.raise .band bh p = { r with released := min r.bandCount (r.released + 1) }
      ∧ (r.boundary ≤ rows →
        (∀ n, r.boundary ≤ n → n ≤ rows → r.released < reach n → (∀ m, r.boundary ≤ m → m < n → reach m ≤ r.released) →
            r.raise .row bh p = { r with released := reach n, boundary := min rows (n + 1) })
          ∧ ((∀ n, r.boundary ≤ n → n ≤ rows → reach n ≤ r.released) →
            r.raise .row bh p = { r with boundary := rows }))

/-- Abort Page and the stall timer's expiry. Abort Page with a band in flight sets abort pending; with nothing RENDERING it
resets the last-page record; with a page RENDERING and no band in flight the page ends ABORTED. The expiry ends the
RENDERING page, or the PLANNED job of an ARMED channel, STALLED. A page end sends its Page Done, with the copies completed
and the bands sent of the copy begun, and takes the steps of PageEnded without chained flags, with the frames of what the
return of its plan sets off after it, in an order that is the model's (log 29 and log 33). The timer runs
while an ARMED or PAUSED channel without the source IMMEDIATE waits for a release, or a RUNNING one with no band in flight for
a credit: it starts with the full window when such a wait begins, goes on while the same wait holds, stops when none does, and
a window of 0 keeps it stopped. That two waits are the same when they agree in kind and in the page's sequence number is the
model's reading (log 26), as are the two figures of a page ended early (log 10); that a timer that has
not run out does not expire and changes nothing is its choice (log 1 and log 6). -/
def Obligations.AbortAndStallEndPages : Prop :=
  (∀ (c : Channel) (w : PressWait), c.pressWait = some w ↔
    (∃ p, c.state = .armed ∧ c.source ≠ .immediate ∧ c.plannedPlan? = some p ∧ w = .armed p.snap.seq)
      ∨ (∃ p, c.state = .paused ∧ c.source ≠ .immediate ∧ c.renderingPlan? = some p ∧ w = .paused p.snap.seq)
      ∨ ∃ p r, c.state = .running ∧ c.rendering = some r ∧ r.inFlight = false ∧ r.started < r.released
          ∧ c.credits = 0 ∧ c.renderingPlan? = some p ∧ w = .credit p.snap.seq)
    ∧ (∀ before after : Channel,
      (after.pressWait = none ∨ after.stallWindow = 0 → settleTimer before after = none)
        ∧ (after.pressWait ≠ none → after.stallWindow ≠ 0 →
          settleTimer before after = if before.pressWait = after.pressWait then before.stallTimer
            else some (after.stallWindow * 1000)))
    ∧ ∀ (s : State) (k : Fin 4) (tag : Byte) (p : Bytes),
    let c := s.channel k
    (Admitted .abortPage (.p k) p s →
      (∀ q r, c.renderingPlan? = some q → c.rendering = some r → r.inFlight = true →
        ∃ t, exec (.abortPage (.p k) tag p) s = .next t ∧ Accepted .abortPage (.p k) tag [] [.pch] s t
          ∧ OthersSame k s t ∧ ChannelTakes k { c with rendering := some { r with abortPending := true } } s t)
      ∧ (c.renderingPlan? = none →
        ∃ t, exec (.abortPage (.p k) tag p) s = .next t ∧ Accepted .abortPage (.p k) tag [] [.pch] s t
          ∧ OthersSame k s t ∧ ChannelTakes k { c with lastPage := none } s t)
      ∧ ∀ j rest q r, c.jobs = j :: rest → j.stage = .rendering q → c.rendering = some r → r.inFlight = false →
          let d := pageDoneOf k q .aborted (r.copy - 1 + (if r.started = r.bandCount then 1 else 0)) r.started false
          ∃ t, exec (.abortPage (.p k) tag p) s = .next t
            ∧ SendsAndReturns (some (.p k)) (onPort (.p k)
                [replyFrame .abortPage tag .ok [], noticeFrame .pageDone (bytesPageDone d)])
                [.liu, .ru, .pdir, .gs, .pch] [q.snap] s t
            ∧ PageEnded k q d false rest s t)
      ∧ (c.stallTimer = some 0 →
        (∀ j rest q r, c.jobs = j :: rest → j.stage = .rendering q → c.rendering = some r → r.inFlight = false →
          c.state ≠ .armed →
          let d := pageDoneOf k q .stalled (r.copy - 1 + (if r.started = r.bandCount then 1 else 0)) r.started false
          ∃ t, exec (.stallTimerExpiry k) s = .next t
            ∧ SendsAndReturns none (onPort (.p k) [noticeFrame .pageDone (bytesPageDone d)])
                [.liu, .ru, .pdir, .gs, .pch] [q.snap] s t
            ∧ PageEnded k q d false rest s t)
        ∧ ∀ j rest q, c.jobs = j :: rest → j.stage = .planned q → c.enabled = true →
          let d := pageDoneOf k q .stalled 0 0 false
          ∃ t, exec (.stallTimerExpiry k) s = .next t
            ∧ SendsAndReturns none (onPort (.p k) [noticeFrame .pageDone (bytesPageDone d)])
                [.liu, .ru, .pdir, .gs, .pch] [q.snap] s t
            ∧ PageEnded k q d false rest s t)
      ∧ (c.stallTimer ≠ some 0 → exec (.stallTimerExpiry k) s = .next s)

/-- Channel Reset, and the loss of a press link, which is treated as one. The band in flight is cut; a RENDERING page ends
ABORTED with its Page Done, and every other job is cancelled with its notice in list order, after the reply; every plan is
returned; the list is empty, credits, flag, rendering record and stall timer are cleared, and the rest of the channel is
kept; a job in PLANNING leaves the planner free. What the return of the plans sets off is sent after these notices, in an order that is the model's (log 29 and log 33). On a
lost
link nothing is sent on it and the port is DOWN. The numbers of
copies completed and of bands sent, the cut band counted, are the model's reading (log 10). -/
def Obligations.ChannelResetOutcome : Prop :=
  ∀ (s : State) (k : Fin 4),
    let c := s.channel k
    let plans := c.jobs.filterMap Job.snap?
    (c.rendering.isSome = true ↔ c.renderingPlan?.isSome = true) →
    let done : Option PageDone := match c.renderingPlan?, c.rendering with
      | some q, some r => some (pageDoneOf k q .aborted
          (r.copy - 1 + (if r.started = r.bandCount ∧ r.inFlight = false then 1 else 0)) r.started r.inFlight)
      | _, _ => none
    let notices := done.toList.map (fun d => noticeFrame .pageDone (bytesPageDone d))
      ++ (c.jobs.filter (fun j => (Job.renderingPlan? j).isNone)).map
        (fun j => noticeFrame .jobCancelled (bytesJobCancelled k j .channelReset))
    let cleared (t : State) : Prop :=
      ReturnTaken plans s t ∧ (QuietReturn s plans → PlansReturned plans s t) ∧ OthersSame k s t
        ∧ t.channel k = { c with
            jobs := [], credits := 0, flag := false, rendering := none, stallTimer := none,
            lastPage := done.orElse (fun _ => c.lastPage) }
        ∧ t.pln = { s.pln with planning := if s.pln.planning = some k then none else s.pln.planning }
        ∧ t.ce = (if s.ce.map Band.channel = some k then none else s.ce)
    (∀ (tag : Byte) (p : Bytes), Admitted .channelReset (.p k) p s →
      ∃ t, exec (.channelReset (.p k) tag p) s = .next t
        ∧ SendsAndReturns (some (.p k)) (onPort (.p k) (replyFrame .channelReset tag .ok [] :: notices))
            [.liu, .ru, .pdir, .gs, .pln, .pch, .ce] plans s t
        ∧ cleared t)
      ∧ ((s.port (.p k)).up = true →
        ∃ t, exec (.lineLoss (.p k)) s = .next t ∧ OnlyChanges [.liu, .lt, .ru, .sc, .pdir, .gs, .pln, .pch, .ce] s t
          ∧ (QuietReturn s plans → OnlyChanges [.liu, .ru, .pdir, .gs, .pln, .pch, .ce] s t
            ∧ ∀ q, q ≠ .p k → t.port q = s.port q)
          ∧ t.port (.p k) =
            { up := false, silence := none, frameFault := (s.port (.p k)).frameFault, waiting := [] }
          ∧ (∀ q, q ≠ .p k → t.port q = { s.port q with waiting :=
              if (s.port q).up then (s.port q).waiting ++ s.returnFrames plans q else (s.port q).waiting })
          ∧ cleared t)

/-! ### The engine -/

/-- A channel requests the engine when its page is RENDERING without abort pending, no band of it is in flight, it has a
released band not started, and it has a credit. The engine grant, to the first requesting channel after the last-served one in rotation: its next band starts, by its
band order and band height, for one credit, with the sources each cell draws from fixed for the band; Band Start is sent on
the channel's port. That the grant is a command of its own, and one that is not due, with the engine busy or no channel
requesting, changes nothing, are the model's choices (log 7 and log 1). -/
def Obligations.EngineGrantStartsBand : Prop :=
  (∀ c : Channel, c.requests = true ↔ ∃ r, c.rendering = some r ∧ r.abortPending = false ∧ r.inFlight = false
      ∧ r.started < r.released ∧ 1 ≤ c.credits)
    ∧ ∀ s : State,
    (s.ce ≠ none ∨ (∀ k, (s.channel k).requests = false) → exec .engineGrant s = .next s)
      ∧ ∀ (n : Fin 4) (p : Plan) (r : Rendering),
        let k : Fin 4 := s.pch.lastServed + 1 + n
        let c := s.channel k
        let index := if c.order = .forward then r.started else r.bandCount - 1 - r.started
        let rowCount := min c.bandHeight (p.snap.layout.h - index * c.bandHeight)
        s.ce = none → c.requests = true → (∀ m : Fin 4, m < n → (s.channel (s.pch.lastServed + 1 + m)).requests = false) →
        c.renderingPlan? = some p → c.rendering = some r →
        ∃ t b, exec .engineGrant s = .next t ∧ OnlyChanges [.liu, .pch, .ce] s t
          ∧ PortsGain none (onPort (.p k) [noticeFrame .bandStart
              (bytes1 k.val ++ bytes2 p.snap.seq ++ bytes1 r.copy ++ bytes2 index ++ bytes2 (index * c.bandHeight)
                ++ bytes1 rowCount ++ bytes1 c.order.code ++ bytesBool c.mirror)]) s t
          ∧ ChannelTakes k { c with
              credits := c.credits - 1
              rendering := some { r with started := r.started + 1, inFlight := true } } s t
          ∧ (∀ j, j ≠ k → t.channel j = s.channel j) ∧ t.pch.lastServed = k
          ∧ t.ce = some b
          ∧ b = { channel := k, plan := p, copy := r.copy, index := index, order := c.order, mirror := c.mirror,
                  firstRow := index * c.bandHeight, rowCount := rowCount, rowsLeft := rowCount, draws := b.draws,
                  reads := [] }
          ∧ b.draws.length = p.cells.length
          ∧ ∀ (i : Nat) (cell : Cell), p.cells[i]? = some cell →
              (cell.damagedMidpage = false → ∀ h im fit, cell.source = some h → p.snap.imageOf h = some im →
                cell.fitting = some fit → b.draws[i]? = some (some { image := im, fitting := fit }))
              ∧ (cell.damagedMidpage = false → cell.source = none → b.draws[i]? = some none)
              ∧ (cell.damagedMidpage = true → p.substitute = none → b.draws[i]? = some none)
              ∧ (cell.damagedMidpage = true → ∀ fit ref im, p.substitute = some fit →
                p.snap.layout.placeholder = some ref → p.snap.imageOf ref.handle = some im →
                b.draws[i]? = some (if (s.entry ref.handle).state = .damaged then none
                  else some { image := im, fitting := fit }))

/-- A row of the band in production. While more than one row is left, one row fewer is left after it, no byte of the store changes,
and the row is read, drawn and sent as RowProduced says. A word that a row needs is read once for a cell and band: as held, or
corrected, counted and its cluster offered to the rescrub list. The last row ends the
band in one event with it, whichever of the two commands hands it on (the model's choice, log 8; the order of the words within
the row is log 9). A read that is uncorrectable is a fault of kind READ and gives no data. The pixels: ink or backdrop in the
title band; in the portrait area of a cell the resampled value, and backdrop where the cell draws nothing, the position lies
outside the source, or a neighbour has a byte in an uncorrectable word; ink or backdrop in its caption band; backdrop
elsewhere. With no band in production the command is not due and changes nothing (the model's choice, log 1). -/
def Obligations.RowDataSendsOneRow : Prop :=
  (∀ s : State,
    (s.ce = none → exec .rowData s = .next s)
      ∧ ∀ b : Band, s.ce = some b →
        (b.rowsLeft ≤ 1 → exec .rowData s = exec .bandEnd s)
        ∧ (1 < b.rowsLeft →
          ∃ t, exec .rowData s = .next t ∧ t.sc.store = s.sc.store ∧ RowProduced b s t)
        ∧ ∀ cell w : Nat,
          let t := s.readForCell cell w
          let read (data : Option (BitVec 64)) : Option Band :=
            some { b with reads := b.reads ++ [{ cell := cell, word := w, data := data }] }
          ((∃ r ∈ b.reads, r.cell = cell ∧ r.word = w) → t = s)
            ∧ ((∀ r ∈ b.reads, ¬ (r.cell = cell ∧ r.word = w)) →
              (s.wordFault w = none → t = { s with ce := read (some (Memory.word s.sc.store w)) })
              ∧ (∀ bit, s.wordFault w = some (.correctable bit) → t = { s with
                  ce := read (some (if bit.val < 64 then Memory.word s.sc.store w ^^^ (1#64 <<< bit.val)
                    else Memory.word s.sc.store w))
                  sel := { s.sel with
                    corrections := min 65535 (s.sel.corrections + 1)
                    rescrub := if w / 8192 ∈ s.sel.rescrub ∨ 8 ≤ s.sel.rescrub.length then s.sel.rescrub
                      else s.sel.rescrub ++ [w / 8192] } })
              ∧ ∀ v, s.wordFault w = some (.uncorrectable v) → t =
                { s.takeFault .read (w / 8192) (8 * (w % 8192)) v (some b.channel) with ce := read none }))
    ∧ ∀ (s : State) (b : Band) (x y : Nat),
      let p := b.plan
      let f := p.snap.layout
      let pixel := s.pagePixel b x y
      let within (c : Cell) : Prop :=
        c.x ≤ x ∧ x < c.x + p.grid.cw ∧ c.y ≤ y ∧ y < c.y + p.grid.ch + f.cap
      b.draws.length = p.cells.length → (b.reads.map (fun r => (r.cell, r.word))).Nodup →
      (y < f.t →
          (p.title.line = none → pixel = f.backdrop)
            ∧ ∀ run, p.title.line = some run →
              (s.inkAt f.titleScale run.x p.title.y run.codes x y → pixel = f.ink)
                ∧ (¬ s.inkAt f.titleScale run.x p.title.y run.codes x y → pixel = f.backdrop))
        ∧ (f.t ≤ y → (∀ c ∈ p.cells, ¬ within c) → pixel = f.backdrop)
        ∧ (f.t ≤ y → ∀ (n : Nat) (c : Cell), p.cells[n]? = some c → within c →
          (∀ (m : Nat) (c' : Cell), m < n → p.cells[m]? = some c' → ¬ within c') →
          (y < c.y + p.grid.ch →
            (b.draws[n]? = some none → pixel = f.backdrop)
              ∧ ∀ d, b.draws[n]? = some (some d) →
                (sampleAt d (x - c.x) (y - c.y) = none → pixel = f.backdrop)
                  ∧ ∀ q, sampleAt d (x - c.x) (y - c.y) = some q →
                    let holds (r : ReadWord) (o : Nat) : Prop :=
                      r ∈ b.reads ∧ r.cell = n ∧ wordOfOffset s.sc.map d.image.first o = some r.word
                    ((∃ o ∈ sampleOffsets d.image.width q, ∃ r, holds r o ∧ r.data = none) → pixel = f.backdrop)
                      ∧ ∀ value : Nat → Byte,
                        (∀ o ∈ sampleOffsets d.image.width q, ∃ r v, holds r o ∧ r.data = some v
                          ∧ value o = (v >>> (8 * (o % 8))).setWidth 8) →
                        let channel (n : Nat) : Byte :=
                          let at_ (i j : Nat) : Nat := (value ((j * d.image.width + i) * 3 + n)).toNat
                          BitVec.ofNat 8 (blend (at_ q.i0 q.j0) (at_ q.i1 q.j0) (at_ q.i0 q.j1) (at_ q.i1 q.j1) q.fx q.fy)
                        pixel = { r := channel 0, g := channel 1, b := channel 2 })
          ∧ (c.y + p.grid.ch ≤ y →
            let inked := ∃ i run, c.lines[i]? = some run ∧ s.inkAt f.captionScale (c.x + run.x)
              (c.y + p.grid.ch + c.lineY + i * 32 * f.captionScale) run.codes x y
            (inked → pixel = f.ink) ∧ (¬ inked → pixel = f.backdrop)))

/-- The end of a band, due when at most one row is left of it: that row is handed on and in one event with it (the model's
choice, log 8) the engine is free, and the channel goes on by what stands; what the return of an ended page's plan sets off is
sent after its Page Done, in an order that is the model's (log 29 and log 33). With abort pending the page ends ABORTED; with the
last band of the last copy it ends DONE, or DEFECT with a flagged cell, and sets the chained flags; with the last band of
another copy the next copy begins, PAUSED; with every released band sent it is PAUSED, and a PAUSED channel takes a release at
once if its trigger counts as set; else it may request the engine again. The copies completed of a page that ends here are the
model's reading (log 10); with more rows left or no band the command is not due and changes nothing (its choice, log 1). -/
def Obligations.BandEndOutcome : Prop :=
  ∀ s : State,
    (s.ce = none → exec .bandEnd s = .next s)
      ∧ ∀ b : Band, s.ce = some b →
        (1 < b.rowsLeft → exec .bandEnd s = .next s)
        ∧ (b.rowsLeft ≤ 1 → ∃ s1 : State,
          (b.rowsLeft = 0 → s1 = s)
          ∧ (b.rowsLeft = 1 → s1.sc.store = s.sc.store ∧ RowProduced b s s1)
          ∧ ∀ j rest p r,
            let k := b.channel
            let c := s1.channel k
            c.enabled = true → c.jobs = j :: rest → j.stage = .rendering p → c.rendering = some r →
            r.inFlight = true →
            let ended (result : PageResult) (chained : Bool) : Prop :=
              let d := pageDoneOf k p result (r.copy - 1 + (if r.started = r.bandCount then 1 else 0)) r.started false
              ∃ t, exec .bandEnd s = .next t ∧ t.ce = none
                ∧ SendsAndReturns none (onPort (.p k) [noticeFrame .pageDone (bytesPageDone d)])
                    [.liu, .ru, .pdir, .gs, .pch, .ce] [p.snap] s1 t
                ∧ PageEnded k p d chained rest s1 t
            let goesOn (r' : Rendering) (paused : Bool) : Prop :=
              let c' : Channel := { c with rendering := some r' }
              ∃ t, exec .bandEnd s = .next t ∧ t.ce = none ∧ OnlyChanges [.pch, .ce] s1 t ∧ OthersSame k s1 t
                ∧ ChannelTakes k
                  (if paused = true ∧ c.triggered = true then c'.afterRelease s1.damagedEntry else c') s1 t
            (r.abortPending = true → ended .aborted false)
              ∧ (r.abortPending = false → r.started = r.bandCount → p.snap.copies ≤ r.copy →
                  ended (if ∃ cell ∈ p.cells, cell.damagedMidpage = true then .defect else .done) true)
              ∧ (r.abortPending = false → r.started = r.bandCount → r.copy < p.snap.copies →
                  goesOn { r with
                    inFlight := false, copy := r.copy + 1, released := 0, started := 0, boundary := 0 } true)
              ∧ (r.abortPending = false → r.started ≠ r.bandCount → r.started = r.released →
                  goesOn { r with inFlight := false } true)
              ∧ (r.abortPending = false → r.started ≠ r.bandCount → r.started ≠ r.released →
                  goesOn { r with inFlight := false } false))

/-! ### Store integrity -/

/-- The scrub timer's expiry starts the next 200 ms and makes at most one visit. RETIRED clusters at the front of the rescrub
list are dropped and its first other one, which leaves it, is visited; with no other one the list is empty (log 19) and the
sweep visits the first cluster from the cursor up, wrapping, that is neither RETIRED nor of an upload, and moves the cursor
past it; where it finds none there is no visit and the cursor stays. A visit takes the words of its cluster that do not read
clean in rising order (the model's choice, log 34): a corrected one is counted, up to 65,535, and written back with valid check
bits, an uncorrectable one is a fault of kind SCRUB, each judged as the one before it left the cluster. So where all of them can
be corrected, the cluster reads clean and every other word and everything else stay. A timer that has not run out does not
expire and changes nothing (the model's choice, log 1 and log 6). -/
def Obligations.ScrubVisitCorrectsWords : Prop :=
  ∀ s : State,
    let retired (d : Nat) : Prop := s.cluster d = .retired
    let swept (d : Nat) : Prop := ¬ retired d ∧ ∀ o, (s.cluster d).owner? = some o → o.kind ≠ .upload
    let from_ (n : Nat) : Nat := (s.sel.cursor + n) % 131072
    (s.sel.timer ≠ some 0 → exec .scrubTimerExpiry s = .next s)
      ∧ (s.sel.timer = some 0 → s.sel.cursor < 131072 → (∀ d ∈ s.sel.rescrub, retired d) →
        (∀ n, n < 131072 → ¬ swept (from_ n)) →
        ∃ t, exec .scrubTimerExpiry s = .next t ∧ OnlyChanges [.sel] s t
          ∧ t.sel = { s.sel with timer := some 200, rescrub := [] })
      ∧ (s.sel.timer = some 0 → Table.wf 0#72 s.sc.errors = true → ∀ (c : Nat) (rest : List Nat) (cursor : Nat),
        (∃ dropped, s.sel.rescrub = dropped ++ c :: rest ∧ (∀ d ∈ dropped, retired d) ∧ ¬ retired c
            ∧ cursor = s.sel.cursor)
          ∨ ((∀ d ∈ s.sel.rescrub, retired d) ∧ rest = [] ∧ s.sel.cursor < 131072 ∧ cursor = (c + 1) % 131072
            ∧ ∃ n, n < 131072 ∧ c = from_ n ∧ swept c ∧ ∀ m, m < n → ¬ swept (from_ m)) →
        let begun : State := { s with sel := { s.sel with cursor := cursor, timer := some 200, rescrub := rest } }
        ∀ words : List Nat, words.Pairwise (fun v w => v < w) →
        (∀ w, w ∈ words ↔ w / 8192 = c ∧ (s.wordFault w).isSome = true) →
        (exec .scrubTimerExpiry s = .next (words.foldl (fun u w =>
            match u.wordFault w with
            | none => u
            | some (.correctable bit) => { u with
                sc := { u.sc with
                  store := Memory.writeWord u.sc.store w (correctWord (Memory.word u.sc.store w) bit)
                  errors := Table.set 0#72 u.sc.errors w 0#72 }
                sel := { u.sel with corrections := min 65535 (u.sel.corrections + 1) } }
            | some (.uncorrectable v) => u.takeFault .scrub c (8 * (w % 8192)) v none) begun))
          ∧ ((∀ w ∈ words, uncorrectable (s.wordFault w) = false) →
            ∃ t, exec .scrubTimerExpiry s = .next t ∧ OnlyChanges [.sc, .sel] s t
              ∧ t.sel = { begun.sel with
                  corrections := if words = [] then s.sel.corrections
                    else min 65535 (s.sel.corrections + words.length) }
              ∧ t.sc = { s.sc with store := t.sc.store, errors := t.sc.errors }
              ∧ (∀ w, t.wordFault w = if w / 8192 = c then none else s.wordFault w)
              ∧ ∀ w, Memory.word t.sc.store w = match s.wordFault w with
                  | some (.correctable bit) => if w / 8192 = c then correctWord (Memory.word s.sc.store w) bit
                      else Memory.word s.sc.store w
                  | _ => Memory.word s.sc.store w))

/-- What an uncorrectable word does, by the state and owner of its cluster. FREE, with the reservations still covered: the
cluster is RETIRED. Already marked in a CURRENT chain, or RETIRED: nothing. Unmarked in a CURRENT chain: it is marked, a
READY entry becomes DAMAGED, cells of RENDERING pages that draw the handle are flagged, and Portrait Damaged goes to ports I
and L. In a PENDING chain: that chain is freed and the replacement given up, with Replacement Lost on port I. In every
case the fault is then offered to the error log: latched with a Store Fault on port L if the log is empty, else the
overflow flag is set. The yes or no byte of Portrait Damaged, for a replacement or an open upload, is the model's reading
(log 12). -/
def Obligations.FaultActsByOwner : Prop :=
  ∀ (s : State) (kind : FaultKind) (c offset : Nat) (syndrome : BitVec 8) (channel : Option (Fin 4)),
    let t := s.takeFault kind c offset syndrome channel
    let owner := (s.cluster c).owner?
    let log : LogRecord :=
      { kind := kind, cluster := c, offset := offset, syndrome := syndrome, owner := owner.map Owner.handle,
        channel := channel }
    let logged (first : Port → List Frame) : Prop :=
      PortsGain none (andThen first (onPort .l
          (if s.sel.log = none then [noticeFrame .storeFault (bytesLogRecord log)] else []))) s t
        ∧ t.sel = (if s.sel.log = none then { s.sel with log := some log } else { s.sel with overflow := true })
    (s.cluster c = .retired ∨ ((∃ h, owner = some ⟨h, .current⟩) ∧ (s.cluster c).suspect = true) →
        logged (fun _ => []) ∧ OnlyChanges [.liu, .sel] s t)
      ∧ (s.cluster c = .free → s.sc.reserved < s.sc.freeCount →
        logged (fun _ => []) ∧ OnlyChanges [.liu, .sel, .sc] s t ∧ t.cluster c = .retired
          ∧ (∀ d, d ≠ c → t.cluster d = s.cluster d)
          ∧ t.sc = { s.sc with
              map := t.sc.map, freeCount := s.sc.freeCount - 1, retiredCount := s.sc.retiredCount + 1 })
      ∧ (∀ h, owner = some ⟨h, .current⟩ → (s.cluster c).suspect = false →
        let e := s.entry h
        let payload := bytes2 h ++ bytes1 e.generation ++ bytes4 c ++ bytes1 e.pins
          ++ bytesBool (e.replacement.isSome || e.upload.isSome)
          ++ bytes1 (match e.image with | some im => t.markedIn im.first | none => 0)
        logged (fun q => if q = .i ∨ q = .l then [noticeFrame .portraitDamaged payload] else [])
          ∧ OnlyChanges [.liu, .sel, .sc, .pdir, .pch] s t
          ∧ t.cluster c = (match s.cluster c with
              | .linked n _ o => .linked n true o
              | .last _ o => .last true o
              | e => e)
          ∧ (∀ d, d ≠ c → t.cluster d = s.cluster d) ∧ t.sc = { s.sc with map := t.sc.map }
          ∧ t.entry h = { e with state := if e.state = .ready then .damaged else e.state }
          ∧ (∀ g, g ≠ h → t.entry g = s.entry g)
          ∧ t.pch.lastServed = s.pch.lastServed
          ∧ ∀ k, t.channel k = { s.channel k with jobs := (s.channel k).jobs.map (fun j => match j.stage with
              | .rendering p => { j with stage := .rendering (p.flagDamage (fun n => decide (n = h))) }
              | _ => j) })
      ∧ (∀ h r, owner = some ⟨h, .pending⟩ → (s.entry h).replacement = some r → (s.chain r.first).Nodup →
        c ∈ s.chain r.first →
        let e := s.entry h
        let lost (d : Nat) : Bool := decide (d = c) || (s.cluster d).suspect
        logged (onPort .i [noticeFrame .replacementLost
            (bytes2 h ++ bytes1 e.generation ++ bytes4 c ++ bytes1 r.clusters)])
          ∧ OnlyChanges [.liu, .sel, .sc, .pdir] s t
          ∧ (∀ d, t.cluster d = if d ∈ s.chain r.first then (if lost d then .retired else .free) else s.cluster d)
          ∧ t.sc = { s.sc with
              map := t.sc.map
              freeCount := s.sc.freeCount + ((s.chain r.first).filter (fun d => !lost d)).length
              retiredCount := s.sc.retiredCount + ((s.chain r.first).filter lost).length }
          ∧ t.entry h = { e with replacement := none } ∧ ∀ g, g ≠ h → t.entry g = s.entry g)

/-- A fault in the chain of an upload fails that upload STORE_ERROR: its chain is freed, the cluster of the fault RETIRED with
any other marked one. A FREE cluster is retired, and while the free count is then below the reservation total the most recent
upload fails STORE_FULL, within the event: the uploads at the end of the open list, as many as it takes and no more, the last
first. Each failed upload's slot is IDLE and off the open list, its chain is freed and its reservation returned, a FILLING
entry is FREE at its generation and another one loses its open upload alone, and its Upload Result is sent on port I. The
fault is then offered to the error log: latched with a Store Fault on port L, after the Upload Results, if the log is empty,
else the overflow flag is set. -/
def Obligations.FaultFailsUpload : Prop :=
  ∀ (s : State) (kind : FaultKind) (c offset : Nat) (syndrome : BitVec 8) (channel : Option (Fin 4)), s.openListSound →
    let t := s.takeFault kind c offset syndrome channel
    let owner := (s.cluster c).owner?
    let log : LogRecord :=
      { kind := kind, cluster := c, offset := offset, syndrome := syndrome, owner := owner.map Owner.handle,
        channel := channel }
    let result (k : Fin 4) (u : UploadRecord) (cause : UploadOutcome) : Frame := noticeFrame .uploadResult
      (bytes1 k.val ++ bytes2 u.handle ++ bytes1 (s.entry u.handle).generation ++ bytes1 u.mode.code
        ++ bytes4 u.received ++ bytes1 cause.code ++ bytes1 0)
    let ended (others failed : List (Fin 4)) (results : List Frame) : Prop :=
      t.ie.openList = others ∧ (∀ k, t.slot k = if k ∈ failed then none else s.slot k)
        ∧ t.sc.reserved = s.sc.reserved - (failed.map s.slotReserved).sum
        ∧ (∀ h, t.entry h =
          if ∃ k ∈ failed, ∃ u, s.slot k = some u ∧ u.handle = h then
            (if (s.entry h).state = .filling then freeEntry (s.entry h).generation
             else { s.entry h with upload := none })
          else s.entry h)
        ∧ OnlyChanges [.liu, .sel, .sc, .pdir, .ie] s t
        ∧ PortsGain none (andThen (onPort .i results) (onPort .l
            (if s.sel.log = none then [noticeFrame .storeFault (bytesLogRecord log)] else []))) s t
        ∧ t.sel = (if s.sel.log = none then { s.sel with log := some log } else { s.sel with overflow := true })
    (∀ k u first last, s.slot k = some u → owner = some ⟨u.handle, .upload⟩ →
        (∀ j v, s.slot j = some v → v.handle = u.handle → j = k) →
        u.chain = some (first, last) → (s.chain first).Nodup → c ∈ s.chain first →
        ended (s.ie.openList.filter (fun j => decide (j ≠ k))) [k] [result k u .storeError]
          ∧ ClustersFreed (s.chain first) (fun d => decide (d = c) || (s.cluster d).suspect) s t)
      ∧ (s.cluster c = .free → ∀ others failed : List (Fin 4), s.ie.openList = others ++ failed →
        let chained (ks : List (Fin 4)) : List Nat := ks.flatMap s.slotChain
        let marked (d : Nat) : Bool := (s.cluster d).suspect
        let freed (ks : List (Fin 4)) : Nat := ((chained ks).filter (fun d => !marked d)).length
        let covered (ks : List (Fin 4)) : Prop :=
          s.sc.reserved - (ks.map s.slotReserved).sum ≤ s.sc.freeCount - 1 + freed ks
        (chained failed).Nodup → covered failed → (∀ a b, failed = a ++ b → a ≠ [] → ¬ covered b) →
        ended others failed (failed.reverse.flatMap (fun k =>
            ((s.slot k).map (fun u => result k u .storeFull)).toList))
          ∧ (∀ d, t.cluster d = if d = c then .retired
              else if d ∈ chained failed then (if marked d then .retired else .free) else s.cluster d)
          ∧ t.sc.freeCount = s.sc.freeCount - 1 + freed failed
          ∧ t.sc.retiredCount = s.sc.retiredCount + 1 + ((chained failed).filter marked).length
          ∧ t.sc.cursor = s.sc.cursor ∧ t.sc.store = s.sc.store ∧ t.sc.errors = s.sc.errors)

/-! ### Queries and the whole part -/

/-- The queries and Clear Error Log, with every byte of the reply records, and of Page Done, Job Cancelled and Store Fault. A
query whose number is in range is answered OK, during the store initialisation too, and changes nothing but, for Query Link,
the asking port's frame-fault flag, which is clear after it; out of range it is refused BAD_FIELD. Clear Error Log empties the
log and clears the overflow flag, and changes nothing else. Numbers go most significant byte first; an item that may be absent
has a presence byte, and what does not apply is 0. The model's reading, where no table gives a record: which items are
optional and the places of the job list (log 12), the whole seconds of the stall timer (log 20), the wait of a candidate that
waits for nothing (log 23), and the one length of the replies for EMPTY records (log 30). -/
def Obligations.QueriesAndClearErrorLog : Prop :=
  ∀ (s : State) (port : Port) (tag : Byte) (p : Bytes),
    let one (n : Nat) : Bytes := [BitVec.ofNat 8 n]
    let two (n : Nat) : Bytes := [BitVec.ofNat 8 (n / 256), BitVec.ofNat 8 n]
    let four (n : Nat) : Bytes := two (n / 65536) ++ two n
    let yes (b : Bool) : Bytes := [if b then 1 else 0]
    let rgb (c : Rgb) : Bytes := [c.r, c.g, c.b]
    let reference (r : Option PortraitRef) : Bytes := match r with
      | none => [0, 0, 0, 0]
      | some r => one 1 ++ two r.handle ++ one r.generation
    let text (size : Nat) (codes : List Nat) : Bytes :=
      one codes.length ++ codes.flatMap two ++ zeros (2 * (size - codes.length))
    let box (r : ImageRecord) : Bytes :=
      two r.width ++ two r.height ++ two r.faceCentre ++ two r.eyeRow ++ two r.faceHeight ++ yes r.boxClamped
    let quadrant (q : BitVec 256) : Bytes := (List.range 32).map (fun n => (q >>> (8 * (31 - n))).setWidth 8)
    let logRecord (r : LogRecord) : Bytes :=
      one (match r.kind with | .read => 0 | .scrub => 1) ++ four r.cluster ++ two r.offset ++ [r.syndrome]
        ++ (match r.owner with | none => [0, 0, 0] | some h => one 1 ++ two h)
        ++ (match r.channel with | none => [0, 0] | some k => one 1 ++ one k.val)
    let stage (j : Job) : Nat :=
      match j.stage with | .queued => 0 | .planning _ => 1 | .planned _ => 2 | .rendering _ => 3
    let sequence (j : Job) : Nat := match j.stage with
      | .queued => 0
      | .planning q => q.seq
      | .planned q => q.snap.seq
      | .rendering q => q.snap.seq
    let pageDone (d : PageDone) : Bytes :=
      one d.channel.val ++ two d.seq ++ two d.classNo ++ one d.page
        ++ one (match d.result with | .done => 0 | .defect => 1 | .aborted => 2 | .stalled => 3 | .emptyPage => 4)
        ++ one d.copies ++ one d.completed ++ two d.bands ++ yes d.cut
        ++ two d.counts.noPortrait ++ two d.counts.stale ++ two d.counts.notReady ++ two d.counts.damaged
        ++ two d.counts.scaleClamped ++ two d.counts.shifted ++ two d.counts.short ++ two d.counts.truncated
        ++ two d.counts.glyphMissing ++ two d.counts.captionOmitted ++ two d.counts.damagedMidpage
        ++ yes d.counts.titleTruncated ++ yes d.counts.titleGlyphMissing ++ yes d.counts.titleOmitted
    let figures (q : Plan) : Bytes :=
      let n (test : Cell → Bool) : Bytes := two (q.cells.filter test).length
      two q.snap.seq ++ two q.cells.length ++ two q.snap.pinned.length ++ n (fun x => x.placeholder.isSome)
        ++ n (fun x => x.fitting.any Fitting.scaleClamped) ++ n (fun x => x.fitting.any Fitting.shifted)
        ++ n (fun x => x.fitting.any Fitting.short) ++ n Cell.truncated ++ n Cell.glyphMissing
        ++ n Cell.captionOmitted ++ n Cell.damagedMidpage
    let layoutReply (n : Nat) : Bytes :=
      let r := s.layout n
      match r.fields with
      | none => one 0 ++ two r.bindings ++ zeros 33
      | some f =>
        one 1 ++ two r.bindings
          ++ two f.w ++ two f.h ++ one f.c ++ one f.r ++ one f.g ++ one f.v ++ one f.cap ++ one f.captionScale
          ++ two f.t ++ one f.titleScale ++ one f.headRatio ++ one f.eyeRatio
          ++ one (match f.alignment with | .left => 0 | .centred => 1)
          ++ rgb f.backdrop ++ rgb f.ink ++ reference f.placeholder ++ two f.ellipsis
          ++ two ((f.w - (f.c - 1) * f.g) / f.c) ++ two ((f.h - f.t - f.r * f.cap - (f.r - 1) * f.v) / f.r)
          ++ yes (s.layoutReady n)
    let classReply (n position : Nat) : Bytes :=
      let r := s.classAt n
      one (match r.state with | .empty => 0 | .opened => 1 | .frozen => 2) ++ one (r.bound.getD 0)
        ++ (match r.pending with | none => [0, 0] | some m => one 1 ++ one m)
        ++ one r.inFlight ++ two r.roster.length ++ text 64 r.title ++ two s.ru.poolFree
        ++ (match r.roster[position]? with
          | none => zeros 94
          | some x =>
            one 1 ++ one (x.id / 65536) ++ two x.id ++ one (match x.role with | .staff => 0 | .student => 1)
              ++ four x.sortKey ++ text 40 x.caption ++ reference x.ref)
    let portraitReply (h : Nat) : Bytes :=
      let e := s.entry h
      one (match e.state with | .free => 0 | .filling => 1 | .ready => 2 | .damaged => 3)
        ++ one e.generation ++ one e.pins
        ++ (match e.upload with
          | none => [0, 0]
          | some (k, .new) => one 1 ++ one k.val
          | some (k, .replace) => one 2 ++ one k.val)
        ++ (match e.image with
          | none => zeros 21
          | some r => box r ++ four r.first ++ one r.clusters ++ four r.crc.toNat
              ++ one ((s.chain r.first).filter (fun c => (s.cluster c).suspect)).length)
        ++ (match e.replacement with
          | none => zeros 17
          | some r => one 1 ++ box r ++ one r.clusters ++ four r.crc.toNat)
    let storeReply : Bytes :=
      yes (decide (s.phase ≠ .running)) ++ four s.sc.freeCount ++ four s.sc.reserved ++ four s.sc.retiredCount
        ++ four s.sc.cursor ++ four s.sel.cursor
        ++ one s.sel.rescrub.length ++ s.sel.rescrub.flatMap four ++ zeros (32 - 4 * s.sel.rescrub.length)
        ++ two s.sel.corrections ++ (match s.sel.log with | none => zeros 14 | some r => one 1 ++ logRecord r)
        ++ yes s.sel.overflow
    let glyphReply (code : Nat) : Bytes :=
      one (match s.gs.window with | .closed => 0 | .opening => 1 | .opened => 2) ++ one s.gs.inFlight
        ++ two s.gs.glyphs.length
        ++ (if code = 4095 then one 2 ++ zeros 129 else match s.glyph code with
          | none => zeros 130
          | some g => one 1 ++ one g.advance ++ quadrant g.mask.upperLeft ++ quadrant g.mask.upperRight
              ++ quadrant g.mask.lowerLeft ++ quadrant g.mask.lowerRight)
    let channelReply (k : Fin 4) : Bytes :=
      let c := s.channel k
      one (match c.state with | .off => 0 | .idle => 1 | .armed => 2 | .running => 3 | .paused => 4) ++ yes c.enabled
        ++ one (match c.mode with | .page => 0 | .row => 1 | .band => 2)
        ++ one (match c.source with | .immediate => 0 | .sheet => 1 | .software => 2 | .chained j => 4 + j.val)
        ++ one (match c.order with | .forward => 0 | .reverse => 1)
        ++ yes c.mirror ++ one c.bandHeight ++ one c.stallWindow ++ one c.credits ++ yes c.flag
        ++ (match c.stallTimer with | none => [0, 0] | some ms => one 1 ++ one (ms / 1000))
        ++ two c.nextSeq ++ (match c.lastPage with | none => zeros 38 | some d => one 1 ++ pageDone d)
        ++ one c.jobs.length
        ++ c.jobs.flatMap (fun j => two j.classNo ++ one j.page ++ one j.copies ++ one (stage j) ++ two (sequence j))
        ++ zeros (7 * (4 - c.jobs.length))
        ++ c.jobs.flatMap (fun j => match j.stage with
          | .planned q => figures q
          | .rendering q => figures q
          | _ => zeros 22)
        ++ zeros (22 * (4 - c.jobs.length))
        ++ (match c.rendering with
          | none => zeros 11
          | some r => one 1 ++ one r.copy ++ two r.bandCount ++ two r.released ++ two r.started ++ yes r.inFlight
              ++ one r.boundary ++ yes r.abortPending)
        ++ (match c.candidate with
          | none => [0, 0]
          | some j =>
            if c.enabled = false then [1, 1]
            else if s.gs.window ≠ .closed then [1, 2]
            else if (s.classAt j.classNo).pending ≠ none then [1, 3]
            else if s.eligible k = true ∧ ∃ other, s.pln.planning = some other ∧ other ≠ k then [1, 4]
            else [0, 0])
    (Admitted .queryLayout port p s → ∃ t, exec (.queryLayout port tag p) s = .next t
        ∧ (byteAt p 0 ≤ 63 → Accepted .queryLayout port tag (layoutReply (byteAt p 0)) [] s t)
        ∧ (63 < byteAt p 0 → Refused .queryLayout port tag .badField s t))
      ∧ (Admitted .queryClass port p s → ∃ t, exec (.queryClass port tag p) s = .next t
        ∧ (word16At p 0 ≤ 511 → Accepted .queryClass port tag (classReply (word16At p 0) (byteAt p 2)) [] s t)
        ∧ (511 < word16At p 0 → Refused .queryClass port tag .badField s t))
      ∧ (Admitted .queryPortrait port p s → ∃ t, exec (.queryPortrait port tag p) s = .next t
        ∧ (word16At p 0 ≤ 16383 → Accepted .queryPortrait port tag (portraitReply (word16At p 0)) [] s t)
        ∧ (16383 < word16At p 0 → Refused .queryPortrait port tag .badField s t))
      ∧ (Admitted .queryStore port p s → ∃ t, exec (.queryStore port tag p) s = .next t
        ∧ Accepted .queryStore port tag storeReply [] s t)
      ∧ (Admitted .queryGlyph port p s → ∃ t, exec (.queryGlyph port tag p) s = .next t
        ∧ (word16At p 0 ≤ 4095 → Accepted .queryGlyph port tag (glyphReply (word16At p 0)) [] s t)
        ∧ (4095 < word16At p 0 → Refused .queryGlyph port tag .badField s t))
      ∧ (Admitted .queryChannel port p s → ∃ t, exec (.queryChannel port tag p) s = .next t
        ∧ (∀ k : Fin 4, k.val = byteAt p 0 → Accepted .queryChannel port tag (channelReply k) [] s t)
        ∧ (3 < byteAt p 0 → Refused .queryChannel port tag .badField s t))
      ∧ (Admitted .queryLink port p s →
        ∃ t, exec (.queryLink port tag p) s = .next t ∧ OnlyChanges [.liu] s t
          ∧ (t.port port).frameFault = false
          ∧ (t.port port).waiting = (s.port port).waiting ++ [replyFrame .queryLink tag .ok
              ([Port.l, .i, .p 0, .p 1, .p 2, .p 3].flatMap (fun q =>
                yes (s.port q).up ++ yes (s.port q).frameFault)
                ++ one (match port with | .l => 0 | .i => 1 | .p k => 2 + k.val))]
          ∧ (t.port port).up = true ∧ (t.port port).silence = some 100
          ∧ ∀ q, q ≠ port → t.port q = s.port q)
      ∧ (Admitted .clearErrorLog port p s →
        ∃ t, exec (.clearErrorLog port tag p) s = .next t ∧ Accepted .clearErrorLog port tag [] [.sel] s t
          ∧ t.sel = { s.sel with log := none, overflow := false })
      ∧ (∀ d : PageDone, bytesPageDone d = pageDone d ∧ (pageDone d).length = 37)
      ∧ (∀ r : LogRecord, bytesLogRecord r = logRecord r ∧ (logRecord r).length = 13)
      ∧ (∀ (k : Fin 4) (j : Job) (cause : CancelCause), bytesJobCancelled k j cause =
          one k.val ++ two j.classNo ++ one j.page ++ one (stage j) ++ two (sequence j)
            ++ one (match cause with | .channelReset => 0 | .hallClear => 1 | .classDeleted => 2))
      ∧ (∀ h, (portraitReply h).length + 1 = 44)
      ∧ (s.sel.rescrub.length ≤ 8 → storeReply.length + 1 = 72)
      ∧ ∀ q : Plan,
        let n (test : Cell → Bool) : Nat := (q.cells.filter test).length
        flagCounts q =
          { noPortrait := n (fun x => decide (x.placeholder = some .noPortrait))
            stale := n (fun x => decide (x.placeholder = some .stale))
            notReady := n (fun x => decide (x.placeholder = some .notReady))
            damaged := n (fun x => decide (x.placeholder = some .damaged))
            scaleClamped := n (fun x => x.fitting.any Fitting.scaleClamped)
            shifted := n (fun x => x.fitting.any Fitting.shifted)
            short := n (fun x => x.fitting.any Fitting.short)
            truncated := n Cell.truncated, glyphMissing := n Cell.glyphMissing
            captionOmitted := n Cell.captionOmitted, damagedMidpage := n Cell.damagedMidpage
            titleTruncated := q.title.truncated, titleGlyphMissing := q.title.glyphMissing
            titleOmitted := q.title.omitted }

/-- Hall Clear: every layout is EMPTY, every class EMPTY and the pool whole, every entry FREE at generation 0, every slot
IDLE; every cluster is FREE but those that were RETIRED or marked, which are RETIRED, with the counts by that, no
reservation and the cursor at 0; no byte of the store changes. Every channel keeps its configuration, its enabled item and
its sequence number and is otherwise as after a Channel Reset, an aborted page becoming its last page; planner and engine are
free; no page is in flight and an OPENING glyph window opens. The frames: on port L the reply, then the notice of a window that
opened; on port I an Upload Result CANCELLED with generation 0 for each upload, in the order of the open list; on each press
port the Page Done of the aborted page, then the Job Cancelled notices in list order. The glyph records, the scrubber's state
and the error log, the link states, the waiting frames, the silence timers of the other ports and the frame-fault flags are
kept. The two figures of an aborted page are the model's reading (log 10). -/
def Obligations.HallClearOutcome : Prop :=
  ∀ (s : State) (port : Port) (tag : Byte) (p : Bytes), Admitted .hallClear port p s → s.openListSound →
    s.inFlightSound → s.windowSound → Table.wf ClusterEntry.free s.sc.map = true →
    let done (k : Fin 4) : Option PageDone := match (s.channel k).renderingPlan?, (s.channel k).rendering with
      | some q, some r => some (pageDoneOf k q .aborted
          (r.copy - 1 + (if r.started = r.bandCount ∧ r.inFlight = false then 1 else 0)) r.started r.inFlight)
      | _, _ => none
    ∃ t, exec (.hallClear port tag p) s = .next t
      ∧ OnlyChanges [.liu, .lt, .ru, .sc, .pdir, .ie, .gs, .pln, .pch, .ce] s t
      ∧ (∀ n, t.layout n = emptyLayout) ∧ (∀ c, t.classAt c = emptyClass) ∧ t.ru.poolFree = 32768
      ∧ (∀ h, t.entry h = freeEntry 0) ∧ (∀ k, t.slot k = none) ∧ t.ie.openList = []
      ∧ (∀ c, t.cluster c = if s.cluster c = .retired ∨ (s.cluster c).suspect = true then .retired else .free)
      ∧ t.sc.retiredCount = t.sc.map.length ∧ t.sc.freeCount = 131072 - t.sc.map.length
      ∧ t.sc.reserved = 0 ∧ t.sc.cursor = 0 ∧ t.sc.store = s.sc.store ∧ t.sc.errors = s.sc.errors
      ∧ (∀ k, t.channel k = { s.channel k with
          jobs := [], credits := 0, flag := false, rendering := none, stallTimer := none,
          lastPage := (done k).orElse (fun _ => (s.channel k).lastPage) })
      ∧ t.pch.lastServed = s.pch.lastServed ∧ t.pln = { s.pln with planning := none } ∧ t.ce = none
      ∧ t.gs = { s.gs with
          window := if s.gs.window = .opening then .opened else s.gs.window, inFlight := 0 }
      ∧ PortsGain (some port) (fun q => match q with
        | .l => replyFrame .hallClear tag .ok [] :: (if s.gs.window = .opening then
            [noticeFrame .glyphWindowOpen (bytes2 s.gs.glyphs.length)] else [])
        | .i => s.ie.openList.flatMap (fun k => (s.slot k).toList.map (fun u => noticeFrame .uploadResult
            (bytes1 k.val ++ bytes2 u.handle ++ bytes1 0 ++ bytes1 u.mode.code ++ bytes4 u.received
              ++ bytes1 UploadOutcome.cancelled.code ++ bytes1 0)))
        | .p k => (done k).toList.map (fun d => noticeFrame .pageDone (bytesPageDone d))
            ++ ((s.channel k).jobs.filter (fun j => (Job.renderingPlan? j).isNone)).map
              (fun j => noticeFrame .jobCancelled (bytesJobCancelled k j .hallClear))) s t

/-- No command is refused by the model, and none but Put Pixels can stop it (log 16). Put Pixels does so for the upload its
payload names, when that upload's clusters and bytes agree, only when the chunk reaches past the clusters held and no cluster
is FREE. In a part whose store, uploads and directory are as the spec has them together, every command answers a next state,
Put Pixels among them; every step keeps the part so; and it is so at reset: the free and the retired count are those of the
Cluster Map, the reservation total is that of the OPEN slots and no more than the free count, held and reserved clusters of an
upload add up to those of its image, and every chained cluster is in exactly one chain, of one owner, that a slot, an image
record or a pending replacement holds. -/
def Obligations.CommandsNeverStop : Prop :=
  (∀ (c : Instr) (s : State),
    (∃ t, exec c s = .next t)
      ∨ (exec c s = .fault .noClusterForUpload ∧ ∃ port tag p k u, c = .putPixels port tag p
          ∧ k.val = byteAt p 0 ∧ s.slot k = some u ∧ u.handle = word16At p 1
          ∧ (u.received ≤ u.held * 65536 → u.held * 65536 ≤ u.received + 65535 → (u.chain = none ↔ u.held = 0) →
              u.held * 65536 < u.received + word16At p 7 ∧ s.nextFree = none)))
    ∧ (∀ (c : Instr) (s : State), s.storeSound → ∃ t, exec c s = .next t)
    ∧ (∀ s t : State, s.storeSound → s.openListSound → step s = .next t → t.storeSound)
    ∧ State.reset.storeSound

/-- Every sparse table, the store's memory among them, keeps its canonical form at every step. -/
def Obligations.StepKeepsCanonicalForm : Prop :=
  ∀ s t : State, s.canonical → step s = .next t → t.canonical

/-- Every step keeps the rosters in roster order, with no subject and no handle twice and every pool record in one place;
every step keeps the binding count of every layout equal to the number of classes that name it; and every step keeps a FROZEN
class FROZEN, with its roster, its title and its bound layout and with no pending layout, unless its command is a Delete Class
that names the class, a Hall Clear, or the assertion or release of PORST. -/
def Obligations.StepKeepsRostersAndBindings : Prop :=
  ∀ s t : State, step s = .next t →
    (s.rosterSound → t.rosterSound) ∧ (s.bindingsSound → t.bindingsSound)
      ∧ ∀ c, (s.classAt c).state = .frozen → (s.classAt c).pending = none →
        (∀ x rest, s.pending = x :: rest → x ≠ .porstAsserted ∧ x ≠ .porstReleased
          ∧ ∀ port tag p, x ≠ .hallClear port tag p ∧ (x = .deleteClass port tag p → word16At p 0 ≠ c)) →
        (t.classAt c).state = .frozen ∧ (t.classAt c).roster = (s.classAt c).roster
          ∧ (t.classAt c).title = (s.classAt c).title ∧ (t.classAt c).bound = (s.classAt c).bound
          ∧ (t.classAt c).pending = none

/-- Every step keeps the open list equal to the OPEN slots, each once; and every step keeps job lists within four jobs,
credits within 8, sequence numbers within 16 bits, the correction counter within 65,535, and the rescrub list within eight
clusters, each once. -/
def Obligations.StepKeepsOpenListAndBounds : Prop :=
  ∀ s t : State, step s = .next t → (s.openListSound → t.openListSound) ∧ (s.bounded → t.bounded)

/-- Every step keeps the job lists in their shape, and channels, planner and engine in agreement. -/
def Obligations.StepKeepsChannelsSound : Prop :=
  ∀ s t : State, s.channelsSound → step s = .next t → t.channelsSound

/-- Every step keeps the in-flight counts equal to the plans in flight; every step keeps the pin count of every entry equal to
the number of plans in flight whose pinned list holds its handle, with no handle twice in a list and no pins on a FREE or
FILLING entry; every step keeps the glyph window OPEN only with no page in flight and OPENING only with one; and while a page
is in flight no step but one that takes the assertion or release of PORST changes a glyph record. Pins and window are so at
reset too. -/
def Obligations.StepKeepsInFlightCounts : Prop :=
  (∀ s t : State, step s = .next t →
    (s.inFlightSound → t.inFlightSound) ∧ (s.pinsSound → t.pinsSound) ∧ (s.windowSound → t.windowSound)
      ∧ (s.windowSound → 0 < s.gs.inFlight →
        (∀ x rest, s.pending = x :: rest → x ≠ .porstAsserted ∧ x ≠ .porstReleased) → t.gs.glyphs = s.gs.glyphs))
    ∧ State.reset.pinsSound ∧ State.reset.windowSound
end

