-- ==== Sys2Proof/Laws/Tables.lean ====
section
/-! SUPPORT. Tables and the store as memory: a read after a write, and the canonical form. -/

set_option Elab.async false

namespace Sys2Proof.Machine

variable {α : Type}

@[simp] theorem Table.get_nil (d : α) (n : Nat) : Table.get d ([] : Table α) n = d := rfl

theorem Table.get_insert_same (d : α) (t : Table α) (n : Nat) (v : α) (h : ∀ e ∈ t, e.1 ≠ n) :
    Table.get d (Table.insert n v t) n = v := by
  induction t with
  | nil => simp [Table.insert, Table.get]
  | cons e rest ih =>
    obtain ⟨k, w⟩ := e
    have hk : k ≠ n := h (k, w) (by simp)
    have hr : ∀ e ∈ rest, e.1 ≠ n := fun e he => h e (by simp [he])
    unfold Table.insert
    split
    · simp [Table.get]
    · simp [Table.get, hk, ih hr]

theorem Table.get_insert_ne (d : α) (t : Table α) (n m : Nat) (v : α) (h : m ≠ n) :
    Table.get d (Table.insert n v t) m = Table.get d t m := by
  induction t with
  | nil => simp [Table.insert, Table.get, Ne.symm h]
  | cons e rest ih =>
    obtain ⟨k, w⟩ := e
    unfold Table.insert
    split
    · simp [Table.get, Ne.symm h]
    · simp only [Table.get, ih]

theorem Table.get_of_absent (d : α) (t : Table α) (n : Nat) (h : ∀ e ∈ t, e.1 ≠ n) : Table.get d t n = d := by
  induction t with
  | nil => rfl
  | cons e rest ih =>
    obtain ⟨k, w⟩ := e
    have hk : k ≠ n := h (k, w) (by simp)
    simp [Table.get, hk, ih (fun e he => h e (by simp [he]))]

theorem Table.get_filter_ne (d : α) (t : Table α) (n m : Nat) (h : m ≠ n) :
    Table.get d (t.filter (fun e => decide (e.1 ≠ n))) m = Table.get d t m := by
  induction t with
  | nil => rfl
  | cons e rest ih =>
    obtain ⟨k, w⟩ := e
    by_cases hk : k = n
    · subst hk
      have hf : List.filter (fun e : Nat × α => decide (e.1 ≠ k)) ((k, w) :: rest)
          = List.filter (fun e => decide (e.1 ≠ k)) rest := by simp
      rw [hf, ih]; simp [Table.get, Ne.symm h]
    · have hf : List.filter (fun e : Nat × α => decide (e.1 ≠ n)) ((k, w) :: rest)
          = (k, w) :: List.filter (fun e => decide (e.1 ≠ n)) rest := by simp [hk]
      rw [hf]; simp only [Table.get, ih]

theorem Table.mem_others {t : Table α} {n : Nat} {e : Nat × α} (h : e ∈ t.filter (fun e => decide (e.1 ≠ n))) :
    e.1 ≠ n := by
  have := (List.mem_filter.mp h).2
  simpa using this

variable [DecidableEq α]

/-- A read of the number just set gives the value set. -/
@[simp] theorem Table.get_set_same (d : α) (t : Table α) (n : Nat) (v : α) : Table.get d (Table.set d t n v) n = v := by
  unfold Table.set
  simp only
  split
  · next h => rw [Table.get_of_absent]; exact h.symm; exact fun e he => Table.mem_others he
  · exact Table.get_insert_same d _ n v (fun e he => Table.mem_others he)

/-- A read of any other number gives what it gave. -/
theorem Table.get_set_ne (d : α) (t : Table α) (n m : Nat) (v : α) (h : m ≠ n) :
    Table.get d (Table.set d t n v) m = Table.get d t m := by
  unfold Table.set
  simp only
  split
  · exact Table.get_filter_ne d t n m h
  · rw [Table.get_insert_ne d _ n m v h, Table.get_filter_ne d t n m h]

/-- What a read after a set can give. -/
theorem Table.get_set (d : α) (t : Table α) (n m : Nat) (v : α) :
    Table.get d (Table.set d t n v) m = if m = n then v else Table.get d t m := by
  split
  · next h => subst h; simp
  · next h => exact Table.get_set_ne d t n m v h

@[simp] theorem Table.wf_nil (d : α) : Table.wf d ([] : Table α) = true := rfl

/-- The canonical form of a list with a first entry. -/
theorem Table.wf_cons (d : α) (e : Nat × α) (t : Table α) :
    Table.wf d (e :: t) = true ↔ e.2 ≠ d ∧ (∀ x ∈ t, e.1 < x.1) ∧ Table.wf d t = true := by
  obtain ⟨k, v⟩ := e
  simp [Table.wf, and_assoc]

/-- The canonical form: no entry holds the value of an unlisted number, and the numbers rise. -/
theorem Table.wf_iff (d : α) (t : Table α) :
    Table.wf d t = true ↔ (∀ e ∈ t, e.2 ≠ d) ∧ t.Pairwise (fun a b => a.1 < b.1) := by
  induction t with
  | nil => simp
  | cons e t ih =>
    rw [Table.wf_cons, ih]
    constructor
    · rintro ⟨h1, h2, h3, h4⟩
      exact ⟨by intro x hx; rcases List.mem_cons.mp hx with rfl | hx; exacts [h1, h3 x hx], List.pairwise_cons.mpr ⟨h2, h4⟩⟩
    · rintro ⟨h1, h2⟩
      have h2' := List.pairwise_cons.mp h2
      exact ⟨h1 e (by simp), h2'.1, fun x hx => h1 x (by simp [hx]), h2'.2⟩

theorem Table.mem_insert {n : Nat} {v : α} {t : Table α} {e : Nat × α} :
    e ∈ Table.insert n v t ↔ e = (n, v) ∨ e ∈ t := by
  induction t with
  | nil => simp [Table.insert]
  | cons x rest ih =>
    obtain ⟨k, w⟩ := x
    unfold Table.insert
    split
    · simp
    · simp [ih]; tauto

theorem Table.pairwise_insert {n : Nat} {v : α} {t : Table α} (hp : t.Pairwise (fun a b => a.1 < b.1))
    (h : ∀ e ∈ t, e.1 ≠ n) : (Table.insert n v t).Pairwise (fun a b => a.1 < b.1) := by
  induction t with
  | nil => simp [Table.insert]
  | cons x rest ih =>
    obtain ⟨k, w⟩ := x
    have hp' := List.pairwise_cons.mp hp
    have hk : k ≠ n := h (k, w) (by simp)
    unfold Table.insert
    split
    · next hlt =>
      refine List.pairwise_cons.mpr ⟨?_, hp⟩
      intro e he
      rcases List.mem_cons.mp he with rfl | he
      · exact hlt
      · exact lt_trans hlt (hp'.1 e he)
    · next hnlt =>
      refine List.pairwise_cons.mpr ⟨?_, ih hp'.2 (fun e he => h e (by simp [he]))⟩
      intro e he
      rcases Table.mem_insert.mp he with rfl | he
      · simp only; omega
      · exact hp'.1 e he

/-- A set keeps the canonical form. -/
theorem Table.wf_set (d : α) (t : Table α) (n : Nat) (v : α) (h : Table.wf d t = true) :
    Table.wf d (Table.set d t n v) = true := by
  rw [Table.wf_iff] at h ⊢
  obtain ⟨h1, h2⟩ := h
  have ho1 : ∀ e ∈ t.filter (fun e => decide (e.1 ≠ n)), e.2 ≠ d := fun e he => h1 e (List.mem_filter.mp he).1
  have ho2 : (t.filter (fun e => decide (e.1 ≠ n))).Pairwise (fun a b => a.1 < b.1) := h2.filter _
  unfold Table.set
  simp only
  split
  · exact ⟨ho1, ho2⟩
  · next hv =>
    refine ⟨?_, Table.pairwise_insert ho2 (fun e he => Table.mem_others he)⟩
    intro e he
    rcases Table.mem_insert.mp he with rfl | he
    · exact hv
    · exact ho1 e he

/-! ### The store (R42) -/

/-- A read after a write to the same address gives the byte written. -/
@[simp] theorem Memory.read_write_same (m : List Host.Cell) (a : Nat) (b : Byte) :
    Memory.read (Memory.write m a b) a = b := Table.get_set_same _ _ _ _

/-- A write leaves every other address alone. -/
theorem Memory.read_write_ne (m : List Host.Cell) (a c : Nat) (b : Byte) (h : c ≠ a) :
    Memory.read (Memory.write m a b) c = Memory.read m c := Table.get_set_ne _ _ _ _ _ h

/-- A write keeps the canonical form. -/
theorem Memory.wf_write (m : List Host.Cell) (a : Nat) (b : Byte) (h : Memory.wf m = true) :
    Memory.wf (Memory.write m a b) = true := Table.wf_set _ _ _ _ h

theorem Memory.wf_foldl_write (l : List Nat) (at_ : Nat → Nat) (val : Nat → Byte) (m : List Host.Cell)
    (h : Memory.wf m = true) : Memory.wf (l.foldl (fun acc n => Memory.write acc (at_ n) (val n)) m) = true := by
  induction l generalizing m with
  | nil => exact h
  | cons n l ih => exact ih _ (Memory.wf_write _ _ _ h)

/-- Writing a word keeps the canonical form. -/
theorem Memory.wf_writeWord (m : List Host.Cell) (w : Nat) (v : BitVec 64) (h : Memory.wf m = true) :
    Memory.wf (Memory.writeWord m w v) = true := Memory.wf_foldl_write _ _ _ _ h

/-- The store at reset has the canonical form. -/
theorem Memory.wf_reset : Memory.wf State.reset.sc.store = true := rfl

theorem Memory.read_foldl_write_ne (l : List Nat) (at_ : Nat → Nat) (val : Nat → Byte) (m : List Host.Cell) (a : Nat)
    (h : ∀ n ∈ l, a ≠ at_ n) :
    Memory.read (l.foldl (fun acc n => Memory.write acc (at_ n) (val n)) m) a = Memory.read m a := by
  induction l generalizing m with
  | nil => rfl
  | cons n l ih =>
    have hn : a ≠ at_ n := h n (by simp)
    rw [List.foldl_cons, ih _ (fun k hk => h k (by simp [hk])), Memory.read_write_ne _ _ _ _ hn]

/-- Writing a word leaves every byte outside it alone. -/
theorem Memory.read_writeWord_ne (m : List Host.Cell) (w : Nat) (v : BitVec 64) (a : Nat) (h : a / 8 ≠ w) :
    Memory.read (Memory.writeWord m w v) a = Memory.read m a := by
  apply Memory.read_foldl_write_ne
  intro n hn
  have : n < 8 := List.mem_range.mp hn
  omega

end Sys2Proof.Machine
end

