-- ==== Sys2Proof/Laws/State.lean ====
section
/-! SUPPORT. What each update of the state leaves alone, one lemma for each field and update, and what a read after an
update of the same kind gives. -/

set_option Elab.async false

namespace Sys2Proof.Machine

/-! ### Four like things -/

@[simp] theorem Four.get_set_same {α : Type} (f : Four α) (k : Fin 4) (v : α) : (f.set k v).get k = v := by
  fin_cases k <;> rfl

theorem Four.get_set_ne {α : Type} (f : Four α) (k j : Fin 4) (v : α) (h : j ≠ k) : (f.set k v).get j = f.get j := by
  fin_cases k <;> fin_cases j <;> first | rfl | exact absurd rfl h

theorem Four.get_set {α : Type} (f : Four α) (k j : Fin 4) (v : α) :
    (f.set k v).get j = if j = k then v else f.get j := by
  split
  · next h => subst h; simp
  · next h => exact Four.get_set_ne f k j v h

@[simp] theorem Four.get_map {α : Type} (f : Four α) (g : α → α) (k : Fin 4) : (f.map g).get k = g (f.get k) := by
  fin_cases k <;> rfl

/-! ### setPort -/

@[simp] theorem State.setPort_phase (s : State) (p : Port) (v : PortState) : (s.setPort p v).phase = s.phase := by cases p <;> rfl
@[simp] theorem State.setPort_layouts (s : State) (p : Port) (v : PortState) : (s.setPort p v).layouts = s.layouts := by cases p <;> rfl
@[simp] theorem State.setPort_ru (s : State) (p : Port) (v : PortState) : (s.setPort p v).ru = s.ru := by cases p <;> rfl
@[simp] theorem State.setPort_sc (s : State) (p : Port) (v : PortState) : (s.setPort p v).sc = s.sc := by cases p <;> rfl
@[simp] theorem State.setPort_pdir (s : State) (p : Port) (v : PortState) : (s.setPort p v).pdir = s.pdir := by cases p <;> rfl
@[simp] theorem State.setPort_ie (s : State) (p : Port) (v : PortState) : (s.setPort p v).ie = s.ie := by cases p <;> rfl
@[simp] theorem State.setPort_gs (s : State) (p : Port) (v : PortState) : (s.setPort p v).gs = s.gs := by cases p <;> rfl
@[simp] theorem State.setPort_pln (s : State) (p : Port) (v : PortState) : (s.setPort p v).pln = s.pln := by cases p <;> rfl
@[simp] theorem State.setPort_pch (s : State) (p : Port) (v : PortState) : (s.setPort p v).pch = s.pch := by cases p <;> rfl
@[simp] theorem State.setPort_ce (s : State) (p : Port) (v : PortState) : (s.setPort p v).ce = s.ce := by cases p <;> rfl
@[simp] theorem State.setPort_sel (s : State) (p : Port) (v : PortState) : (s.setPort p v).sel = s.sel := by cases p <;> rfl
@[simp] theorem State.setPort_clock (s : State) (p : Port) (v : PortState) : (s.setPort p v).clock = s.clock := by cases p <;> rfl
@[simp] theorem State.setPort_pending (s : State) (p : Port) (v : PortState) : (s.setPort p v).pending = s.pending := by cases p <;> rfl

/-! ### setLayout -/

@[simp] theorem State.setLayout_phase (s : State) (n : Nat) (v : LayoutRecord) : (s.setLayout n v).phase = s.phase := rfl
@[simp] theorem State.setLayout_liu (s : State) (n : Nat) (v : LayoutRecord) : (s.setLayout n v).liu = s.liu := rfl
@[simp] theorem State.setLayout_ru (s : State) (n : Nat) (v : LayoutRecord) : (s.setLayout n v).ru = s.ru := rfl
@[simp] theorem State.setLayout_sc (s : State) (n : Nat) (v : LayoutRecord) : (s.setLayout n v).sc = s.sc := rfl
@[simp] theorem State.setLayout_pdir (s : State) (n : Nat) (v : LayoutRecord) : (s.setLayout n v).pdir = s.pdir := rfl
@[simp] theorem State.setLayout_ie (s : State) (n : Nat) (v : LayoutRecord) : (s.setLayout n v).ie = s.ie := rfl
@[simp] theorem State.setLayout_gs (s : State) (n : Nat) (v : LayoutRecord) : (s.setLayout n v).gs = s.gs := rfl
@[simp] theorem State.setLayout_pln (s : State) (n : Nat) (v : LayoutRecord) : (s.setLayout n v).pln = s.pln := rfl
@[simp] theorem State.setLayout_pch (s : State) (n : Nat) (v : LayoutRecord) : (s.setLayout n v).pch = s.pch := rfl
@[simp] theorem State.setLayout_ce (s : State) (n : Nat) (v : LayoutRecord) : (s.setLayout n v).ce = s.ce := rfl
@[simp] theorem State.setLayout_sel (s : State) (n : Nat) (v : LayoutRecord) : (s.setLayout n v).sel = s.sel := rfl
@[simp] theorem State.setLayout_clock (s : State) (n : Nat) (v : LayoutRecord) : (s.setLayout n v).clock = s.clock := rfl
@[simp] theorem State.setLayout_pending (s : State) (n : Nat) (v : LayoutRecord) : (s.setLayout n v).pending = s.pending := rfl

/-! ### setClass -/

@[simp] theorem State.setClass_phase (s : State) (n : Nat) (v : ClassRecord) : (s.setClass n v).phase = s.phase := rfl
@[simp] theorem State.setClass_liu (s : State) (n : Nat) (v : ClassRecord) : (s.setClass n v).liu = s.liu := rfl
@[simp] theorem State.setClass_layouts (s : State) (n : Nat) (v : ClassRecord) : (s.setClass n v).layouts = s.layouts := rfl
@[simp] theorem State.setClass_sc (s : State) (n : Nat) (v : ClassRecord) : (s.setClass n v).sc = s.sc := rfl
@[simp] theorem State.setClass_pdir (s : State) (n : Nat) (v : ClassRecord) : (s.setClass n v).pdir = s.pdir := rfl
@[simp] theorem State.setClass_ie (s : State) (n : Nat) (v : ClassRecord) : (s.setClass n v).ie = s.ie := rfl
@[simp] theorem State.setClass_gs (s : State) (n : Nat) (v : ClassRecord) : (s.setClass n v).gs = s.gs := rfl
@[simp] theorem State.setClass_pln (s : State) (n : Nat) (v : ClassRecord) : (s.setClass n v).pln = s.pln := rfl
@[simp] theorem State.setClass_pch (s : State) (n : Nat) (v : ClassRecord) : (s.setClass n v).pch = s.pch := rfl
@[simp] theorem State.setClass_ce (s : State) (n : Nat) (v : ClassRecord) : (s.setClass n v).ce = s.ce := rfl
@[simp] theorem State.setClass_sel (s : State) (n : Nat) (v : ClassRecord) : (s.setClass n v).sel = s.sel := rfl
@[simp] theorem State.setClass_clock (s : State) (n : Nat) (v : ClassRecord) : (s.setClass n v).clock = s.clock := rfl
@[simp] theorem State.setClass_pending (s : State) (n : Nat) (v : ClassRecord) : (s.setClass n v).pending = s.pending := rfl

/-! ### setCluster -/

@[simp] theorem State.setCluster_phase (s : State) (n : Nat) (v : ClusterEntry) : (s.setCluster n v).phase = s.phase := rfl
@[simp] theorem State.setCluster_liu (s : State) (n : Nat) (v : ClusterEntry) : (s.setCluster n v).liu = s.liu := rfl
@[simp] theorem State.setCluster_layouts (s : State) (n : Nat) (v : ClusterEntry) : (s.setCluster n v).layouts = s.layouts := rfl
@[simp] theorem State.setCluster_ru (s : State) (n : Nat) (v : ClusterEntry) : (s.setCluster n v).ru = s.ru := rfl
@[simp] theorem State.setCluster_pdir (s : State) (n : Nat) (v : ClusterEntry) : (s.setCluster n v).pdir = s.pdir := rfl
@[simp] theorem State.setCluster_ie (s : State) (n : Nat) (v : ClusterEntry) : (s.setCluster n v).ie = s.ie := rfl
@[simp] theorem State.setCluster_gs (s : State) (n : Nat) (v : ClusterEntry) : (s.setCluster n v).gs = s.gs := rfl
@[simp] theorem State.setCluster_pln (s : State) (n : Nat) (v : ClusterEntry) : (s.setCluster n v).pln = s.pln := rfl
@[simp] theorem State.setCluster_pch (s : State) (n : Nat) (v : ClusterEntry) : (s.setCluster n v).pch = s.pch := rfl
@[simp] theorem State.setCluster_ce (s : State) (n : Nat) (v : ClusterEntry) : (s.setCluster n v).ce = s.ce := rfl
@[simp] theorem State.setCluster_sel (s : State) (n : Nat) (v : ClusterEntry) : (s.setCluster n v).sel = s.sel := rfl
@[simp] theorem State.setCluster_clock (s : State) (n : Nat) (v : ClusterEntry) : (s.setCluster n v).clock = s.clock := rfl
@[simp] theorem State.setCluster_pending (s : State) (n : Nat) (v : ClusterEntry) : (s.setCluster n v).pending = s.pending := rfl

/-! ### setEntry -/

@[simp] theorem State.setEntry_phase (s : State) (n : Nat) (v : DirEntry) : (s.setEntry n v).phase = s.phase := rfl
@[simp] theorem State.setEntry_liu (s : State) (n : Nat) (v : DirEntry) : (s.setEntry n v).liu = s.liu := rfl
@[simp] theorem State.setEntry_layouts (s : State) (n : Nat) (v : DirEntry) : (s.setEntry n v).layouts = s.layouts := rfl
@[simp] theorem State.setEntry_ru (s : State) (n : Nat) (v : DirEntry) : (s.setEntry n v).ru = s.ru := rfl
@[simp] theorem State.setEntry_sc (s : State) (n : Nat) (v : DirEntry) : (s.setEntry n v).sc = s.sc := rfl
@[simp] theorem State.setEntry_ie (s : State) (n : Nat) (v : DirEntry) : (s.setEntry n v).ie = s.ie := rfl
@[simp] theorem State.setEntry_gs (s : State) (n : Nat) (v : DirEntry) : (s.setEntry n v).gs = s.gs := rfl
@[simp] theorem State.setEntry_pln (s : State) (n : Nat) (v : DirEntry) : (s.setEntry n v).pln = s.pln := rfl
@[simp] theorem State.setEntry_pch (s : State) (n : Nat) (v : DirEntry) : (s.setEntry n v).pch = s.pch := rfl
@[simp] theorem State.setEntry_ce (s : State) (n : Nat) (v : DirEntry) : (s.setEntry n v).ce = s.ce := rfl
@[simp] theorem State.setEntry_sel (s : State) (n : Nat) (v : DirEntry) : (s.setEntry n v).sel = s.sel := rfl
@[simp] theorem State.setEntry_clock (s : State) (n : Nat) (v : DirEntry) : (s.setEntry n v).clock = s.clock := rfl
@[simp] theorem State.setEntry_pending (s : State) (n : Nat) (v : DirEntry) : (s.setEntry n v).pending = s.pending := rfl

/-! ### setSlot -/

@[simp] theorem State.setSlot_phase (s : State) (k : Fin 4) (v : Option UploadRecord) : (s.setSlot k v).phase = s.phase := rfl
@[simp] theorem State.setSlot_liu (s : State) (k : Fin 4) (v : Option UploadRecord) : (s.setSlot k v).liu = s.liu := rfl
@[simp] theorem State.setSlot_layouts (s : State) (k : Fin 4) (v : Option UploadRecord) : (s.setSlot k v).layouts = s.layouts := rfl
@[simp] theorem State.setSlot_ru (s : State) (k : Fin 4) (v : Option UploadRecord) : (s.setSlot k v).ru = s.ru := rfl
@[simp] theorem State.setSlot_sc (s : State) (k : Fin 4) (v : Option UploadRecord) : (s.setSlot k v).sc = s.sc := rfl
@[simp] theorem State.setSlot_pdir (s : State) (k : Fin 4) (v : Option UploadRecord) : (s.setSlot k v).pdir = s.pdir := rfl
@[simp] theorem State.setSlot_gs (s : State) (k : Fin 4) (v : Option UploadRecord) : (s.setSlot k v).gs = s.gs := rfl
@[simp] theorem State.setSlot_pln (s : State) (k : Fin 4) (v : Option UploadRecord) : (s.setSlot k v).pln = s.pln := rfl
@[simp] theorem State.setSlot_pch (s : State) (k : Fin 4) (v : Option UploadRecord) : (s.setSlot k v).pch = s.pch := rfl
@[simp] theorem State.setSlot_ce (s : State) (k : Fin 4) (v : Option UploadRecord) : (s.setSlot k v).ce = s.ce := rfl
@[simp] theorem State.setSlot_sel (s : State) (k : Fin 4) (v : Option UploadRecord) : (s.setSlot k v).sel = s.sel := rfl
@[simp] theorem State.setSlot_clock (s : State) (k : Fin 4) (v : Option UploadRecord) : (s.setSlot k v).clock = s.clock := rfl
@[simp] theorem State.setSlot_pending (s : State) (k : Fin 4) (v : Option UploadRecord) : (s.setSlot k v).pending = s.pending := rfl

/-! ### setChannel -/

@[simp] theorem State.setChannel_phase (s : State) (k : Fin 4) (v : Channel) : (s.setChannel k v).phase = s.phase := rfl
@[simp] theorem State.setChannel_liu (s : State) (k : Fin 4) (v : Channel) : (s.setChannel k v).liu = s.liu := rfl
@[simp] theorem State.setChannel_layouts (s : State) (k : Fin 4) (v : Channel) : (s.setChannel k v).layouts = s.layouts := rfl
@[simp] theorem State.setChannel_ru (s : State) (k : Fin 4) (v : Channel) : (s.setChannel k v).ru = s.ru := rfl
@[simp] theorem State.setChannel_sc (s : State) (k : Fin 4) (v : Channel) : (s.setChannel k v).sc = s.sc := rfl
@[simp] theorem State.setChannel_pdir (s : State) (k : Fin 4) (v : Channel) : (s.setChannel k v).pdir = s.pdir := rfl
@[simp] theorem State.setChannel_ie (s : State) (k : Fin 4) (v : Channel) : (s.setChannel k v).ie = s.ie := rfl
@[simp] theorem State.setChannel_gs (s : State) (k : Fin 4) (v : Channel) : (s.setChannel k v).gs = s.gs := rfl
@[simp] theorem State.setChannel_pln (s : State) (k : Fin 4) (v : Channel) : (s.setChannel k v).pln = s.pln := rfl
@[simp] theorem State.setChannel_ce (s : State) (k : Fin 4) (v : Channel) : (s.setChannel k v).ce = s.ce := rfl
@[simp] theorem State.setChannel_sel (s : State) (k : Fin 4) (v : Channel) : (s.setChannel k v).sel = s.sel := rfl
@[simp] theorem State.setChannel_clock (s : State) (k : Fin 4) (v : Channel) : (s.setChannel k v).clock = s.clock := rfl
@[simp] theorem State.setChannel_pending (s : State) (k : Fin 4) (v : Channel) : (s.setChannel k v).pending = s.pending := rfl

/-! ### putChannel -/

@[simp] theorem State.putChannel_phase (s : State) (k : Fin 4) (v : Channel) : (s.putChannel k v).phase = s.phase := rfl
@[simp] theorem State.putChannel_liu (s : State) (k : Fin 4) (v : Channel) : (s.putChannel k v).liu = s.liu := rfl
@[simp] theorem State.putChannel_layouts (s : State) (k : Fin 4) (v : Channel) : (s.putChannel k v).layouts = s.layouts := rfl
@[simp] theorem State.putChannel_ru (s : State) (k : Fin 4) (v : Channel) : (s.putChannel k v).ru = s.ru := rfl
@[simp] theorem State.putChannel_sc (s : State) (k : Fin 4) (v : Channel) : (s.putChannel k v).sc = s.sc := rfl
@[simp] theorem State.putChannel_pdir (s : State) (k : Fin 4) (v : Channel) : (s.putChannel k v).pdir = s.pdir := rfl
@[simp] theorem State.putChannel_ie (s : State) (k : Fin 4) (v : Channel) : (s.putChannel k v).ie = s.ie := rfl
@[simp] theorem State.putChannel_gs (s : State) (k : Fin 4) (v : Channel) : (s.putChannel k v).gs = s.gs := rfl
@[simp] theorem State.putChannel_pln (s : State) (k : Fin 4) (v : Channel) : (s.putChannel k v).pln = s.pln := rfl
@[simp] theorem State.putChannel_ce (s : State) (k : Fin 4) (v : Channel) : (s.putChannel k v).ce = s.ce := rfl
@[simp] theorem State.putChannel_sel (s : State) (k : Fin 4) (v : Channel) : (s.putChannel k v).sel = s.sel := rfl
@[simp] theorem State.putChannel_clock (s : State) (k : Fin 4) (v : Channel) : (s.putChannel k v).clock = s.clock := rfl
@[simp] theorem State.putChannel_pending (s : State) (k : Fin 4) (v : Channel) : (s.putChannel k v).pending = s.pending := rfl

/-! ### setPool -/

@[simp] theorem State.setPool_phase (s : State) (n : Nat) : (s.setPool n).phase = s.phase := rfl
@[simp] theorem State.setPool_liu (s : State) (n : Nat) : (s.setPool n).liu = s.liu := rfl
@[simp] theorem State.setPool_layouts (s : State) (n : Nat) : (s.setPool n).layouts = s.layouts := rfl
@[simp] theorem State.setPool_sc (s : State) (n : Nat) : (s.setPool n).sc = s.sc := rfl
@[simp] theorem State.setPool_pdir (s : State) (n : Nat) : (s.setPool n).pdir = s.pdir := rfl
@[simp] theorem State.setPool_ie (s : State) (n : Nat) : (s.setPool n).ie = s.ie := rfl
@[simp] theorem State.setPool_gs (s : State) (n : Nat) : (s.setPool n).gs = s.gs := rfl
@[simp] theorem State.setPool_pln (s : State) (n : Nat) : (s.setPool n).pln = s.pln := rfl
@[simp] theorem State.setPool_pch (s : State) (n : Nat) : (s.setPool n).pch = s.pch := rfl
@[simp] theorem State.setPool_ce (s : State) (n : Nat) : (s.setPool n).ce = s.ce := rfl
@[simp] theorem State.setPool_sel (s : State) (n : Nat) : (s.setPool n).sel = s.sel := rfl
@[simp] theorem State.setPool_clock (s : State) (n : Nat) : (s.setPool n).clock = s.clock := rfl
@[simp] theorem State.setPool_pending (s : State) (n : Nat) : (s.setPool n).pending = s.pending := rfl

/-! ### setWindow -/

@[simp] theorem State.setWindow_phase (s : State) (w : WindowState) : (s.setWindow w).phase = s.phase := rfl
@[simp] theorem State.setWindow_liu (s : State) (w : WindowState) : (s.setWindow w).liu = s.liu := rfl
@[simp] theorem State.setWindow_layouts (s : State) (w : WindowState) : (s.setWindow w).layouts = s.layouts := rfl
@[simp] theorem State.setWindow_ru (s : State) (w : WindowState) : (s.setWindow w).ru = s.ru := rfl
@[simp] theorem State.setWindow_sc (s : State) (w : WindowState) : (s.setWindow w).sc = s.sc := rfl
@[simp] theorem State.setWindow_pdir (s : State) (w : WindowState) : (s.setWindow w).pdir = s.pdir := rfl
@[simp] theorem State.setWindow_ie (s : State) (w : WindowState) : (s.setWindow w).ie = s.ie := rfl
@[simp] theorem State.setWindow_pln (s : State) (w : WindowState) : (s.setWindow w).pln = s.pln := rfl
@[simp] theorem State.setWindow_pch (s : State) (w : WindowState) : (s.setWindow w).pch = s.pch := rfl
@[simp] theorem State.setWindow_ce (s : State) (w : WindowState) : (s.setWindow w).ce = s.ce := rfl
@[simp] theorem State.setWindow_sel (s : State) (w : WindowState) : (s.setWindow w).sel = s.sel := rfl
@[simp] theorem State.setWindow_clock (s : State) (w : WindowState) : (s.setWindow w).clock = s.clock := rfl
@[simp] theorem State.setWindow_pending (s : State) (w : WindowState) : (s.setWindow w).pending = s.pending := rfl

/-! ### setGlyph -/

@[simp] theorem State.setGlyph_phase (s : State) (n : Nat) (g : Glyph) : (s.setGlyph n g).phase = s.phase := rfl
@[simp] theorem State.setGlyph_liu (s : State) (n : Nat) (g : Glyph) : (s.setGlyph n g).liu = s.liu := rfl
@[simp] theorem State.setGlyph_layouts (s : State) (n : Nat) (g : Glyph) : (s.setGlyph n g).layouts = s.layouts := rfl
@[simp] theorem State.setGlyph_ru (s : State) (n : Nat) (g : Glyph) : (s.setGlyph n g).ru = s.ru := rfl
@[simp] theorem State.setGlyph_sc (s : State) (n : Nat) (g : Glyph) : (s.setGlyph n g).sc = s.sc := rfl
@[simp] theorem State.setGlyph_pdir (s : State) (n : Nat) (g : Glyph) : (s.setGlyph n g).pdir = s.pdir := rfl
@[simp] theorem State.setGlyph_ie (s : State) (n : Nat) (g : Glyph) : (s.setGlyph n g).ie = s.ie := rfl
@[simp] theorem State.setGlyph_pln (s : State) (n : Nat) (g : Glyph) : (s.setGlyph n g).pln = s.pln := rfl
@[simp] theorem State.setGlyph_pch (s : State) (n : Nat) (g : Glyph) : (s.setGlyph n g).pch = s.pch := rfl
@[simp] theorem State.setGlyph_ce (s : State) (n : Nat) (g : Glyph) : (s.setGlyph n g).ce = s.ce := rfl
@[simp] theorem State.setGlyph_sel (s : State) (n : Nat) (g : Glyph) : (s.setGlyph n g).sel = s.sel := rfl
@[simp] theorem State.setGlyph_clock (s : State) (n : Nat) (g : Glyph) : (s.setGlyph n g).clock = s.clock := rfl
@[simp] theorem State.setGlyph_pending (s : State) (n : Nat) (g : Glyph) : (s.setGlyph n g).pending = s.pending := rfl

/-! ### setRescrub -/

@[simp] theorem State.setRescrub_phase (s : State) (l : List Nat) : (s.setRescrub l).phase = s.phase := rfl
@[simp] theorem State.setRescrub_liu (s : State) (l : List Nat) : (s.setRescrub l).liu = s.liu := rfl
@[simp] theorem State.setRescrub_layouts (s : State) (l : List Nat) : (s.setRescrub l).layouts = s.layouts := rfl
@[simp] theorem State.setRescrub_ru (s : State) (l : List Nat) : (s.setRescrub l).ru = s.ru := rfl
@[simp] theorem State.setRescrub_sc (s : State) (l : List Nat) : (s.setRescrub l).sc = s.sc := rfl
@[simp] theorem State.setRescrub_pdir (s : State) (l : List Nat) : (s.setRescrub l).pdir = s.pdir := rfl
@[simp] theorem State.setRescrub_ie (s : State) (l : List Nat) : (s.setRescrub l).ie = s.ie := rfl
@[simp] theorem State.setRescrub_gs (s : State) (l : List Nat) : (s.setRescrub l).gs = s.gs := rfl
@[simp] theorem State.setRescrub_pln (s : State) (l : List Nat) : (s.setRescrub l).pln = s.pln := rfl
@[simp] theorem State.setRescrub_pch (s : State) (l : List Nat) : (s.setRescrub l).pch = s.pch := rfl
@[simp] theorem State.setRescrub_ce (s : State) (l : List Nat) : (s.setRescrub l).ce = s.ce := rfl
@[simp] theorem State.setRescrub_clock (s : State) (l : List Nat) : (s.setRescrub l).clock = s.clock := rfl
@[simp] theorem State.setRescrub_pending (s : State) (l : List Nat) : (s.setRescrub l).pending = s.pending := rfl

/-! ### reserve -/

@[simp] theorem State.reserve_phase (s : State) (n : Nat) : (s.reserve n).phase = s.phase := rfl
@[simp] theorem State.reserve_liu (s : State) (n : Nat) : (s.reserve n).liu = s.liu := rfl
@[simp] theorem State.reserve_layouts (s : State) (n : Nat) : (s.reserve n).layouts = s.layouts := rfl
@[simp] theorem State.reserve_ru (s : State) (n : Nat) : (s.reserve n).ru = s.ru := rfl
@[simp] theorem State.reserve_pdir (s : State) (n : Nat) : (s.reserve n).pdir = s.pdir := rfl
@[simp] theorem State.reserve_ie (s : State) (n : Nat) : (s.reserve n).ie = s.ie := rfl
@[simp] theorem State.reserve_gs (s : State) (n : Nat) : (s.reserve n).gs = s.gs := rfl
@[simp] theorem State.reserve_pln (s : State) (n : Nat) : (s.reserve n).pln = s.pln := rfl
@[simp] theorem State.reserve_pch (s : State) (n : Nat) : (s.reserve n).pch = s.pch := rfl
@[simp] theorem State.reserve_ce (s : State) (n : Nat) : (s.reserve n).ce = s.ce := rfl
@[simp] theorem State.reserve_sel (s : State) (n : Nat) : (s.reserve n).sel = s.sel := rfl
@[simp] theorem State.reserve_clock (s : State) (n : Nat) : (s.reserve n).clock = s.clock := rfl
@[simp] theorem State.reserve_pending (s : State) (n : Nat) : (s.reserve n).pending = s.pending := rfl

/-! ### unreserve -/

@[simp] theorem State.unreserve_phase (s : State) (n : Nat) : (s.unreserve n).phase = s.phase := rfl
@[simp] theorem State.unreserve_liu (s : State) (n : Nat) : (s.unreserve n).liu = s.liu := rfl
@[simp] theorem State.unreserve_layouts (s : State) (n : Nat) : (s.unreserve n).layouts = s.layouts := rfl
@[simp] theorem State.unreserve_ru (s : State) (n : Nat) : (s.unreserve n).ru = s.ru := rfl
@[simp] theorem State.unreserve_pdir (s : State) (n : Nat) : (s.unreserve n).pdir = s.pdir := rfl
@[simp] theorem State.unreserve_ie (s : State) (n : Nat) : (s.unreserve n).ie = s.ie := rfl
@[simp] theorem State.unreserve_gs (s : State) (n : Nat) : (s.unreserve n).gs = s.gs := rfl
@[simp] theorem State.unreserve_pln (s : State) (n : Nat) : (s.unreserve n).pln = s.pln := rfl
@[simp] theorem State.unreserve_pch (s : State) (n : Nat) : (s.unreserve n).pch = s.pch := rfl
@[simp] theorem State.unreserve_ce (s : State) (n : Nat) : (s.unreserve n).ce = s.ce := rfl
@[simp] theorem State.unreserve_sel (s : State) (n : Nat) : (s.unreserve n).sel = s.sel := rfl
@[simp] theorem State.unreserve_clock (s : State) (n : Nat) : (s.unreserve n).clock = s.clock := rfl
@[simp] theorem State.unreserve_pending (s : State) (n : Nat) : (s.unreserve n).pending = s.pending := rfl

/-! ### writeByte -/

@[simp] theorem State.writeByte_phase (s : State) (a : Nat) (b : Byte) : (s.writeByte a b).phase = s.phase := rfl
@[simp] theorem State.writeByte_liu (s : State) (a : Nat) (b : Byte) : (s.writeByte a b).liu = s.liu := rfl
@[simp] theorem State.writeByte_layouts (s : State) (a : Nat) (b : Byte) : (s.writeByte a b).layouts = s.layouts := rfl
@[simp] theorem State.writeByte_ru (s : State) (a : Nat) (b : Byte) : (s.writeByte a b).ru = s.ru := rfl
@[simp] theorem State.writeByte_pdir (s : State) (a : Nat) (b : Byte) : (s.writeByte a b).pdir = s.pdir := rfl
@[simp] theorem State.writeByte_ie (s : State) (a : Nat) (b : Byte) : (s.writeByte a b).ie = s.ie := rfl
@[simp] theorem State.writeByte_gs (s : State) (a : Nat) (b : Byte) : (s.writeByte a b).gs = s.gs := rfl
@[simp] theorem State.writeByte_pln (s : State) (a : Nat) (b : Byte) : (s.writeByte a b).pln = s.pln := rfl
@[simp] theorem State.writeByte_pch (s : State) (a : Nat) (b : Byte) : (s.writeByte a b).pch = s.pch := rfl
@[simp] theorem State.writeByte_ce (s : State) (a : Nat) (b : Byte) : (s.writeByte a b).ce = s.ce := rfl
@[simp] theorem State.writeByte_sel (s : State) (a : Nat) (b : Byte) : (s.writeByte a b).sel = s.sel := rfl
@[simp] theorem State.writeByte_clock (s : State) (a : Nat) (b : Byte) : (s.writeByte a b).clock = s.clock := rfl
@[simp] theorem State.writeByte_pending (s : State) (a : Nat) (b : Byte) : (s.writeByte a b).pending = s.pending := rfl

/-! ### raisePages -/

@[simp] theorem State.raisePages_phase (s : State) : (s.raisePages).phase = s.phase := rfl
@[simp] theorem State.raisePages_liu (s : State) : (s.raisePages).liu = s.liu := rfl
@[simp] theorem State.raisePages_layouts (s : State) : (s.raisePages).layouts = s.layouts := rfl
@[simp] theorem State.raisePages_ru (s : State) : (s.raisePages).ru = s.ru := rfl
@[simp] theorem State.raisePages_sc (s : State) : (s.raisePages).sc = s.sc := rfl
@[simp] theorem State.raisePages_pdir (s : State) : (s.raisePages).pdir = s.pdir := rfl
@[simp] theorem State.raisePages_ie (s : State) : (s.raisePages).ie = s.ie := rfl
@[simp] theorem State.raisePages_pln (s : State) : (s.raisePages).pln = s.pln := rfl
@[simp] theorem State.raisePages_pch (s : State) : (s.raisePages).pch = s.pch := rfl
@[simp] theorem State.raisePages_ce (s : State) : (s.raisePages).ce = s.ce := rfl
@[simp] theorem State.raisePages_sel (s : State) : (s.raisePages).sel = s.sel := rfl
@[simp] theorem State.raisePages_clock (s : State) : (s.raisePages).clock = s.clock := rfl
@[simp] theorem State.raisePages_pending (s : State) : (s.raisePages).pending = s.pending := rfl

/-! ### countCorrection -/

@[simp] theorem State.countCorrection_phase (s : State) : (s.countCorrection).phase = s.phase := rfl
@[simp] theorem State.countCorrection_liu (s : State) : (s.countCorrection).liu = s.liu := rfl
@[simp] theorem State.countCorrection_layouts (s : State) : (s.countCorrection).layouts = s.layouts := rfl
@[simp] theorem State.countCorrection_ru (s : State) : (s.countCorrection).ru = s.ru := rfl
@[simp] theorem State.countCorrection_sc (s : State) : (s.countCorrection).sc = s.sc := rfl
@[simp] theorem State.countCorrection_pdir (s : State) : (s.countCorrection).pdir = s.pdir := rfl
@[simp] theorem State.countCorrection_ie (s : State) : (s.countCorrection).ie = s.ie := rfl
@[simp] theorem State.countCorrection_gs (s : State) : (s.countCorrection).gs = s.gs := rfl
@[simp] theorem State.countCorrection_pln (s : State) : (s.countCorrection).pln = s.pln := rfl
@[simp] theorem State.countCorrection_pch (s : State) : (s.countCorrection).pch = s.pch := rfl
@[simp] theorem State.countCorrection_ce (s : State) : (s.countCorrection).ce = s.ce := rfl
@[simp] theorem State.countCorrection_clock (s : State) : (s.countCorrection).clock = s.clock := rfl
@[simp] theorem State.countCorrection_pending (s : State) : (s.countCorrection).pending = s.pending := rfl

/-! ### Reads after updates -/

@[simp] theorem State.port_setPort_same (s : State) (p : Port) (v : PortState) : (s.setPort p v).port p = v := by
  cases p <;> simp [State.port, State.setPort]

theorem State.port_setPort (s : State) (p q : Port) (v : PortState) :
    (s.setPort p v).port q = if q = p then v else s.port q := by
  cases p <;> cases q <;> simp [State.port, State.setPort, Four.get_set]

theorem State.layout_setLayout (s : State) (n m : Nat) (v : LayoutRecord) :
    (s.setLayout n v).layout m = if m = n then v else s.layout m := Table.get_set _ _ _ _ _

theorem State.classAt_setClass (s : State) (n m : Nat) (v : ClassRecord) :
    (s.setClass n v).classAt m = if m = n then v else s.classAt m := Table.get_set _ _ _ _ _

theorem State.cluster_setCluster (s : State) (n m : Nat) (v : ClusterEntry) :
    (s.setCluster n v).cluster m = if m = n then v else s.cluster m := Table.get_set _ _ _ _ _

theorem State.entry_setEntry (s : State) (n m : Nat) (v : DirEntry) :
    (s.setEntry n v).entry m = if m = n then v else s.entry m := Table.get_set _ _ _ _ _

theorem State.slot_setSlot (s : State) (k j : Fin 4) (v : Option UploadRecord) :
    (s.setSlot k v).slot j = if j = k then v else s.slot j := Four.get_set _ _ _ _

theorem State.channel_setChannel (s : State) (k j : Fin 4) (v : Channel) :
    (s.setChannel k v).channel j = if j = k then v else s.channel j := Four.get_set _ _ _ _

theorem State.channel_putChannel (s : State) (k j : Fin 4) (v : Channel) :
    (s.putChannel k v).channel j
      = if j = k then { v with stallTimer := settleTimer (s.channel k) v } else s.channel j := Four.get_set _ _ _ _

theorem State.glyph_setGlyph (s : State) (n m : Nat) (g : Glyph) :
    (s.setGlyph n g).glyph m = if m = n then some g else s.glyph m :=
  Table.get_set (none : Option Glyph) s.gs.glyphs n m (some g)

@[simp] theorem State.poolFree_setClass (s : State) (n : Nat) (v : ClassRecord) :
    (s.setClass n v).ru.poolFree = s.ru.poolFree := rfl

@[simp] theorem State.poolFree_setPool (s : State) (n : Nat) : (s.setPool n).ru.poolFree = n := rfl

@[simp] theorem State.classAt_setPool (s : State) (n m : Nat) : (s.setPool n).classAt m = s.classAt m := rfl

/-! ### Reads of a block that an update leaves alone -/

theorem State.layout_congr (s t : State) (n : Nat) (h : t.layouts = s.layouts) : t.layout n = s.layout n := by simp only [State.layout, h]
theorem State.classAt_congr (s t : State) (n : Nat) (h : t.ru = s.ru) : t.classAt n = s.classAt n := by simp only [State.classAt, h]
theorem State.cluster_congr (s t : State) (n : Nat) (h : t.sc = s.sc) : t.cluster n = s.cluster n := by simp only [State.cluster, h]
theorem State.entry_congr (s t : State) (n : Nat) (h : t.pdir = s.pdir) : t.entry n = s.entry n := by simp only [State.entry, h]
theorem State.slot_congr (s t : State) (k : Fin 4) (h : t.ie = s.ie) : t.slot k = s.slot k := by simp only [State.slot, h]
theorem State.channel_congr (s t : State) (k : Fin 4) (h : t.pch = s.pch) : t.channel k = s.channel k := by simp only [State.channel, h]
theorem State.port_congr (s t : State) (q : Port) (h : t.liu = s.liu) : t.port q = s.port q := by cases q <;> simp only [State.port, h]
theorem State.glyph_congr (s t : State) (n : Nat) (h : t.gs = s.gs) : t.glyph n = s.glyph n := by simp only [State.glyph, h]

@[simp] theorem State.layout_setPort (s : State) (p : Port) (v : PortState) (m : Nat) : (s.setPort p v).layout m = s.layout m :=
  State.layout_congr _ _ _ (State.setPort_layouts _ _ _)
@[simp] theorem State.classAt_setPort (s : State) (p : Port) (v : PortState) (m : Nat) : (s.setPort p v).classAt m = s.classAt m :=
  State.classAt_congr _ _ _ (State.setPort_ru _ _ _)
@[simp] theorem State.cluster_setPort (s : State) (p : Port) (v : PortState) (m : Nat) : (s.setPort p v).cluster m = s.cluster m :=
  State.cluster_congr _ _ _ (State.setPort_sc _ _ _)
@[simp] theorem State.entry_setPort (s : State) (p : Port) (v : PortState) (m : Nat) : (s.setPort p v).entry m = s.entry m :=
  State.entry_congr _ _ _ (State.setPort_pdir _ _ _)
@[simp] theorem State.slot_setPort (s : State) (p : Port) (v : PortState) (j : Fin 4) : (s.setPort p v).slot j = s.slot j :=
  State.slot_congr _ _ _ (State.setPort_ie _ _ _)
@[simp] theorem State.channel_setPort (s : State) (p : Port) (v : PortState) (j : Fin 4) : (s.setPort p v).channel j = s.channel j :=
  State.channel_congr _ _ _ (State.setPort_pch _ _ _)
@[simp] theorem State.glyph_setPort (s : State) (p : Port) (v : PortState) (m : Nat) : (s.setPort p v).glyph m = s.glyph m :=
  State.glyph_congr _ _ _ (State.setPort_gs _ _ _)
@[simp] theorem State.classAt_setLayout (s : State) (n : Nat) (v : LayoutRecord) (m : Nat) : (s.setLayout n v).classAt m = s.classAt m :=
  State.classAt_congr _ _ _ (State.setLayout_ru _ _ _)
@[simp] theorem State.cluster_setLayout (s : State) (n : Nat) (v : LayoutRecord) (m : Nat) : (s.setLayout n v).cluster m = s.cluster m :=
  State.cluster_congr _ _ _ (State.setLayout_sc _ _ _)
@[simp] theorem State.entry_setLayout (s : State) (n : Nat) (v : LayoutRecord) (m : Nat) : (s.setLayout n v).entry m = s.entry m :=
  State.entry_congr _ _ _ (State.setLayout_pdir _ _ _)
@[simp] theorem State.slot_setLayout (s : State) (n : Nat) (v : LayoutRecord) (j : Fin 4) : (s.setLayout n v).slot j = s.slot j :=
  State.slot_congr _ _ _ (State.setLayout_ie _ _ _)
@[simp] theorem State.channel_setLayout (s : State) (n : Nat) (v : LayoutRecord) (j : Fin 4) : (s.setLayout n v).channel j = s.channel j :=
  State.channel_congr _ _ _ (State.setLayout_pch _ _ _)
@[simp] theorem State.port_setLayout (s : State) (n : Nat) (v : LayoutRecord) (q : Port) : (s.setLayout n v).port q = s.port q :=
  State.port_congr _ _ _ (State.setLayout_liu _ _ _)
@[simp] theorem State.glyph_setLayout (s : State) (n : Nat) (v : LayoutRecord) (m : Nat) : (s.setLayout n v).glyph m = s.glyph m :=
  State.glyph_congr _ _ _ (State.setLayout_gs _ _ _)
@[simp] theorem State.layout_setClass (s : State) (n : Nat) (v : ClassRecord) (m : Nat) : (s.setClass n v).layout m = s.layout m :=
  State.layout_congr _ _ _ (State.setClass_layouts _ _ _)
@[simp] theorem State.cluster_setClass (s : State) (n : Nat) (v : ClassRecord) (m : Nat) : (s.setClass n v).cluster m = s.cluster m :=
  State.cluster_congr _ _ _ (State.setClass_sc _ _ _)
@[simp] theorem State.entry_setClass (s : State) (n : Nat) (v : ClassRecord) (m : Nat) : (s.setClass n v).entry m = s.entry m :=
  State.entry_congr _ _ _ (State.setClass_pdir _ _ _)
@[simp] theorem State.slot_setClass (s : State) (n : Nat) (v : ClassRecord) (j : Fin 4) : (s.setClass n v).slot j = s.slot j :=
  State.slot_congr _ _ _ (State.setClass_ie _ _ _)
@[simp] theorem State.channel_setClass (s : State) (n : Nat) (v : ClassRecord) (j : Fin 4) : (s.setClass n v).channel j = s.channel j :=
  State.channel_congr _ _ _ (State.setClass_pch _ _ _)
@[simp] theorem State.port_setClass (s : State) (n : Nat) (v : ClassRecord) (q : Port) : (s.setClass n v).port q = s.port q :=
  State.port_congr _ _ _ (State.setClass_liu _ _ _)
@[simp] theorem State.glyph_setClass (s : State) (n : Nat) (v : ClassRecord) (m : Nat) : (s.setClass n v).glyph m = s.glyph m :=
  State.glyph_congr _ _ _ (State.setClass_gs _ _ _)
@[simp] theorem State.layout_setCluster (s : State) (n : Nat) (v : ClusterEntry) (m : Nat) : (s.setCluster n v).layout m = s.layout m :=
  State.layout_congr _ _ _ (State.setCluster_layouts _ _ _)
@[simp] theorem State.classAt_setCluster (s : State) (n : Nat) (v : ClusterEntry) (m : Nat) : (s.setCluster n v).classAt m = s.classAt m :=
  State.classAt_congr _ _ _ (State.setCluster_ru _ _ _)
@[simp] theorem State.entry_setCluster (s : State) (n : Nat) (v : ClusterEntry) (m : Nat) : (s.setCluster n v).entry m = s.entry m :=
  State.entry_congr _ _ _ (State.setCluster_pdir _ _ _)
@[simp] theorem State.slot_setCluster (s : State) (n : Nat) (v : ClusterEntry) (j : Fin 4) : (s.setCluster n v).slot j = s.slot j :=
  State.slot_congr _ _ _ (State.setCluster_ie _ _ _)
@[simp] theorem State.channel_setCluster (s : State) (n : Nat) (v : ClusterEntry) (j : Fin 4) : (s.setCluster n v).channel j = s.channel j :=
  State.channel_congr _ _ _ (State.setCluster_pch _ _ _)
@[simp] theorem State.port_setCluster (s : State) (n : Nat) (v : ClusterEntry) (q : Port) : (s.setCluster n v).port q = s.port q :=
  State.port_congr _ _ _ (State.setCluster_liu _ _ _)
@[simp] theorem State.glyph_setCluster (s : State) (n : Nat) (v : ClusterEntry) (m : Nat) : (s.setCluster n v).glyph m = s.glyph m :=
  State.glyph_congr _ _ _ (State.setCluster_gs _ _ _)
@[simp] theorem State.layout_setEntry (s : State) (n : Nat) (v : DirEntry) (m : Nat) : (s.setEntry n v).layout m = s.layout m :=
  State.layout_congr _ _ _ (State.setEntry_layouts _ _ _)
@[simp] theorem State.classAt_setEntry (s : State) (n : Nat) (v : DirEntry) (m : Nat) : (s.setEntry n v).classAt m = s.classAt m :=
  State.classAt_congr _ _ _ (State.setEntry_ru _ _ _)
@[simp] theorem State.cluster_setEntry (s : State) (n : Nat) (v : DirEntry) (m : Nat) : (s.setEntry n v).cluster m = s.cluster m :=
  State.cluster_congr _ _ _ (State.setEntry_sc _ _ _)
@[simp] theorem State.slot_setEntry (s : State) (n : Nat) (v : DirEntry) (j : Fin 4) : (s.setEntry n v).slot j = s.slot j :=
  State.slot_congr _ _ _ (State.setEntry_ie _ _ _)
@[simp] theorem State.channel_setEntry (s : State) (n : Nat) (v : DirEntry) (j : Fin 4) : (s.setEntry n v).channel j = s.channel j :=
  State.channel_congr _ _ _ (State.setEntry_pch _ _ _)
@[simp] theorem State.port_setEntry (s : State) (n : Nat) (v : DirEntry) (q : Port) : (s.setEntry n v).port q = s.port q :=
  State.port_congr _ _ _ (State.setEntry_liu _ _ _)
@[simp] theorem State.glyph_setEntry (s : State) (n : Nat) (v : DirEntry) (m : Nat) : (s.setEntry n v).glyph m = s.glyph m :=
  State.glyph_congr _ _ _ (State.setEntry_gs _ _ _)
@[simp] theorem State.layout_setSlot (s : State) (k : Fin 4) (v : Option UploadRecord) (m : Nat) : (s.setSlot k v).layout m = s.layout m :=
  State.layout_congr _ _ _ (State.setSlot_layouts _ _ _)
@[simp] theorem State.classAt_setSlot (s : State) (k : Fin 4) (v : Option UploadRecord) (m : Nat) : (s.setSlot k v).classAt m = s.classAt m :=
  State.classAt_congr _ _ _ (State.setSlot_ru _ _ _)
@[simp] theorem State.cluster_setSlot (s : State) (k : Fin 4) (v : Option UploadRecord) (m : Nat) : (s.setSlot k v).cluster m = s.cluster m :=
  State.cluster_congr _ _ _ (State.setSlot_sc _ _ _)
@[simp] theorem State.entry_setSlot (s : State) (k : Fin 4) (v : Option UploadRecord) (m : Nat) : (s.setSlot k v).entry m = s.entry m :=
  State.entry_congr _ _ _ (State.setSlot_pdir _ _ _)
@[simp] theorem State.channel_setSlot (s : State) (k : Fin 4) (v : Option UploadRecord) (j : Fin 4) : (s.setSlot k v).channel j = s.channel j :=
  State.channel_congr _ _ _ (State.setSlot_pch _ _ _)
@[simp] theorem State.port_setSlot (s : State) (k : Fin 4) (v : Option UploadRecord) (q : Port) : (s.setSlot k v).port q = s.port q :=
  State.port_congr _ _ _ (State.setSlot_liu _ _ _)
@[simp] theorem State.glyph_setSlot (s : State) (k : Fin 4) (v : Option UploadRecord) (m : Nat) : (s.setSlot k v).glyph m = s.glyph m :=
  State.glyph_congr _ _ _ (State.setSlot_gs _ _ _)
@[simp] theorem State.layout_setChannel (s : State) (k : Fin 4) (v : Channel) (m : Nat) : (s.setChannel k v).layout m = s.layout m :=
  State.layout_congr _ _ _ (State.setChannel_layouts _ _ _)
@[simp] theorem State.classAt_setChannel (s : State) (k : Fin 4) (v : Channel) (m : Nat) : (s.setChannel k v).classAt m = s.classAt m :=
  State.classAt_congr _ _ _ (State.setChannel_ru _ _ _)
@[simp] theorem State.cluster_setChannel (s : State) (k : Fin 4) (v : Channel) (m : Nat) : (s.setChannel k v).cluster m = s.cluster m :=
  State.cluster_congr _ _ _ (State.setChannel_sc _ _ _)
@[simp] theorem State.entry_setChannel (s : State) (k : Fin 4) (v : Channel) (m : Nat) : (s.setChannel k v).entry m = s.entry m :=
  State.entry_congr _ _ _ (State.setChannel_pdir _ _ _)
@[simp] theorem State.slot_setChannel (s : State) (k : Fin 4) (v : Channel) (j : Fin 4) : (s.setChannel k v).slot j = s.slot j :=
  State.slot_congr _ _ _ (State.setChannel_ie _ _ _)
@[simp] theorem State.port_setChannel (s : State) (k : Fin 4) (v : Channel) (q : Port) : (s.setChannel k v).port q = s.port q :=
  State.port_congr _ _ _ (State.setChannel_liu _ _ _)
@[simp] theorem State.glyph_setChannel (s : State) (k : Fin 4) (v : Channel) (m : Nat) : (s.setChannel k v).glyph m = s.glyph m :=
  State.glyph_congr _ _ _ (State.setChannel_gs _ _ _)
@[simp] theorem State.layout_putChannel (s : State) (k : Fin 4) (v : Channel) (m : Nat) : (s.putChannel k v).layout m = s.layout m :=
  State.layout_congr _ _ _ (State.putChannel_layouts _ _ _)
@[simp] theorem State.classAt_putChannel (s : State) (k : Fin 4) (v : Channel) (m : Nat) : (s.putChannel k v).classAt m = s.classAt m :=
  State.classAt_congr _ _ _ (State.putChannel_ru _ _ _)
@[simp] theorem State.cluster_putChannel (s : State) (k : Fin 4) (v : Channel) (m : Nat) : (s.putChannel k v).cluster m = s.cluster m :=
  State.cluster_congr _ _ _ (State.putChannel_sc _ _ _)
@[simp] theorem State.entry_putChannel (s : State) (k : Fin 4) (v : Channel) (m : Nat) : (s.putChannel k v).entry m = s.entry m :=
  State.entry_congr _ _ _ (State.putChannel_pdir _ _ _)
@[simp] theorem State.slot_putChannel (s : State) (k : Fin 4) (v : Channel) (j : Fin 4) : (s.putChannel k v).slot j = s.slot j :=
  State.slot_congr _ _ _ (State.putChannel_ie _ _ _)
@[simp] theorem State.port_putChannel (s : State) (k : Fin 4) (v : Channel) (q : Port) : (s.putChannel k v).port q = s.port q :=
  State.port_congr _ _ _ (State.putChannel_liu _ _ _)
@[simp] theorem State.glyph_putChannel (s : State) (k : Fin 4) (v : Channel) (m : Nat) : (s.putChannel k v).glyph m = s.glyph m :=
  State.glyph_congr _ _ _ (State.putChannel_gs _ _ _)
@[simp] theorem State.layout_setPool (s : State) (n : Nat) (m : Nat) : (s.setPool n).layout m = s.layout m :=
  State.layout_congr _ _ _ (State.setPool_layouts _ _)
@[simp] theorem State.cluster_setPool (s : State) (n : Nat) (m : Nat) : (s.setPool n).cluster m = s.cluster m :=
  State.cluster_congr _ _ _ (State.setPool_sc _ _)
@[simp] theorem State.entry_setPool (s : State) (n : Nat) (m : Nat) : (s.setPool n).entry m = s.entry m :=
  State.entry_congr _ _ _ (State.setPool_pdir _ _)
@[simp] theorem State.slot_setPool (s : State) (n : Nat) (j : Fin 4) : (s.setPool n).slot j = s.slot j :=
  State.slot_congr _ _ _ (State.setPool_ie _ _)
@[simp] theorem State.channel_setPool (s : State) (n : Nat) (j : Fin 4) : (s.setPool n).channel j = s.channel j :=
  State.channel_congr _ _ _ (State.setPool_pch _ _)
@[simp] theorem State.port_setPool (s : State) (n : Nat) (q : Port) : (s.setPool n).port q = s.port q :=
  State.port_congr _ _ _ (State.setPool_liu _ _)
@[simp] theorem State.glyph_setPool (s : State) (n : Nat) (m : Nat) : (s.setPool n).glyph m = s.glyph m :=
  State.glyph_congr _ _ _ (State.setPool_gs _ _)
@[simp] theorem State.layout_setWindow (s : State) (w : WindowState) (m : Nat) : (s.setWindow w).layout m = s.layout m :=
  State.layout_congr _ _ _ (State.setWindow_layouts _ _)
@[simp] theorem State.classAt_setWindow (s : State) (w : WindowState) (m : Nat) : (s.setWindow w).classAt m = s.classAt m :=
  State.classAt_congr _ _ _ (State.setWindow_ru _ _)
@[simp] theorem State.cluster_setWindow (s : State) (w : WindowState) (m : Nat) : (s.setWindow w).cluster m = s.cluster m :=
  State.cluster_congr _ _ _ (State.setWindow_sc _ _)
@[simp] theorem State.entry_setWindow (s : State) (w : WindowState) (m : Nat) : (s.setWindow w).entry m = s.entry m :=
  State.entry_congr _ _ _ (State.setWindow_pdir _ _)
@[simp] theorem State.slot_setWindow (s : State) (w : WindowState) (j : Fin 4) : (s.setWindow w).slot j = s.slot j :=
  State.slot_congr _ _ _ (State.setWindow_ie _ _)
@[simp] theorem State.channel_setWindow (s : State) (w : WindowState) (j : Fin 4) : (s.setWindow w).channel j = s.channel j :=
  State.channel_congr _ _ _ (State.setWindow_pch _ _)
@[simp] theorem State.port_setWindow (s : State) (w : WindowState) (q : Port) : (s.setWindow w).port q = s.port q :=
  State.port_congr _ _ _ (State.setWindow_liu _ _)
@[simp] theorem State.layout_setGlyph (s : State) (n : Nat) (g : Glyph) (m : Nat) : (s.setGlyph n g).layout m = s.layout m :=
  State.layout_congr _ _ _ (State.setGlyph_layouts _ _ _)
@[simp] theorem State.classAt_setGlyph (s : State) (n : Nat) (g : Glyph) (m : Nat) : (s.setGlyph n g).classAt m = s.classAt m :=
  State.classAt_congr _ _ _ (State.setGlyph_ru _ _ _)
@[simp] theorem State.cluster_setGlyph (s : State) (n : Nat) (g : Glyph) (m : Nat) : (s.setGlyph n g).cluster m = s.cluster m :=
  State.cluster_congr _ _ _ (State.setGlyph_sc _ _ _)
@[simp] theorem State.entry_setGlyph (s : State) (n : Nat) (g : Glyph) (m : Nat) : (s.setGlyph n g).entry m = s.entry m :=
  State.entry_congr _ _ _ (State.setGlyph_pdir _ _ _)
@[simp] theorem State.slot_setGlyph (s : State) (n : Nat) (g : Glyph) (j : Fin 4) : (s.setGlyph n g).slot j = s.slot j :=
  State.slot_congr _ _ _ (State.setGlyph_ie _ _ _)
@[simp] theorem State.channel_setGlyph (s : State) (n : Nat) (g : Glyph) (j : Fin 4) : (s.setGlyph n g).channel j = s.channel j :=
  State.channel_congr _ _ _ (State.setGlyph_pch _ _ _)
@[simp] theorem State.port_setGlyph (s : State) (n : Nat) (g : Glyph) (q : Port) : (s.setGlyph n g).port q = s.port q :=
  State.port_congr _ _ _ (State.setGlyph_liu _ _ _)
@[simp] theorem State.layout_setRescrub (s : State) (l : List Nat) (m : Nat) : (s.setRescrub l).layout m = s.layout m :=
  State.layout_congr _ _ _ (State.setRescrub_layouts _ _)
@[simp] theorem State.classAt_setRescrub (s : State) (l : List Nat) (m : Nat) : (s.setRescrub l).classAt m = s.classAt m :=
  State.classAt_congr _ _ _ (State.setRescrub_ru _ _)
@[simp] theorem State.cluster_setRescrub (s : State) (l : List Nat) (m : Nat) : (s.setRescrub l).cluster m = s.cluster m :=
  State.cluster_congr _ _ _ (State.setRescrub_sc _ _)
@[simp] theorem State.entry_setRescrub (s : State) (l : List Nat) (m : Nat) : (s.setRescrub l).entry m = s.entry m :=
  State.entry_congr _ _ _ (State.setRescrub_pdir _ _)
@[simp] theorem State.slot_setRescrub (s : State) (l : List Nat) (j : Fin 4) : (s.setRescrub l).slot j = s.slot j :=
  State.slot_congr _ _ _ (State.setRescrub_ie _ _)
@[simp] theorem State.channel_setRescrub (s : State) (l : List Nat) (j : Fin 4) : (s.setRescrub l).channel j = s.channel j :=
  State.channel_congr _ _ _ (State.setRescrub_pch _ _)
@[simp] theorem State.port_setRescrub (s : State) (l : List Nat) (q : Port) : (s.setRescrub l).port q = s.port q :=
  State.port_congr _ _ _ (State.setRescrub_liu _ _)
@[simp] theorem State.glyph_setRescrub (s : State) (l : List Nat) (m : Nat) : (s.setRescrub l).glyph m = s.glyph m :=
  State.glyph_congr _ _ _ (State.setRescrub_gs _ _)
@[simp] theorem State.layout_reserve (s : State) (n : Nat) (m : Nat) : (s.reserve n).layout m = s.layout m :=
  State.layout_congr _ _ _ (State.reserve_layouts _ _)
@[simp] theorem State.classAt_reserve (s : State) (n : Nat) (m : Nat) : (s.reserve n).classAt m = s.classAt m :=
  State.classAt_congr _ _ _ (State.reserve_ru _ _)
@[simp] theorem State.entry_reserve (s : State) (n : Nat) (m : Nat) : (s.reserve n).entry m = s.entry m :=
  State.entry_congr _ _ _ (State.reserve_pdir _ _)
@[simp] theorem State.slot_reserve (s : State) (n : Nat) (j : Fin 4) : (s.reserve n).slot j = s.slot j :=
  State.slot_congr _ _ _ (State.reserve_ie _ _)
@[simp] theorem State.channel_reserve (s : State) (n : Nat) (j : Fin 4) : (s.reserve n).channel j = s.channel j :=
  State.channel_congr _ _ _ (State.reserve_pch _ _)
@[simp] theorem State.port_reserve (s : State) (n : Nat) (q : Port) : (s.reserve n).port q = s.port q :=
  State.port_congr _ _ _ (State.reserve_liu _ _)
@[simp] theorem State.glyph_reserve (s : State) (n : Nat) (m : Nat) : (s.reserve n).glyph m = s.glyph m :=
  State.glyph_congr _ _ _ (State.reserve_gs _ _)
@[simp] theorem State.layout_unreserve (s : State) (n : Nat) (m : Nat) : (s.unreserve n).layout m = s.layout m :=
  State.layout_congr _ _ _ (State.unreserve_layouts _ _)
@[simp] theorem State.classAt_unreserve (s : State) (n : Nat) (m : Nat) : (s.unreserve n).classAt m = s.classAt m :=
  State.classAt_congr _ _ _ (State.unreserve_ru _ _)
@[simp] theorem State.entry_unreserve (s : State) (n : Nat) (m : Nat) : (s.unreserve n).entry m = s.entry m :=
  State.entry_congr _ _ _ (State.unreserve_pdir _ _)
@[simp] theorem State.slot_unreserve (s : State) (n : Nat) (j : Fin 4) : (s.unreserve n).slot j = s.slot j :=
  State.slot_congr _ _ _ (State.unreserve_ie _ _)
@[simp] theorem State.channel_unreserve (s : State) (n : Nat) (j : Fin 4) : (s.unreserve n).channel j = s.channel j :=
  State.channel_congr _ _ _ (State.unreserve_pch _ _)
@[simp] theorem State.port_unreserve (s : State) (n : Nat) (q : Port) : (s.unreserve n).port q = s.port q :=
  State.port_congr _ _ _ (State.unreserve_liu _ _)
@[simp] theorem State.glyph_unreserve (s : State) (n : Nat) (m : Nat) : (s.unreserve n).glyph m = s.glyph m :=
  State.glyph_congr _ _ _ (State.unreserve_gs _ _)
@[simp] theorem State.layout_writeByte (s : State) (a : Nat) (b : Byte) (m : Nat) : (s.writeByte a b).layout m = s.layout m :=
  State.layout_congr _ _ _ (State.writeByte_layouts _ _ _)
@[simp] theorem State.classAt_writeByte (s : State) (a : Nat) (b : Byte) (m : Nat) : (s.writeByte a b).classAt m = s.classAt m :=
  State.classAt_congr _ _ _ (State.writeByte_ru _ _ _)
@[simp] theorem State.entry_writeByte (s : State) (a : Nat) (b : Byte) (m : Nat) : (s.writeByte a b).entry m = s.entry m :=
  State.entry_congr _ _ _ (State.writeByte_pdir _ _ _)
@[simp] theorem State.slot_writeByte (s : State) (a : Nat) (b : Byte) (j : Fin 4) : (s.writeByte a b).slot j = s.slot j :=
  State.slot_congr _ _ _ (State.writeByte_ie _ _ _)
@[simp] theorem State.channel_writeByte (s : State) (a : Nat) (b : Byte) (j : Fin 4) : (s.writeByte a b).channel j = s.channel j :=
  State.channel_congr _ _ _ (State.writeByte_pch _ _ _)
@[simp] theorem State.port_writeByte (s : State) (a : Nat) (b : Byte) (q : Port) : (s.writeByte a b).port q = s.port q :=
  State.port_congr _ _ _ (State.writeByte_liu _ _ _)
@[simp] theorem State.glyph_writeByte (s : State) (a : Nat) (b : Byte) (m : Nat) : (s.writeByte a b).glyph m = s.glyph m :=
  State.glyph_congr _ _ _ (State.writeByte_gs _ _ _)
@[simp] theorem State.layout_raisePages (s : State) (m : Nat) : (s.raisePages).layout m = s.layout m :=
  State.layout_congr _ _ _ (State.raisePages_layouts _)
@[simp] theorem State.classAt_raisePages (s : State) (m : Nat) : (s.raisePages).classAt m = s.classAt m :=
  State.classAt_congr _ _ _ (State.raisePages_ru _)
@[simp] theorem State.cluster_raisePages (s : State) (m : Nat) : (s.raisePages).cluster m = s.cluster m :=
  State.cluster_congr _ _ _ (State.raisePages_sc _)
@[simp] theorem State.entry_raisePages (s : State) (m : Nat) : (s.raisePages).entry m = s.entry m :=
  State.entry_congr _ _ _ (State.raisePages_pdir _)
@[simp] theorem State.slot_raisePages (s : State) (j : Fin 4) : (s.raisePages).slot j = s.slot j :=
  State.slot_congr _ _ _ (State.raisePages_ie _)
@[simp] theorem State.channel_raisePages (s : State) (j : Fin 4) : (s.raisePages).channel j = s.channel j :=
  State.channel_congr _ _ _ (State.raisePages_pch _)
@[simp] theorem State.port_raisePages (s : State) (q : Port) : (s.raisePages).port q = s.port q :=
  State.port_congr _ _ _ (State.raisePages_liu _)
@[simp] theorem State.layout_countCorrection (s : State) (m : Nat) : (s.countCorrection).layout m = s.layout m :=
  State.layout_congr _ _ _ (State.countCorrection_layouts _)
@[simp] theorem State.classAt_countCorrection (s : State) (m : Nat) : (s.countCorrection).classAt m = s.classAt m :=
  State.classAt_congr _ _ _ (State.countCorrection_ru _)
@[simp] theorem State.cluster_countCorrection (s : State) (m : Nat) : (s.countCorrection).cluster m = s.cluster m :=
  State.cluster_congr _ _ _ (State.countCorrection_sc _)
@[simp] theorem State.entry_countCorrection (s : State) (m : Nat) : (s.countCorrection).entry m = s.entry m :=
  State.entry_congr _ _ _ (State.countCorrection_pdir _)
@[simp] theorem State.slot_countCorrection (s : State) (j : Fin 4) : (s.countCorrection).slot j = s.slot j :=
  State.slot_congr _ _ _ (State.countCorrection_ie _)
@[simp] theorem State.channel_countCorrection (s : State) (j : Fin 4) : (s.countCorrection).channel j = s.channel j :=
  State.channel_congr _ _ _ (State.countCorrection_pch _)
@[simp] theorem State.port_countCorrection (s : State) (q : Port) : (s.countCorrection).port q = s.port q :=
  State.port_congr _ _ _ (State.countCorrection_liu _)
@[simp] theorem State.glyph_countCorrection (s : State) (m : Nat) : (s.countCorrection).glyph m = s.glyph m :=
  State.glyph_congr _ _ _ (State.countCorrection_gs _)

end Sys2Proof.Machine
end

