-- ==== Sys2Proof/Laws/Ops.lean ====
section
/-! SUPPORT. What the shared operations can do, said once each: frames sent, orders taken, answers, tables of channels,
chains, and the statements' own predicates. -/

set_option Elab.async false

namespace Sys2Proof.Machine

/-! ### send -/

/-- All that sending a frame does: it waits on its port when the link is UP. -/
theorem State.port_send (s : State) (p : Port) (f : Frame) (q : Port) :
    (s.send p f).port q =
      if q = p then { s.port q with waiting := if (s.port q).up then (s.port q).waiting ++ [f] else (s.port q).waiting }
      else s.port q := by
  unfold State.send
  by_cases hq : q = p
  · subst hq
    by_cases hu : (s.port q).up = true
    · simp [hu]
    · simp only [Bool.not_eq_true] at hu
      simp [hu]
      cases h : s.port q; simp_all
  · by_cases hu : (s.port p).up = true
    · simp [hu, hq, State.port_setPort]
    · simp [hu, hq]

@[simp] theorem State.send_phase (s : State) (p : Port) (f : Frame) : (s.send p f).phase = s.phase := by
  unfold State.send; split <;> simp
@[simp] theorem State.send_layouts (s : State) (p : Port) (f : Frame) : (s.send p f).layouts = s.layouts := by
  unfold State.send; split <;> simp
@[simp] theorem State.send_ru (s : State) (p : Port) (f : Frame) : (s.send p f).ru = s.ru := by
  unfold State.send; split <;> simp
@[simp] theorem State.send_sc (s : State) (p : Port) (f : Frame) : (s.send p f).sc = s.sc := by
  unfold State.send; split <;> simp
@[simp] theorem State.send_pdir (s : State) (p : Port) (f : Frame) : (s.send p f).pdir = s.pdir := by
  unfold State.send; split <;> simp
@[simp] theorem State.send_ie (s : State) (p : Port) (f : Frame) : (s.send p f).ie = s.ie := by
  unfold State.send; split <;> simp
@[simp] theorem State.send_gs (s : State) (p : Port) (f : Frame) : (s.send p f).gs = s.gs := by
  unfold State.send; split <;> simp
@[simp] theorem State.send_pln (s : State) (p : Port) (f : Frame) : (s.send p f).pln = s.pln := by
  unfold State.send; split <;> simp
@[simp] theorem State.send_pch (s : State) (p : Port) (f : Frame) : (s.send p f).pch = s.pch := by
  unfold State.send; split <;> simp
@[simp] theorem State.send_ce (s : State) (p : Port) (f : Frame) : (s.send p f).ce = s.ce := by
  unfold State.send; split <;> simp
@[simp] theorem State.send_sel (s : State) (p : Port) (f : Frame) : (s.send p f).sel = s.sel := by
  unfold State.send; split <;> simp
@[simp] theorem State.send_clock (s : State) (p : Port) (f : Frame) : (s.send p f).clock = s.clock := by
  unfold State.send; split <;> simp
@[simp] theorem State.send_pending (s : State) (p : Port) (f : Frame) : (s.send p f).pending = s.pending := by
  unfold State.send; split <;> simp

/-- A notice is a frame sent with tag 0. -/
@[simp] theorem State.notice_eq (s : State) (p : Port) (n : Notice) (payload : Bytes) :
    s.notice p n payload = s.send p (noticeFrame n payload) := rfl

/-- A reply is a frame sent with the order's tag and code. -/
@[simp] theorem State.reply_eq (s : State) (p : Port) (tag : Byte) (o : Order) (status : Status) (fields : Bytes) :
    s.reply p tag o.code status fields = s.send p (replyFrame o tag status fields) := rfl

/-- Answering OK sends a reply. -/
@[simp] theorem State.ok_eq (s : State) (p : Port) (tag : Byte) (o : Order) (fields : Bytes) :
    s.ok ⟨p, tag, o.code⟩ fields = s.send p (replyFrame o tag .ok fields) := rfl

/-- Refusing an order sends a reply of a status alone. -/
@[simp] theorem State.refuse_eq (s : State) (p : Port) (tag : Byte) (o : Order) (status : Status) :
    s.refuse ⟨p, tag, o.code⟩ status = s.send p (replyFrame o tag status []) := rfl

/-! ### arrival -/

/-- All that an arrival does: it restarts the silence timer of its port. -/
theorem State.port_arrival (s : State) (p q : Port) :
    (s.arrival p).port q = if q = p then { s.port q with silence := some 100 } else s.port q := by
  unfold State.arrival
  by_cases hq : q = p
  · subst hq; simp
  · simp [hq, State.port_setPort]

@[simp] theorem State.arrival_phase (s : State) (p : Port) : (s.arrival p).phase = s.phase := by simp [State.arrival]
@[simp] theorem State.arrival_layouts (s : State) (p : Port) : (s.arrival p).layouts = s.layouts := by
  simp [State.arrival]
@[simp] theorem State.arrival_ru (s : State) (p : Port) : (s.arrival p).ru = s.ru := by simp [State.arrival]
@[simp] theorem State.arrival_sc (s : State) (p : Port) : (s.arrival p).sc = s.sc := by simp [State.arrival]
@[simp] theorem State.arrival_pdir (s : State) (p : Port) : (s.arrival p).pdir = s.pdir := by simp [State.arrival]
@[simp] theorem State.arrival_ie (s : State) (p : Port) : (s.arrival p).ie = s.ie := by simp [State.arrival]
@[simp] theorem State.arrival_gs (s : State) (p : Port) : (s.arrival p).gs = s.gs := by simp [State.arrival]
@[simp] theorem State.arrival_pln (s : State) (p : Port) : (s.arrival p).pln = s.pln := by simp [State.arrival]
@[simp] theorem State.arrival_pch (s : State) (p : Port) : (s.arrival p).pch = s.pch := by simp [State.arrival]
@[simp] theorem State.arrival_ce (s : State) (p : Port) : (s.arrival p).ce = s.ce := by simp [State.arrival]
@[simp] theorem State.arrival_sel (s : State) (p : Port) : (s.arrival p).sel = s.sel := by simp [State.arrival]
@[simp] theorem State.arrival_clock (s : State) (p : Port) : (s.arrival p).clock = s.clock := by simp [State.arrival]
@[simp] theorem State.arrival_pending (s : State) (p : Port) : (s.arrival p).pending = s.pending := by
  simp [State.arrival]

/-! ### Readers after send and arrival -/

@[simp] theorem State.layout_send (s : State) (p : Port) (f : Frame) (n : Nat) : (s.send p f).layout n = s.layout n :=
  State.layout_congr _ _ n (by simp)
@[simp] theorem State.classAt_send (s : State) (p : Port) (f : Frame) (n : Nat) :
    (s.send p f).classAt n = s.classAt n := State.classAt_congr _ _ n (by simp)
@[simp] theorem State.cluster_send (s : State) (p : Port) (f : Frame) (n : Nat) :
    (s.send p f).cluster n = s.cluster n := State.cluster_congr _ _ n (by simp)
@[simp] theorem State.entry_send (s : State) (p : Port) (f : Frame) (n : Nat) : (s.send p f).entry n = s.entry n :=
  State.entry_congr _ _ n (by simp)
@[simp] theorem State.slot_send (s : State) (p : Port) (f : Frame) (k : Fin 4) : (s.send p f).slot k = s.slot k :=
  State.slot_congr _ _ k (by simp)
@[simp] theorem State.channel_send (s : State) (p : Port) (f : Frame) (k : Fin 4) :
    (s.send p f).channel k = s.channel k := State.channel_congr _ _ k (by simp)
@[simp] theorem State.glyph_send (s : State) (p : Port) (f : Frame) (n : Nat) : (s.send p f).glyph n = s.glyph n :=
  State.glyph_congr _ _ n (by simp)

@[simp] theorem State.layout_arrival (s : State) (p : Port) (n : Nat) : (s.arrival p).layout n = s.layout n :=
  State.layout_congr _ _ n (by simp)
@[simp] theorem State.classAt_arrival (s : State) (p : Port) (n : Nat) : (s.arrival p).classAt n = s.classAt n :=
  State.classAt_congr _ _ n (by simp)
@[simp] theorem State.cluster_arrival (s : State) (p : Port) (n : Nat) : (s.arrival p).cluster n = s.cluster n :=
  State.cluster_congr _ _ n (by simp)
@[simp] theorem State.entry_arrival (s : State) (p : Port) (n : Nat) : (s.arrival p).entry n = s.entry n :=
  State.entry_congr _ _ n (by simp)
@[simp] theorem State.slot_arrival (s : State) (p : Port) (k : Fin 4) : (s.arrival p).slot k = s.slot k :=
  State.slot_congr _ _ k (by simp)
@[simp] theorem State.channel_arrival (s : State) (p : Port) (k : Fin 4) : (s.arrival p).channel k = s.channel k :=
  State.channel_congr _ _ k (by simp)
@[simp] theorem State.glyph_arrival (s : State) (p : Port) (n : Nat) : (s.arrival p).glyph n = s.glyph n :=
  State.glyph_congr _ _ n (by simp)

/-! ### Binding counts -/

@[simp] theorem State.release?_liu (s : State) (n : Option Nat) : (s.release? n).liu = s.liu := by cases n <;> rfl
@[simp] theorem State.release?_ru (s : State) (n : Option Nat) : (s.release? n).ru = s.ru := by cases n <;> rfl
@[simp] theorem State.release?_pdir (s : State) (n : Option Nat) : (s.release? n).pdir = s.pdir := by cases n <;> rfl
@[simp] theorem State.classAt_release? (s : State) (n : Option Nat) (c : Nat) :
    (s.release? n).classAt c = s.classAt c := by cases n <;> rfl
@[simp] theorem State.bind_liu (s : State) (n : Nat) : (s.bind n).liu = s.liu := rfl
@[simp] theorem State.bind_ru (s : State) (n : Nat) : (s.bind n).ru = s.ru := rfl
@[simp] theorem State.bind_pdir (s : State) (n : Nat) : (s.bind n).pdir = s.pdir := rfl
@[simp] theorem State.classAt_bind (s : State) (n c : Nat) : (s.bind n).classAt c = s.classAt c := rfl

/-- All that a release request does (R14). -/
theorem State.layout_release? (s : State) (n : Option Nat) (m : Nat) :
    (s.release? n).layout m =
      { s.layout m with bindings := (s.layout m).bindings - (if n = some m then 1 else 0) } := by
  cases n with
  | none => simp [State.release?]
  | some n =>
    simp only [State.release?, State.release, State.layout_setLayout, Option.some.injEq]
    by_cases h : m = n
    · subst h; simp
    · simp [h, Ne.symm h]

/-- All that a bind request does (R13). -/
theorem State.layout_bind (s : State) (n m : Nat) :
    (s.bind n).layout m = { s.layout m with bindings := (s.layout m).bindings + (if m = n then 1 else 0) } := by
  simp only [State.bind, State.layout_setLayout]
  by_cases h : m = n
  · subst h; simp
  · simp [h]

/-- Readiness is judged from a layout's fields and the directory (R11). -/
theorem State.layoutReady_congr {s t : State} (n : Nat) (h : (t.layout n).fields = (s.layout n).fields)
    (hp : t.pdir = s.pdir) : t.layoutReady n = s.layoutReady n := by
  have he : ∀ r, t.entry r = s.entry r := fun r => State.entry_congr _ _ r hp
  simp only [State.layoutReady, h, State.live, he]

/-! ### What is the same in two states -/

theorem OnlyChanges.refl (blocks : List Block) (s : State) : OnlyChanges blocks s s :=
  ⟨rfl, rfl, rfl, fun b _ => by cases b <;> rfl⟩

theorem Block.same_trans {b : Block} {s t u : State} (h1 : b.same s t) (h2 : b.same t u) : b.same s u := by
  cases b <;> simp_all [Block.same]

/-- Two changes one after the other change no more than what either may change. -/
theorem OnlyChanges.trans {bs cs ds : List Block} {s t u : State} (h1 : OnlyChanges bs s t) (h2 : OnlyChanges cs t u)
    (hb : ∀ b ∈ bs, b ∈ ds) (hc : ∀ b ∈ cs, b ∈ ds) : OnlyChanges ds s u :=
  ⟨h2.1.trans h1.1, h2.2.1.trans h1.2.1, h2.2.2.1.trans h1.2.2.1, fun b hd =>
    Block.same_trans (h1.2.2.2 b (fun h => hd (hb b h))) (h2.2.2.2 b (fun h => hd (hc b h)))⟩

theorem OnlyChanges.mono {bs ds : List Block} {s t : State} (h : OnlyChanges bs s t) (hb : ∀ b ∈ bs, b ∈ ds) :
    OnlyChanges ds s t := ⟨h.1, h.2.1, h.2.2.1, fun b hd => h.2.2.2 b (fun hm => hd (hb b hm))⟩

theorem OnlyChanges.send (s : State) (p : Port) (f : Frame) : OnlyChanges [.liu] s (s.send p f) :=
  ⟨by simp, by simp, by simp, fun b hb => by cases b <;> simp_all [Block.same]⟩

theorem OnlyChanges.arrival (s : State) (p : Port) : OnlyChanges [.liu] s (s.arrival p) :=
  ⟨by simp, by simp, by simp, fun b hb => by cases b <;> simp_all [Block.same]⟩

/-! ### The ports -/

/-- Ports that gain nothing, where the LIU is the same. -/
theorem PortsGain.of_liu {s t : State} (h : t.liu = s.liu) : PortsGain none (fun _ => []) s t := fun q => by
  have : t.port q = s.port q := State.port_congr _ _ q h
  rw [this]; simp

/-- The LIU decides what the ports gain. -/
theorem PortsGain.congr {heard : Option Port} {sent : Port → List Frame} {s t u : State}
    (h : PortsGain heard sent s t) (hl : u.liu = t.liu) : PortsGain heard sent s u := fun q => by
  rw [State.port_congr _ _ q hl]; exact h q

/-- One more frame sent. -/
theorem PortsGain.send {heard : Option Port} {sent : Port → List Frame} {s t : State} (h : PortsGain heard sent s t)
    (p : Port) (f : Frame) : PortsGain heard (andThen sent (onPort p [f])) s (t.send p f) := fun q => by
  rw [State.port_send, h q]
  by_cases hq : q = p
  · subst hq
    by_cases hu : (s.port q).up = true
    · simp_all [andThen, onPort]
    · simp_all
  · simp [andThen, onPort, hq]

/-- What is sent may be said in another way. -/
theorem PortsGain.sent {heard : Option Port} {sent sent' : Port → List Frame} {s t : State}
    (h : PortsGain heard sent s t) (he : ∀ q, sent q = sent' q) : PortsGain heard sent' s t := fun q => by
  rw [h q, he q]

/-- The ports after an order's answer. -/
theorem PortsGain.answer (s : State) (p : Port) (f : Frame) :
    PortsGain (some p) (onPort p [f]) s ((s.arrival p).send p f) := fun q => by
  rw [State.port_send, State.port_arrival]
  by_cases hq : q = p
  · subst hq; simp [onPort]
  · simp [hq, Ne.symm hq, onPort]

/-- Frames sent for two spans of time. -/
theorem PortsGain.trans {heard : Option Port} {sent more : Port → List Frame} {s t u : State}
    (h : PortsGain heard sent s t) (h2 : PortsGain none more t u) : PortsGain heard (andThen sent more) s u := fun q => by
  rw [h2 q, h q]
  by_cases hu : (s.port q).up = true <;> simp [andThen, hu]

/-! ### Orders -/

/-- An order that reaches its block is what its block does with it after the arrival. -/
theorem takeOrder_of_admitted {o : Order} {p : Port} {payload : Bytes} {s : State} (h : Admitted o p payload s)
    (tag : Byte) (block : State → Result) : takeOrder o p tag payload s block = block (s.arrival p) := by
  obtain ⟨h1, h2, h3, h4, h5, h6⟩ := h
  have hr : ¬ (needsReady o = true ∧ s.phase ≠ .running) := fun hn => hn.2 (h5 hn.1)
  simp only [takeOrder, admission, State.takesFrame]
  simp [h1, h2, h3, h4, h6]
  rw [if_neg hr]

/-- An order refused after its arrival. -/
theorem Refused.intro (o : Order) (p : Port) (tag : Byte) (status : Status) (s : State) :
    Refused o p tag status s ((s.arrival p).send p (replyFrame o tag status [])) :=
  ⟨PortsGain.answer s p _, (OnlyChanges.arrival s p).trans (OnlyChanges.send _ _ _) (fun _ h => h) (fun _ h => h)⟩

/-- An order answered OK, with the change of other blocks that follows. -/
theorem Accepted.intro {o : Order} {p : Port} {tag : Byte} {fields : Bytes} {blocks : List Block} {s t : State}
    (hl : t.liu = ((s.arrival p).send p (replyFrame o tag .ok fields)).liu)
    (ho : OnlyChanges (.liu :: blocks) ((s.arrival p).send p (replyFrame o tag .ok fields)) t) :
    Accepted o p tag fields blocks s t := by
  refine ⟨(PortsGain.answer s p _).congr hl, ?_⟩
  refine OnlyChanges.trans (bs := [.liu]) (cs := .liu :: blocks) ?_ ho ?_ (fun _ h => h)
  · exact (OnlyChanges.arrival s p).trans (OnlyChanges.send _ _ _) (fun _ h => h) (fun _ h => h)
  · intro b hb; simp at hb; simp [hb]

/-- An order answered OK that changes nothing beside its port. -/
theorem Accepted.plain (o : Order) (p : Port) (tag : Byte) (fields : Bytes) (blocks : List Block) (s : State) :
    Accepted o p tag fields blocks s ((s.arrival p).send p (replyFrame o tag .ok fields)) :=
  Accepted.intro rfl (OnlyChanges.refl _ _)

/-- An order answered OK, whose effect sends frames of its own. -/
theorem AcceptedWith.intro {o : Order} {p : Port} {tag : Byte} {fields : Bytes} {also : Port → List Frame}
    {blocks : List Block} {s t : State}
    (hp : PortsGain none also ((s.arrival p).send p (replyFrame o tag .ok fields)) t)
    (ho : OnlyChanges (.liu :: blocks) ((s.arrival p).send p (replyFrame o tag .ok fields)) t) :
    AcceptedWith o p tag fields also blocks s t := by
  refine ⟨(PortsGain.answer s p _).trans hp, ?_⟩
  refine OnlyChanges.trans (bs := [.liu]) (cs := .liu :: blocks) ?_ ho ?_ (fun _ h => h)
  · exact (OnlyChanges.arrival s p).trans (OnlyChanges.send _ _ _) (fun _ h => h) (fun _ h => h)
  · intro b hb; simp at hb; simp [hb]

/-! ### Errors of words (R173) -/

/-- A word with no wrong bit reads clean. -/
@[simp] theorem readsAs_zero : readsAs 0#72 = none := by
  have h : wrongBits 0#72 = [] := by simp [wrongBits]
  simp [readsAs, h]

/-- A written byte leaves its word clean and every other word as it was. -/
theorem State.wordFault_writeByte (s : State) (a : Nat) (b : Byte) (w : Nat) :
    (s.writeByte a b).wordFault w = if w = a / 8 then none else s.wordFault w := by
  unfold State.wordFault State.writeByte
  simp only [Table.get_set]
  split <;> simp

/-- A word written back reads clean and every other word as it was. -/
theorem State.wordFault_writeBack (s : State) (v : Nat) (bit : Fin 72) (w : Nat) :
    (s.writeBack v bit).wordFault w = if w = v then none else s.wordFault w := by
  unfold State.wordFault State.writeBack
  simp only [Table.get_set]
  split <;> simp

end Sys2Proof.Machine
end

