-- ==== Sys2Proof/Laws/Effects.lean ====
section
/-! SUPPORT. For each shared operation, all that it can touch: the blocks it may change, and that it does nothing to the
ports but send. -/

set_option Elab.async false

namespace Sys2Proof.Machine

/-- All that an operation can touch: it sends frames and otherwise changes nothing of any port, and of the other blocks it
changes those listed at most. -/
def Touches (blocks : List Block) (s t : State) : Prop :=
  (∃ sent, PortsGain none sent s t) ∧ OnlyChanges (.liu :: blocks) s t

theorem Touches.refl (blocks : List Block) (s : State) : Touches blocks s s :=
  ⟨⟨_, PortsGain.of_liu rfl⟩, OnlyChanges.refl _ _⟩

theorem Touches.trans {blocks : List Block} {s t u : State} (h1 : Touches blocks s t) (h2 : Touches blocks t u) :
    Touches blocks s u := by
  obtain ⟨⟨a, ha⟩, hb⟩ := h1
  obtain ⟨⟨c, hc⟩, hd⟩ := h2
  exact ⟨⟨_, ha.trans hc⟩, hb.trans hd (fun _ h => h) (fun _ h => h)⟩

theorem Touches.mono {bs ds : List Block} {s t : State} (h : Touches bs s t) (hb : ∀ b ∈ bs, b ∈ ds := by decide) :
    Touches ds s t :=
  ⟨h.1, h.2.mono (fun b hm => by
    rcases List.mem_cons.mp hm with rfl | hm
    · exact List.mem_cons_self
    · exact List.mem_cons_of_mem _ (hb b hm))⟩

/-- A change with the LIU as it was. -/
theorem Touches.of_only {blocks : List Block} {s t : State} (hl : t.liu = s.liu) (h : OnlyChanges blocks s t) :
    Touches blocks s t := ⟨⟨_, PortsGain.of_liu hl⟩, h.mono (fun _ hm => List.mem_cons_of_mem _ hm)⟩

/-- A fold of an operation touches no more than the operation. -/
theorem Touches.foldl {α : Type} {blocks : List Block} {f : State → α → State} (h : ∀ s a, Touches blocks s (f s a))
    (l : List α) (s : State) : Touches blocks s (l.foldl f s) := by
  induction l generalizing s with
  | nil => exact Touches.refl _ _
  | cons a rest ih => exact (h s a).trans (ih _)

/-- A port of a DOWN link is as it was. -/
theorem Touches.down {blocks : List Block} {s t : State} (h : Touches blocks s t) {q : Port}
    (hq : (s.port q).up = false) : t.port q = s.port q := by
  obtain ⟨⟨sent, hs⟩, _⟩ := h
  rw [hs q, hq]; simp

/-- Link states, silence timers and frame-fault flags are as they were. -/
theorem Touches.port {blocks : List Block} {s t : State} (h : Touches blocks s t) (q : Port) :
    (t.port q).up = (s.port q).up ∧ (t.port q).silence = (s.port q).silence
      ∧ (t.port q).frameFault = (s.port q).frameFault := by
  obtain ⟨⟨sent, hs⟩, _⟩ := h
  rw [hs q]; simp

theorem Touches.phase {blocks : List Block} {s t : State} (h : Touches blocks s t) : t.phase = s.phase := h.2.1
theorem Touches.clock {blocks : List Block} {s t : State} (h : Touches blocks s t) : t.clock = s.clock := h.2.2.1
theorem Touches.pending {blocks : List Block} {s t : State} (h : Touches blocks s t) : t.pending = s.pending := h.2.2.2.1

/-! ### The single updates -/

theorem State.touches_send (s : State) (p : Port) (f : Frame) : Touches [] s (s.send p f) :=
  ⟨⟨_, ((PortsGain.of_liu rfl).send p f)⟩, OnlyChanges.send s p f⟩

theorem State.touches_notice (s : State) (p : Port) (n : Notice) (payload : Bytes) :
    Touches [] s (s.notice p n payload) := s.touches_send p _

theorem State.touches_setLayout (s : State) (n : Nat) (v : LayoutRecord) : Touches [.lt] s (s.setLayout n v) :=
  Touches.of_only rfl ⟨rfl, rfl, rfl, fun b hb => by cases b <;> first | rfl | simp at hb⟩

theorem State.touches_setClass (s : State) (n : Nat) (v : ClassRecord) : Touches [.ru] s (s.setClass n v) :=
  Touches.of_only rfl ⟨rfl, rfl, rfl, fun b hb => by cases b <;> first | rfl | simp at hb⟩

theorem State.touches_setPool (s : State) (n : Nat) : Touches [.ru] s (s.setPool n) :=
  Touches.of_only rfl ⟨rfl, rfl, rfl, fun b hb => by cases b <;> first | rfl | simp at hb⟩

theorem State.touches_setCluster (s : State) (n : Nat) (v : ClusterEntry) : Touches [.sc] s (s.setCluster n v) :=
  Touches.of_only rfl ⟨rfl, rfl, rfl, fun b hb => by cases b <;> first | rfl | simp at hb⟩

theorem State.touches_setEntry (s : State) (n : Nat) (v : DirEntry) : Touches [.pdir] s (s.setEntry n v) :=
  Touches.of_only rfl ⟨rfl, rfl, rfl, fun b hb => by cases b <;> first | rfl | simp at hb⟩

theorem State.touches_setSlot (s : State) (k : Fin 4) (v : Option UploadRecord) : Touches [.ie] s (s.setSlot k v) :=
  Touches.of_only rfl ⟨rfl, rfl, rfl, fun b hb => by cases b <;> first | rfl | simp at hb⟩

theorem State.touches_setChannel (s : State) (k : Fin 4) (v : Channel) : Touches [.pch] s (s.setChannel k v) :=
  Touches.of_only rfl ⟨rfl, rfl, rfl, fun b hb => by cases b <;> first | rfl | simp at hb⟩

theorem State.touches_putChannel (s : State) (k : Fin 4) (v : Channel) : Touches [.pch] s (s.putChannel k v) :=
  s.touches_setChannel k _

theorem State.touches_setWindow (s : State) (w : WindowState) : Touches [.gs] s (s.setWindow w) :=
  Touches.of_only rfl ⟨rfl, rfl, rfl, fun b hb => by cases b <;> first | rfl | simp at hb⟩

theorem State.touches_sc (s : State) (v : StoreController) : Touches [.sc] s { s with sc := v } :=
  Touches.of_only rfl ⟨rfl, rfl, rfl, fun b hb => by cases b <;> first | rfl | simp at hb⟩

theorem State.touches_ie (s : State) (v : IngestEngine) : Touches [.ie] s { s with ie := v } :=
  Touches.of_only rfl ⟨rfl, rfl, rfl, fun b hb => by cases b <;> first | rfl | simp at hb⟩

theorem State.touches_gs (s : State) (v : GlyphStore) : Touches [.gs] s { s with gs := v } :=
  Touches.of_only rfl ⟨rfl, rfl, rfl, fun b hb => by cases b <;> first | rfl | simp at hb⟩

theorem State.touches_pln (s : State) (v : Planner) : Touches [.pln] s { s with pln := v } :=
  Touches.of_only rfl ⟨rfl, rfl, rfl, fun b hb => by cases b <;> first | rfl | simp at hb⟩

theorem State.touches_ce (s : State) (v : Option Band) : Touches [.ce] s { s with ce := v } :=
  Touches.of_only rfl ⟨rfl, rfl, rfl, fun b hb => by cases b <;> first | rfl | simp at hb⟩

theorem State.touches_sel (s : State) (v : Scrubber) : Touches [.sel] s { s with sel := v } :=
  Touches.of_only rfl ⟨rfl, rfl, rfl, fun b hb => by cases b <;> first | rfl | simp at hb⟩

/-! ### Layouts and classes -/

theorem State.touches_release? (s : State) (n : Option Nat) : Touches [.lt] s (s.release? n) := by
  cases n with
  | none => exact Touches.refl _ _
  | some n => exact s.touches_setLayout n _

theorem State.touches_evalSwitch (s : State) (c : Nat) : Touches [.lt, .ru] s (s.evalSwitch c) := by
  unfold State.evalSwitch
  simp only
  split
  · exact Touches.refl _ _
  · split
    · exact ((s.touches_setClass c _).mono.trans ((State.touches_release? _ _).mono)).trans
        ((State.touches_notice _ _ _ _).mono)
    · exact Touches.refl _ _

theorem State.touches_reportReady (s : State) (n : Nat) : Touches [.lt, .ru] s (s.reportReady n) := by
  unfold State.reportReady
  split
  · refine Touches.foldl (fun s c => ?_) _ _
    split
    · exact s.touches_evalSwitch c
    · exact Touches.refl _ _
  · exact Touches.refl _ _

theorem State.touches_reportEntry (s : State) (h : Nat) : Touches [.lt, .ru] s (s.reportEntry h) := by
  unfold State.reportEntry
  refine Touches.foldl (fun s n => ?_) _ _
  split
  · exact s.touches_reportReady n
  · exact Touches.refl _ _

theorem State.touches_clearPending (s : State) (c : Nat) : Touches [.lt, .ru] s (s.clearPending c) :=
  (State.touches_release? _ _).mono.trans (State.touches_setClass _ _ _).mono

theorem State.touches_lowerInFlight (s : State) (c : Nat) : Touches [.lt, .ru] s (s.lowerInFlight c) := by
  unfold State.lowerInFlight
  simp only
  split
  · exact (s.touches_setClass c _).mono.trans (State.touches_evalSwitch _ _)
  · exact (s.touches_setClass c _).mono

/-! ### The store and the directory -/

theorem State.touches_freeCluster (s : State) (c : Nat) : Touches [.sc] s (s.freeCluster c) := by
  unfold State.freeCluster
  split
  · exact Touches.refl _ _
  split
  · exact (s.touches_setCluster c _).trans (State.touches_sc _ _)
  · exact (s.touches_setCluster c _).trans (State.touches_sc _ _)

theorem State.touches_freeChain (s : State) (first : Nat) : Touches [.sc] s (s.freeChain first) :=
  Touches.foldl (fun s c => s.touches_freeCluster c) _ _

theorem State.touches_relabelChain (s : State) (first : Nat) (kind : ChainKind) :
    Touches [.sc] s (s.relabelChain first kind) := Touches.foldl (fun s c => s.touches_setCluster c _) _ _

theorem State.touches_markCluster (s : State) (c : Nat) : Touches [.sc] s (s.markCluster c) := by
  unfold State.markCluster
  split
  · exact s.touches_setCluster c _
  · exact s.touches_setCluster c _
  · exact Touches.refl _ _
  · exact Touches.refl _ _

theorem State.touches_retireFree (s : State) (c : Nat) : Touches [.sc] s (s.retireFree c) :=
  (s.touches_setCluster c _).trans (State.touches_sc _ _)

theorem State.touches_freeImage (s : State) (image : Option ImageRecord) : Touches [.sc] s (s.freeImage image) := by
  cases image with
  | none => exact Touches.refl _ _
  | some r => exact s.touches_freeChain r.first

theorem State.touches_disclaim (s : State) (h : Nat) : Touches [.pdir] s (s.disclaim h) := by
  unfold State.disclaim
  simp only
  split
  · exact s.touches_setEntry h _
  · exact s.touches_setEntry h _

theorem State.touches_makeReady (s : State) (h : Nat) (e : DirEntry) (image : ImageRecord) :
    Touches [.lt, .ru, .pdir] s (s.makeReady h e image) := by
  unfold State.makeReady
  simp only
  split
  · exact (s.touches_setEntry h _).mono
  · exact (s.touches_setEntry h _).mono.trans (State.touches_reportEntry _ _).mono

theorem State.touches_swap (s : State) (h : Nat) : Touches [.lt, .ru, .sc, .pdir] s (s.swap h) := by
  unfold State.swap
  simp only
  split
  · exact Touches.refl _ _
  · exact ((((s.touches_freeImage _).mono.trans (State.touches_relabelChain _ _ _).mono).trans
      (State.touches_makeReady _ _ _ _).mono)).trans (State.touches_notice _ _ _ _).mono

theorem State.touches_unpin (s : State) (h : Nat) : Touches [.lt, .ru, .sc, .pdir] s (s.unpin h) := by
  unfold State.unpin
  simp only
  split
  · exact (s.touches_setEntry h _).mono.trans (State.touches_swap _ _)
  · exact (s.touches_setEntry h _).mono

/-! ### Uploads -/

theorem State.touches_closeSlot (s : State) (k : Fin 4) : Touches [.ie] s (s.closeSlot k) :=
  (s.touches_setSlot k none).trans (State.touches_ie _ _)

theorem State.touches_cleanUp (s : State) (k : Fin 4) (u : UploadRecord) :
    Touches [.sc, .pdir, .ie] s (s.cleanUp k u) := by
  unfold State.cleanUp
  simp only
  refine Touches.trans (t := match u.chain with | some (first, _) => s.freeChain first | none => s) ?_ ?_
  · split
    · exact (s.touches_freeChain _).mono
    · exact Touches.refl _ _
  · exact ((State.touches_sc _ _).mono.trans (State.touches_disclaim _ _).mono).trans (State.touches_closeSlot _ _).mono

theorem State.touches_uploadResult (s : State) (k : Fin 4) (u : UploadRecord) (o : UploadOutcome) (n : Nat) :
    Touches [] s (s.uploadResult k u o n) := s.touches_notice _ _ _

theorem State.touches_failUpload (s : State) (k : Fin 4) (u : UploadRecord) (o : UploadOutcome) :
    Touches [.sc, .pdir, .ie] s (s.failUpload k u o) :=
  (s.touches_cleanUp k u).trans (State.touches_uploadResult _ _ _ _ _).mono

theorem State.touches_abandonUploads (s : State) : Touches [.sc, .pdir, .ie] s s.abandonUploads := by
  unfold State.abandonUploads
  exact Touches.foldl (fun s (ku : Fin 4 × UploadRecord) => s.touches_cleanUp ku.1 ku.2) _ _

theorem State.touches_handOver (s : State) (k : Fin 4) (u : UploadRecord) :
    Touches [.lt, .ru, .sc, .pdir, .ie] s (s.handOver k u) := by
  unfold State.handOver
  simp only
  have h0 := s.touches_closeSlot k
  generalize s.closeSlot k = s1 at h0 ⊢
  refine Touches.trans h0.mono ?_
  split
  · have h1 := s1.touches_relabelChain u.image.first .current
    generalize s1.relabelChain u.image.first .current = s2 at h1 ⊢
    exact (h1.mono.trans (State.touches_makeReady _ _ _ _).mono).trans (State.touches_uploadResult _ _ _ _ _).mono
  · split
    · have h1 := s1.touches_relabelChain u.image.first .current
      generalize s1.relabelChain u.image.first .current = s2 at h1 ⊢
      have h2 := s2.touches_freeImage (s.entry u.handle).image
      generalize s2.freeImage (s.entry u.handle).image = s3 at h2 ⊢
      exact ((h1.mono.trans h2.mono).trans (State.touches_makeReady _ _ _ _).mono).trans
        (State.touches_uploadResult _ _ _ _ _).mono
    · have h1 := s1.touches_relabelChain u.image.first .pending
      generalize s1.relabelChain u.image.first .pending = s2 at h1 ⊢
      exact (h1.mono.trans (State.touches_setEntry _ _ _).mono).trans (State.touches_uploadResult _ _ _ _ _).mono

theorem State.touches_deleteEntry (s : State) (h : Nat) (e : DirEntry) :
    Touches [.sc, .pdir, .ie] s (s.deleteEntry h e) := by
  unfold State.deleteEntry
  simp only
  split
  · exact (((s.touches_cleanUp _ _).trans (State.touches_freeImage _ _).mono).trans
      (State.touches_setEntry _ _ _).mono).trans (State.touches_uploadResult _ _ _ _ _).mono
  · exact (s.touches_freeImage _).mono.trans (State.touches_setEntry _ _ _).mono

/-! ### Plans and channels -/

theorem State.touches_lowerPages (s : State) : Touches [.gs] s s.lowerPages := by
  unfold State.lowerPages
  simp only
  split
  · exact ((s.touches_gs _).trans (State.touches_setWindow _ _)).trans (State.touches_notice _ _ _ _).mono
  · exact s.touches_gs _

theorem State.touches_returnPlan (s : State) (p : Snapshot) :
    Touches [.lt, .ru, .sc, .pdir, .gs] s (s.returnPlan p) :=
  ((Touches.foldl (fun s h => (s.touches_unpin h).mono) _ _).trans (State.touches_lowerInFlight _ _).mono).trans
    (State.touches_lowerPages _).mono

theorem State.touches_returnPlanQuietly (s : State) (p : Snapshot) :
    Touches [.ru, .pdir, .gs] s (s.returnPlanQuietly p) :=
  ((Touches.foldl (fun s h => (s.touches_setEntry h _).mono) _ _).trans (State.touches_setClass _ _ _).mono).trans
    (State.touches_lowerPages _).mono

theorem State.touches_takeRelease (s : State) (k : Fin 4) : Touches [.pch] s (s.takeRelease k) := by
  unfold State.takeRelease
  simp only
  split
  · split
    · split
      · exact s.touches_putChannel k _
      · exact Touches.refl _ _
    · split
      · exact s.touches_putChannel k _
      · exact Touches.refl _ _
    · exact Touches.refl _ _
  · exact Touches.refl _ _

theorem State.touches_trigger (s : State) (k : Fin 4) : Touches [.pch] s (s.trigger k) :=
  (s.touches_putChannel k _).trans (State.touches_takeRelease _ _)

theorem State.touches_recordPageDone (s : State) (k : Fin 4) (d : PageDone) : Touches [.pch] s (s.recordPageDone k d) :=
  (s.touches_notice _ _ _).mono.trans (State.touches_putChannel _ _ _)

theorem State.touches_chain (s : State) (k : Fin 4) : Touches [.pch] s (s.chain_ k) := by
  unfold State.chain_
  refine Touches.foldl (fun s j => ?_) _ _
  simp only
  split
  · split
    · exact s.touches_putChannel j _
    · exact (s.touches_putChannel j _).trans (State.touches_takeRelease _ _)
  · exact Touches.refl _ _

theorem State.touches_endPage (s : State) (k : Fin 4) (p : Plan) (d : PageDone) :
    Touches [.lt, .ru, .sc, .pdir, .gs, .pch] s (s.endPage k p d) := by
  unfold State.endPage
  simp only
  refine Touches.trans ?_ (State.touches_takeRelease _ _).mono
  have h : Touches [.lt, .ru, .sc, .pdir, .gs, .pch] s (((s.recordPageDone k d).returnPlan p.snap).dropFirstJob k) :=
    ((s.touches_recordPageDone k d).mono.trans (State.touches_returnPlan _ _).mono).trans
      (State.touches_putChannel _ _ _).mono
  split
  · exact h.trans (State.touches_chain _ _).mono
  · exact h

theorem State.touches_endRendering (s : State) (k : Fin 4) (result : PageResult) :
    Touches [.lt, .ru, .sc, .pdir, .gs, .pch] s (s.endRendering k result) := by
  unfold State.endRendering
  split
  · exact s.touches_endPage _ _ _
  · exact Touches.refl _ _

theorem State.touches_cancelNotices (s : State) (k : Fin 4) (jobs : List Job) (cause : CancelCause) :
    Touches [] s (s.cancelNotices k jobs cause) := Touches.foldl (fun s _ => s.touches_notice _ _ _) _ _

theorem State.touches_cutBand (s : State) (k : Fin 4) : Touches [.ce] s (s.cutBand k) := by
  unfold State.cutBand
  split
  · exact s.touches_ce _
  · exact Touches.refl _ _

theorem State.touches_abortRendering (s : State) (k : Fin 4) : Touches [.pch] s (s.abortRendering k) := by
  unfold State.abortRendering
  split
  · exact s.touches_recordPageDone _ _
  · exact Touches.refl _ _

theorem State.touches_freePlanner (s : State) (k : Fin 4) : Touches [.pln] s (s.freePlanner k) := by
  unfold State.freePlanner
  split
  · exact s.touches_pln _
  · exact Touches.refl _ _

theorem State.touches_clearChannel (s : State) (k : Fin 4) (cause : CancelCause) :
    Touches [.pln, .pch, .ce] s (s.clearChannel k cause) :=
  ((((s.touches_cutBand k).mono.trans (State.touches_abortRendering _ _).mono).trans
    (State.touches_cancelNotices _ _ _ _).mono).trans (State.touches_putChannel _ _ _).mono).trans
    (State.touches_freePlanner _ _).mono

theorem State.touches_resetChannel (s : State) (k : Fin 4) (cause : CancelCause) (giveBack : State → Snapshot → State)
    (hg : ∀ s p, Touches [.lt, .ru, .sc, .pdir, .gs] s (giveBack s p)) :
    Touches [.lt, .ru, .sc, .pdir, .gs, .pln, .pch, .ce] s (s.resetChannel k cause giveBack) :=
  (s.touches_clearChannel k cause).mono.trans (Touches.foldl (fun s p => (hg s p).mono) _ _)

theorem State.touches_completePlanning (s : State) (k : Fin 4) : Touches [.pln, .pch] s (s.completePlanning k) := by
  unfold State.completePlanning
  simp only
  split
  · exact (s.touches_pln _).mono
  · exact ((s.touches_pln _).mono.trans (State.touches_putChannel _ _ _).mono).trans (State.touches_takeRelease _ _).mono

theorem State.touches_afterBand (s : State) (k : Fin 4) :
    Touches [.lt, .ru, .sc, .pdir, .gs, .pch] s (s.afterBand k) := by
  unfold State.afterBand
  simp only
  split
  · have h : ∀ c, Touches [.lt, .ru, .sc, .pdir, .gs, .pch] s (s.putChannel k c) := fun c =>
      (s.touches_putChannel k c).mono
    split
    · exact (h _).trans (State.touches_endRendering _ _ _)
    · split
      · split
        · exact (h _).trans (State.touches_endRendering _ _ _)
        · exact (h _).trans ((State.touches_putChannel _ _ _).mono.trans (State.touches_takeRelease _ _).mono)
      · split
        · exact (h _).trans (State.touches_takeRelease _ _).mono
        · exact h _
  · exact Touches.refl _ _

/-! ### Faults -/

theorem State.touches_offerLog (s : State) (r : LogRecord) : Touches [.sel] s (s.offerLog r) := by
  unfold State.offerLog
  split
  · exact (s.touches_sel _).trans (State.touches_notice _ _ _ _).mono
  · exact s.touches_sel _

theorem State.touches_coverReservations (s : State) (fuel : Nat) :
    Touches [.sc, .pdir, .ie] s (s.coverReservations fuel) := by
  induction fuel generalizing s with
  | zero => exact Touches.refl _ _
  | succ n ih =>
    unfold State.coverReservations
    split
    · split
      · exact (s.touches_failUpload _ _ _).trans (ih _)
      · exact Touches.refl _ _
    · exact Touches.refl _ _

theorem State.touches_flagPages (s : State) (h : Nat) : Touches [.pch] s (s.flagPages h) :=
  Touches.foldl (fun s k => s.touches_setChannel k _) _ _

theorem State.touches_currentFault (s : State) (h c : Nat) :
    Touches [.sc, .pdir, .pch] s (s.currentFault h c) := by
  unfold State.currentFault
  split
  · exact Touches.refl _ _
  · simp only
    refine Touches.trans ?_ (State.touches_notice _ _ _ _).mono
    refine Touches.trans ?_ (State.touches_notice _ _ _ _).mono
    refine Touches.trans ?_ (State.touches_flagPages _ _).mono
    refine Touches.trans (s.touches_markCluster c).mono ?_
    split
    · exact (State.touches_setEntry _ _ _).mono
    · exact Touches.refl _ _

theorem State.touches_pendingFault (s : State) (h c : Nat) : Touches [.sc, .pdir] s (s.pendingFault h c) := by
  unfold State.pendingFault
  simp only
  split
  · exact (s.touches_markCluster c).mono
  · exact (((s.touches_markCluster c).mono.trans (State.touches_setEntry _ _ _).mono).trans
      (State.touches_freeChain _ _).mono).trans (State.touches_notice _ _ _ _).mono

theorem State.touches_uploadFault (s : State) (h c : Nat) : Touches [.sc, .pdir, .ie] s (s.uploadFault h c) := by
  unfold State.uploadFault
  simp only
  split
  · exact (s.touches_markCluster c).mono.trans (State.touches_failUpload _ _ _ _)
  · exact (s.touches_markCluster c).mono

theorem State.touches_takeFault (s : State) (kind : FaultKind) (c offset : Nat) (syndrome : BitVec 8)
    (channel : Option (Fin 4)) :
    Touches [.sc, .pdir, .ie, .pch, .sel] s (s.takeFault kind c offset syndrome channel) := by
  unfold State.takeFault
  simp only
  refine Touches.trans ?_ (State.touches_offerLog _ _).mono
  split
  · exact (s.touches_currentFault _ _).mono
  · exact (s.touches_pendingFault _ _).mono
  · exact (s.touches_uploadFault _ _).mono
  · split
    · exact (s.touches_retireFree c).mono.trans (State.touches_coverReservations _ _).mono
    · exact Touches.refl _ _

theorem State.touches_scrubWord (s : State) (w : Nat) : Touches [.sc, .pdir, .ie, .pch, .sel] s (s.scrubWord w) := by
  unfold State.scrubWord
  split
  · exact Touches.refl _ _
  · exact (s.touches_sel _).mono.trans (State.touches_sc _ _).mono
  · exact s.touches_takeFault _ _ _ _ _

theorem State.touches_visit (s : State) (c : Nat) : Touches [.sc, .pdir, .ie, .pch, .sel] s (s.visit c) :=
  Touches.foldl (fun s w => s.touches_scrubWord w) _ _

theorem State.touches_offerRescrub (s : State) (c : Nat) : Touches [.sel] s (s.offerRescrub c) := by
  unfold State.offerRescrub
  split
  · exact Touches.refl _ _
  · exact s.touches_sel _

theorem State.touches_renderRead (s : State) (k : Fin 4) (w : Nat) :
    Touches [.sc, .pdir, .ie, .pch, .sel] s (s.renderRead k w).1 := by
  unfold State.renderRead
  simp only
  split
  · exact Touches.refl _ _
  · exact (s.touches_sel _).mono.trans (State.touches_offerRescrub _ _).mono
  · exact s.touches_takeFault _ _ _ _ _

theorem State.touches_readForCell (s : State) (cell w : Nat) :
    Touches [.sc, .pdir, .ie, .pch, .sel, .ce] s (s.readForCell cell w) := by
  unfold State.readForCell
  split
  · exact Touches.refl _ _
  · split
    · exact Touches.refl _ _
    · exact (s.touches_renderRead _ _).mono.trans (State.touches_ce _ _).mono

theorem State.touches_endBandIfSent (s : State) :
    Touches [.lt, .ru, .sc, .pdir, .gs, .pch, .ce] s s.endBandIfSent := by
  unfold State.endBandIfSent
  split
  · split
    · exact (s.touches_ce _).mono.trans (State.touches_afterBand _ _).mono
    · exact Touches.refl _ _
  · exact Touches.refl _ _

theorem State.touches_upset (s : State) (u : Upset) : Touches [.sc] s (s.upset u) := by
  unfold State.upset
  simp only
  split
  · exact s.touches_sc _
  · exact Touches.refl _ _

/-! ### The return of plans -/

/-- What the statements call the return of plans is what a page end and a channel reset do. -/
theorem State.givenBack_eq (s : State) (plans : List Snapshot) : s.givenBack plans = plans.foldl State.returnPlan s := rfl

@[simp] theorem State.givenBack_nil (s : State) : s.givenBack [] = s := rfl

@[simp] theorem State.givenBack_cons (s : State) (p : Snapshot) (plans : List Snapshot) :
    s.givenBack (p :: plans) = (s.returnPlan p).givenBack plans := rfl

/-- All that the return of plans can change. -/
theorem State.touches_givenBack (s : State) (plans : List Snapshot) :
    Touches [.lt, .ru, .sc, .pdir, .gs] s (s.givenBack plans) :=
  Touches.foldl (fun s p => s.touches_returnPlan p) _ _

end Sys2Proof.Machine
end

