-- ==== Sys2Proof/Laws/Orders.lean ====
section
/-! SUPPORT. For each order, the command's effect once the order reaches its block (R195, step 5): what the block does after
the arrival. -/

set_option Elab.async false

namespace Sys2Proof.Machine

theorem exec_defineLayout {port : Port} {payload : Bytes} {s : State} (h : Admitted .defineLayout port payload s) (tag : Byte) :
    exec (.defineLayout port tag payload) s =
      (let s := s.arrival port
       .next (s.defineLayout ⟨port, tag, Order.code .defineLayout⟩ (readLayout payload))) := by
  simp only [exec, execDefineLayout]
  exact takeOrder_of_admitted h _ _

theorem exec_deleteLayout {port : Port} {payload : Bytes} {s : State} (h : Admitted .deleteLayout port payload s) (tag : Byte) :
    exec (.deleteLayout port tag payload) s =
      (let s := s.arrival port
       .next (s.deleteLayout ⟨port, tag, Order.code .deleteLayout⟩ (byteAt payload 0))) := by
  simp only [exec, execDeleteLayout]
  exact takeOrder_of_admitted h _ _

theorem exec_queryLayout {port : Port} {payload : Bytes} {s : State} (h : Admitted .queryLayout port payload s) (tag : Byte) :
    exec (.queryLayout port tag payload) s =
      (let s := s.arrival port
       .next (s.queryLayout ⟨port, tag, Order.code .queryLayout⟩ (byteAt payload 0))) := by
  simp only [exec, execQueryLayout]
  exact takeOrder_of_admitted h _ _

theorem exec_openClass {port : Port} {payload : Bytes} {s : State} (h : Admitted .openClass port payload s) (tag : Byte) :
    exec (.openClass port tag payload) s =
      (let s := s.arrival port
       .next (s.openClass ⟨port, tag, Order.code .openClass⟩ (word16At payload 0) (byteAt payload 2))) := by
  simp only [exec, execOpenClass]
  exact takeOrder_of_admitted h _ _

theorem exec_addSubject {port : Port} {payload : Bytes} {s : State} (h : Admitted .addSubject port payload s) (tag : Byte) :
    exec (.addSubject port tag payload) s =
      (let s := s.arrival port
       .next (s.addSubject ⟨port, tag, Order.code .addSubject⟩ (readSubject payload))) := by
  simp only [exec, execAddSubject]
  exact takeOrder_of_admitted h _ _

theorem exec_updateSubject {port : Port} {payload : Bytes} {s : State} (h : Admitted .updateSubject port payload s) (tag : Byte) :
    exec (.updateSubject port tag payload) s =
      (let s := s.arrival port
       .next (s.updateSubject ⟨port, tag, Order.code .updateSubject⟩ (readSubject payload))) := by
  simp only [exec, execUpdateSubject]
  exact takeOrder_of_admitted h _ _

theorem exec_removeSubject {port : Port} {payload : Bytes} {s : State} (h : Admitted .removeSubject port payload s) (tag : Byte) :
    exec (.removeSubject port tag payload) s =
      (let s := s.arrival port
       .next (s.removeSubject ⟨port, tag, Order.code .removeSubject⟩ (word16At payload 0) (word24At payload 2))) := by
  simp only [exec, execRemoveSubject]
  exact takeOrder_of_admitted h _ _

theorem exec_setTitle {port : Port} {payload : Bytes} {s : State} (h : Admitted .setTitle port payload s) (tag : Byte) :
    exec (.setTitle port tag payload) s =
      (let s := s.arrival port
       .next (s.setTitle ⟨port, tag, Order.code .setTitle⟩ (word16At payload 0) (byteAt payload 2)
        (readTitle payload))) := by
  simp only [exec, execSetTitle]
  exact takeOrder_of_admitted h _ _

theorem exec_rebindClass {port : Port} {payload : Bytes} {s : State} (h : Admitted .rebindClass port payload s) (tag : Byte) :
    exec (.rebindClass port tag payload) s =
      (let s := s.arrival port
       .next (s.rebindClass ⟨port, tag, Order.code .rebindClass⟩ (word16At payload 0) (byteAt payload 2))) := by
  simp only [exec, execRebindClass]
  exact takeOrder_of_admitted h _ _

theorem exec_withdrawRebind {port : Port} {payload : Bytes} {s : State} (h : Admitted .withdrawRebind port payload s) (tag : Byte) :
    exec (.withdrawRebind port tag payload) s =
      (let s := s.arrival port
       .next (s.withdrawRebind ⟨port, tag, Order.code .withdrawRebind⟩ (word16At payload 0))) := by
  simp only [exec, execWithdrawRebind]
  exact takeOrder_of_admitted h _ _

theorem exec_freezeClass {port : Port} {payload : Bytes} {s : State} (h : Admitted .freezeClass port payload s) (tag : Byte) :
    exec (.freezeClass port tag payload) s =
      (let s := s.arrival port
       .next (s.freezeClass ⟨port, tag, Order.code .freezeClass⟩ (word16At payload 0))) := by
  simp only [exec, execFreezeClass]
  exact takeOrder_of_admitted h _ _

theorem exec_deleteClass {port : Port} {payload : Bytes} {s : State} (h : Admitted .deleteClass port payload s) (tag : Byte) :
    exec (.deleteClass port tag payload) s =
      (let s := s.arrival port
       .next (s.deleteClass ⟨port, tag, Order.code .deleteClass⟩ (word16At payload 0))) := by
  simp only [exec, execDeleteClass]
  exact takeOrder_of_admitted h _ _

theorem exec_queryClass {port : Port} {payload : Bytes} {s : State} (h : Admitted .queryClass port payload s) (tag : Byte) :
    exec (.queryClass port tag payload) s =
      (let s := s.arrival port
       .next (s.queryClass ⟨port, tag, Order.code .queryClass⟩ (word16At payload 0) (byteAt payload 2))) := by
  simp only [exec, execQueryClass]
  exact takeOrder_of_admitted h _ _

theorem exec_beginUpload {port : Port} {payload : Bytes} {s : State} (h : Admitted .beginUpload port payload s) (tag : Byte) :
    exec (.beginUpload port tag payload) s =
      (let s := s.arrival port
       .next (s.beginUpload ⟨port, tag, Order.code .beginUpload⟩ (readUpload payload))) := by
  simp only [exec, execBeginUpload]
  exact takeOrder_of_admitted h _ _

theorem exec_putPixels {port : Port} {payload : Bytes} {s : State} (h : Admitted .putPixels port payload s) (tag : Byte) :
    exec (.putPixels port tag payload) s =
      (let s := s.arrival port
       s.putPixels ⟨port, tag, Order.code .putPixels⟩ (readPixels payload)) := by
  simp only [exec, execPutPixels]
  exact takeOrder_of_admitted h _ _

theorem exec_endUpload {port : Port} {payload : Bytes} {s : State} (h : Admitted .endUpload port payload s) (tag : Byte) :
    exec (.endUpload port tag payload) s =
      (let s := s.arrival port
       .next (s.onSlot ⟨port, tag, Order.code .endUpload⟩ (byteAt payload 0) (word16At payload 1) State.endUploadOf)) := by
  simp only [exec, execEndUpload]
  exact takeOrder_of_admitted h _ _

theorem exec_cancelUpload {port : Port} {payload : Bytes} {s : State} (h : Admitted .cancelUpload port payload s) (tag : Byte) :
    exec (.cancelUpload port tag payload) s =
      (let s := s.arrival port
       .next (s.onSlot ⟨port, tag, Order.code .cancelUpload⟩ (byteAt payload 0) (word16At payload 1)
        (fun s k u => s.failUpload k u .cancelled))) := by
  simp only [exec, execCancelUpload]
  exact takeOrder_of_admitted h _ _

theorem exec_deletePortrait {port : Port} {payload : Bytes} {s : State} (h : Admitted .deletePortrait port payload s) (tag : Byte) :
    exec (.deletePortrait port tag payload) s =
      (let s := s.arrival port
       .next (s.deletePortrait ⟨port, tag, Order.code .deletePortrait⟩ (word16At payload 0))) := by
  simp only [exec, execDeletePortrait]
  exact takeOrder_of_admitted h _ _

theorem exec_queryPortrait {port : Port} {payload : Bytes} {s : State} (h : Admitted .queryPortrait port payload s) (tag : Byte) :
    exec (.queryPortrait port tag payload) s =
      (let s := s.arrival port
       .next (s.queryPortrait ⟨port, tag, Order.code .queryPortrait⟩ (word16At payload 0))) := by
  simp only [exec, execQueryPortrait]
  exact takeOrder_of_admitted h _ _

theorem exec_queryStore {port : Port} {payload : Bytes} {s : State} (h : Admitted .queryStore port payload s) (tag : Byte) :
    exec (.queryStore port tag payload) s =
      (let s := s.arrival port
       .next (s.ok ⟨port, tag, Order.code .queryStore⟩ s.bytesStoreReply)) := by
  simp only [exec, execQueryStore]
  exact takeOrder_of_admitted h _ _

theorem exec_openGlyphWindow {port : Port} {payload : Bytes} {s : State} (h : Admitted .openGlyphWindow port payload s) (tag : Byte) :
    exec (.openGlyphWindow port tag payload) s =
      (let s := s.arrival port
       let w := openedWindow s.gs.window s.gs.inFlight
      .next ((s.ok ⟨port, tag, Order.code .openGlyphWindow⟩ (bytes1 w.code)).setWindow w)) := by
  simp only [exec, execOpenGlyphWindow]
  exact takeOrder_of_admitted h _ _

theorem exec_closeGlyphWindow {port : Port} {payload : Bytes} {s : State} (h : Admitted .closeGlyphWindow port payload s) (tag : Byte) :
    exec (.closeGlyphWindow port tag payload) s =
      (let s := s.arrival port
       .next ((s.ok ⟨port, tag, Order.code .closeGlyphWindow⟩ []).setWindow .closed)) := by
  simp only [exec, execCloseGlyphWindow]
  exact takeOrder_of_admitted h _ _

theorem exec_loadGlyph {port : Port} {payload : Bytes} {s : State} (h : Admitted .loadGlyph port payload s) (tag : Byte) :
    exec (.loadGlyph port tag payload) s =
      (let s := s.arrival port
       .next (s.loadGlyph ⟨port, tag, Order.code .loadGlyph⟩ payload)) := by
  simp only [exec, execLoadGlyph]
  exact takeOrder_of_admitted h _ _

theorem exec_queryGlyph {port : Port} {payload : Bytes} {s : State} (h : Admitted .queryGlyph port payload s) (tag : Byte) :
    exec (.queryGlyph port tag payload) s =
      (let s := s.arrival port
       let code := word16At payload 0
      let from_ : Sender := ⟨port, tag, Order.code .queryGlyph⟩
      .next (if 4095 < code then s.refuse from_ .badField else s.ok from_ (s.bytesGlyphReply code))) := by
  simp only [exec, execQueryGlyph]
  exact takeOrder_of_admitted h _ _

theorem exec_configureChannel {k : Fin 4} {payload : Bytes} {s : State} (h : Admitted .configureChannel (.p k) payload s) (tag : Byte) :
    exec (.configureChannel (.p k) tag payload) s =
      (let s := s.arrival (.p k)
       let from_ : Sender := ⟨.p k, tag, Order.code .configureChannel⟩
       .next (s.configureChannel from_ k payload)) := by
  simp only [exec, execConfigureChannel, takePressOrder]
  exact takeOrder_of_admitted h _ _

theorem exec_enableChannel {k : Fin 4} {payload : Bytes} {s : State} (h : Admitted .enableChannel (.p k) payload s) (tag : Byte) :
    exec (.enableChannel (.p k) tag payload) s =
      (let s := s.arrival (.p k)
       let from_ : Sender := ⟨.p k, tag, Order.code .enableChannel⟩
       .next (State.enableChannel s from_ k)) := by
  simp only [exec, execEnableChannel, takePressOrder]
  exact takeOrder_of_admitted h _ _

theorem exec_disableChannel {k : Fin 4} {payload : Bytes} {s : State} (h : Admitted .disableChannel (.p k) payload s) (tag : Byte) :
    exec (.disableChannel (.p k) tag payload) s =
      (let s := s.arrival (.p k)
       let from_ : Sender := ⟨.p k, tag, Order.code .disableChannel⟩
       .next (State.disableChannel s from_ k)) := by
  simp only [exec, execDisableChannel, takePressOrder]
  exact takeOrder_of_admitted h _ _

theorem exec_queuePage {k : Fin 4} {payload : Bytes} {s : State} (h : Admitted .queuePage (.p k) payload s) (tag : Byte) :
    exec (.queuePage (.p k) tag payload) s =
      (let s := s.arrival (.p k)
       let from_ : Sender := ⟨.p k, tag, Order.code .queuePage⟩
       .next (s.queuePage from_ k (word16At payload 0) (byteAt payload 2) (byteAt payload 3))) := by
  simp only [exec, execQueuePage, takePressOrder]
  exact takeOrder_of_admitted h _ _

theorem exec_cancelPage {k : Fin 4} {payload : Bytes} {s : State} (h : Admitted .cancelPage (.p k) payload s) (tag : Byte) :
    exec (.cancelPage (.p k) tag payload) s =
      (let s := s.arrival (.p k)
       let from_ : Sender := ⟨.p k, tag, Order.code .cancelPage⟩
       .next (s.cancelPage from_ k (word16At payload 0) (byteAt payload 2))) := by
  simp only [exec, execCancelPage, takePressOrder]
  exact takeOrder_of_admitted h _ _

theorem exec_sheetReady {k : Fin 4} {payload : Bytes} {s : State} (h : Admitted .sheetReady (.p k) payload s) (tag : Byte) :
    exec (.sheetReady (.p k) tag payload) s =
      (let s := s.arrival (.p k)
       let from_ : Sender := ⟨.p k, tag, Order.code .sheetReady⟩
       .next (s.takeTrigger from_ k (decide ((s.channel k).source = .sheet)))) := by
  simp only [exec, execSheetReady, takePressOrder]
  exact takeOrder_of_admitted h _ _

theorem exec_start {port : Port} {payload : Bytes} {s : State} (h : Admitted .start port payload s) (tag : Byte) :
    exec (.start port tag payload) s =
      (let s := s.arrival port
       let from_ : Sender := ⟨port, tag, Order.code .start⟩
      match four? (byteAt payload 0) with
      | none => .next (s.refuse from_ .badField)
      | some k => .next (s.takeTrigger from_ k (s.channel k).source.startable)) := by
  simp only [exec, execStart]
  exact takeOrder_of_admitted h _ _

theorem exec_grantBands {k : Fin 4} {payload : Bytes} {s : State} (h : Admitted .grantBands (.p k) payload s) (tag : Byte) :
    exec (.grantBands (.p k) tag payload) s =
      (let s := s.arrival (.p k)
       let from_ : Sender := ⟨.p k, tag, Order.code .grantBands⟩
       .next (s.grantBands from_ k (byteAt payload 0))) := by
  simp only [exec, execGrantBands, takePressOrder]
  exact takeOrder_of_admitted h _ _

theorem exec_abortPage {k : Fin 4} {payload : Bytes} {s : State} (h : Admitted .abortPage (.p k) payload s) (tag : Byte) :
    exec (.abortPage (.p k) tag payload) s =
      (let s := s.arrival (.p k)
       let from_ : Sender := ⟨.p k, tag, Order.code .abortPage⟩
       .next (State.abortPage s from_ k)) := by
  simp only [exec, execAbortPage, takePressOrder]
  exact takeOrder_of_admitted h _ _

theorem exec_channelReset {k : Fin 4} {payload : Bytes} {s : State} (h : Admitted .channelReset (.p k) payload s) (tag : Byte) :
    exec (.channelReset (.p k) tag payload) s =
      (let s := s.arrival (.p k)
       let from_ : Sender := ⟨.p k, tag, Order.code .channelReset⟩
       .next ((s.ok from_ []).resetChannel k .channelReset State.returnPlan)) := by
  simp only [exec, execChannelReset, takePressOrder]
  exact takeOrder_of_admitted h _ _

theorem exec_queryChannel {port : Port} {payload : Bytes} {s : State} (h : Admitted .queryChannel port payload s) (tag : Byte) :
    exec (.queryChannel port tag payload) s =
      (let s := s.arrival port
       let from_ : Sender := ⟨port, tag, Order.code .queryChannel⟩
      match four? (byteAt payload 0) with
      | none => .next (s.refuse from_ .badField)
      | some k => .next (s.ok from_ (s.bytesChannelReply k))) := by
  simp only [exec, execQueryChannel]
  exact takeOrder_of_admitted h _ _

theorem exec_clearErrorLog {port : Port} {payload : Bytes} {s : State} (h : Admitted .clearErrorLog port payload s) (tag : Byte) :
    exec (.clearErrorLog port tag payload) s =
      (let s := s.arrival port
       let s := s.ok ⟨port, tag, Order.code .clearErrorLog⟩ []
      .next { s with sel := { s.sel with log := none, overflow := false } }) := by
  simp only [exec, execClearErrorLog]
  exact takeOrder_of_admitted h _ _

theorem exec_hallClear {port : Port} {payload : Bytes} {s : State} (h : Admitted .hallClear port payload s) (tag : Byte) :
    exec (.hallClear port tag payload) s =
      (let s := s.arrival port
       .next (s.ok ⟨port, tag, Order.code .hallClear⟩ []).hallClear) := by
  simp only [exec, execHallClear]
  exact takeOrder_of_admitted h _ _

theorem exec_queryLink {port : Port} {payload : Bytes} {s : State} (h : Admitted .queryLink port payload s) (tag : Byte) :
    exec (.queryLink port tag payload) s =
      (let s := s.arrival port
       let s := s.ok ⟨port, tag, Order.code .queryLink⟩ (s.bytesLinkReply port)
      .next (s.setPort port { s.port port with frameFault := false })) := by
  simp only [exec, execQueryLink]
  exact takeOrder_of_admitted h _ _

end Sys2Proof.Machine
end

