-- ==== Sys2Proof/Tests/Slice0.lean ====
section
/-! SUPPORT. Tests on small states: the well-formedness checks, the frames of the links, the spec's worked examples, one
command of each row, and for every statement with hypotheses a state and operands that meet them. -/

set_option Elab.async false

open Sys2Proof Sys2Proof.Machine

namespace Sys2Proof.Tests

/-! ### Small states -/

/-- An UP port with nothing waiting. -/
def upPort : PortState := { up := true, silence := some 100, frameFault := false, waiting := [] }

/-- The running part with every link UP. -/
def base : State :=
  { powerOn .running 0 [] with liu := { l := upPort, i := upPort, p := ⟨upPort, upPort, upPort, upPort⟩ } }

/-- The part during the store initialisation with every link UP. -/
def early : State := { base with phase := .initialising }

/-- The state a command answers; `base` where it stops. -/
def after (c : Instr) (s : State) : State := match exec c s with | .next t => t | _ => base

/-- The status byte of the first frame waiting on a port after a command, and its fields. -/
def answer (c : Instr) (p : Port) (s : State) : Option Bytes := (((after c s).port p).waiting.head?).map Frame.payload

/-- The codes of the frames waiting on a port after a command. -/
def sent (c : Instr) (p : Port) (s : State) : List (BitVec 16) := (((after c s).port p).waiting).map Frame.code

/-- A Define Layout payload with no placeholder and ellipsis code 10. -/
def layoutBytes (n w h c r g v cap t headRatio eyeRatio : Nat) : Bytes :=
  bytes1 n ++ bytes2 w ++ bytes2 h ++ bytes1 c ++ bytes1 r ++ bytes1 g ++ bytes1 v ++ bytes1 cap ++ bytes1 1 ++ bytes2 t
    ++ bytes1 2 ++ bytes1 headRatio ++ bytes1 eyeRatio ++ bytes1 1 ++ [255, 250, 240, 1, 2, 3, 0, 0, 0, 0] ++ bytes2 10

/-- An Add Subject or Update Subject payload with the one-glyph caption [5]. -/
def subjectBytes (c id role key : Nat) (handle : Option Nat) : Bytes :=
  bytes2 c ++ bytes3 id ++ bytes1 role ++ bytes4 key
    ++ (match handle with | none => [0, 0, 0, 0] | some h => bytes1 1 ++ bytes2 h ++ [0])
    ++ bytes1 1 ++ bytes2 5 ++ zeros 78

/-- The layout of the worked case (05, the grid of the worked case). -/
def workedLayout : LayoutFields := storedLayout (readLayout (layoutBytes 4 3000 3900 8 6 36 32 64 300 104 96))

/-- A small layout: one cell of 512 x 480 with a caption band of 32. -/
def smallLayout : LayoutFields := storedLayout (readLayout (layoutBytes 4 512 512 1 1 0 0 32 0 104 96))

/-- A layout of two cells, 2 columns wide and 3 rows high in all; smaller than an order can define, for row tests. -/
def tinyLayout : LayoutFields := { smallLayout with w := 2, h := 3, cap := 0 }

/-- An OPEN class on layout 4 with no subject. -/
def openClass4 : ClassRecord := { emptyClass with state := .opened, bound := some 4 }

/-- Layout 4 is the small layout with a binding, class 12 is OPEN on it. -/
def hall : State :=
  (base.setLayout 4 { fields := some smallLayout, bindings := 1 }).setClass 12 openClass4

/-- An image of the smallest size in cluster 7. -/
def smallImage : ImageRecord :=
  { width := 128, height := 160, faceCentre := 64, eyeRow := 70, faceHeight := 50, boxClamped := false, first := 7,
    clusters := 1, crc := 0 }

/-- Entry 42 is READY with the small image, and its chain CURRENT. -/
def portrait : State :=
  let s := base.setEntry 42 { freeEntry 0 with state := .ready, image := some smallImage }
  let s := s.setCluster 7 (.last false { handle := 42, kind := .current })
  { s with sc := { s.sc with freeCount := 131071, cursor := 8 } }

/-- An upload of a smallest image with nothing received. -/
def smallUpload : UploadRecord :=
  { handle := 57, mode := .new, width := 128, height := 160, faceCentre := 64, eyeRow := 70, faceHeight := 50,
    boxClamped := false, declaredCrc := 0, expected := 61440, received := 0, crc := 0xFFFFFFFF, chain := none, held := 0,
    reserved := 1, timer := 2000 }

/-- Slot 3 is OPEN with an upload, entry 57 FILLING. -/
def uploading (u : UploadRecord) : State :=
  let s := (base.setSlot 3 (some u)).setEntry 57 { freeEntry 0 with state := .filling, upload := some (3, .new) }
  { s with ie := { s.ie with openList := [3] }, sc := { s.sc with reserved := 1 } }

/-- The same with cluster 0 taken by the upload. -/
def uploaded (u : UploadRecord) : State :=
  let s := (uploading u).setCluster 0 (.last false { handle := 57, kind := .upload })
  { s with sc := { s.sc with reserved := 0, freeCount := 131071, cursor := 1 } }

/-- A snapshot of a page with no cell. -/
def bareSnapshot (k : Fin 4) : Snapshot :=
  { channel := k, classNo := 12, page := 0, copies := 2, seq := 9, layoutNo := 4, layout := tinyLayout, title := [],
    rosterLength := 0, pageCount := 1, cells := [], pinned := [], pinsPlaceholder := false }

/-- A plan of a page with no cell. -/
def barePlan (k : Fin 4) : Plan :=
  { snap := bareSnapshot k, grid := gridOf tinyLayout 0, targets := targetsOf tinyLayout (gridOf tinyLayout 0),
    title := { line := none, y := 0, truncated := false, glyphMissing := false, omitted := false }, cells := [],
    substitute := none }

/-- A job at a stage. -/
def jobAt (stage : JobStage) : Job := { classNo := 12, page := 0, copies := 2, stage }

/-- An enabled channel with jobs, under SHEET. -/
def pressChannel (jobs : List Job) (rendering : Option Rendering) : Channel :=
  { offChannel with enabled := true, source := .sheet, bandHeight := 16, jobs, credits := 1, rendering }

/-- A rendering record with bands released and started. -/
def renderingAt (copy released started : Nat) (inFlight abortPending : Bool) : Rendering :=
  { bandCount := 1, copy, released, started, inFlight, boundary := 0, abortPending }

/-- A part whose channel 1 has jobs and a rendering record. -/
def pressing (jobs : List Job) (rendering : Option Rendering) : State :=
  let s := hall.setChannel 1 (pressChannel jobs rendering)
  { s with gs := { s.gs with inFlight := (jobs.filter Job.inFlight).length } }

/-- The band of the bare page on channel 1. -/
def bareBand (rowsLeft : Nat) : Band :=
  { channel := 1, plan := barePlan 1, copy := 1, index := 0, order := .forward, mirror := false, firstRow := 0,
    rowCount := 3, rowsLeft, draws := [], reads := [] }

/-- The part with the bare page RENDERING on channel 1 and its band in production. -/
def producing (rowsLeft : Nat) (r : Rendering) : State :=
  { pressing [jobAt (.rendering (barePlan 1))] (some r) with ce := some (bareBand rowsLeft) }

/-! ### Well-formedness (R193, R195) -/

/-- A payload of 4,097 bytes fits no frame. -/
theorem test_payload_too_long_is_ill_formed :
    (Instr.putPixels .i 1 (List.replicate 4097 0)).wellFormed = false := by decide +kernel

/-- The check on an unknown order's payload is the same. -/
theorem test_unknown_payload_too_long_is_ill_formed :
    (Instr.unknownOrder .l 1 0x0999 (List.replicate 4097 0)).wellFormed = false := by decide +kernel

/-- An unknown order does not carry a code that the tables give. -/
theorem test_known_code_is_no_unknown_order : (Instr.unknownOrder .l 1 0x0110 []).wellFormed = false := by decide +kernel

/-- The longest payload and an unknown code are well formed. -/
theorem test_longest_payload_is_well_formed :
    (Instr.putPixels .i 1 (List.replicate 4096 0)).wellFormed = true
      ∧ (Instr.unknownOrder .l 1 0x0999 []).wellFormed = true := by decide +kernel

/-! ### Frames (R193, R209, R211, R213) -/

/-- The check value of the CRC-16 with R193's parameters over the ASCII digits 1 to 9. -/
theorem test_crc16_check_value : crc16 [49, 50, 51, 52, 53, 54, 55, 56, 57] = 0x29B1 := by decide +kernel

/-- The check value of the CRC-32 with R76's parameters over the ASCII digits 1 to 9. -/
theorem test_crc32_check_value :
    crc32Value ([49, 50, 51, 52, 53, 54, 55, 56, 57].foldl crc32Byte crc32Start) = 0xCBF43926 := by decide +kernel

theorem test_decode_layouts : decodeFrame (.l)
    [1, 7, 1, 16, 0, 29, 4, 11, 184, 15, 60, 8, 6, 36, 32, 64, 1, 1, 44, 2, 104, 96, 1, 255, 250, 240, 1, 2, 3,
      1, 1, 44, 2, 0, 10, 166, 185] =
    some (.defineLayout (.l) 7 [4, 11, 184, 15, 60, 8, 6, 36, 32, 64, 1, 1, 44, 2, 104, 96, 1, 255, 250, 240, 1, 2, 3, 1, 1, 44, 2, 0, 10]) := by decide +kernel

theorem test_decode_classes : decodeFrame (.l)
    [1, 1, 1, 32, 0, 3, 0, 12, 4, 167, 222] =
    some (.openClass (.l) 1 [0, 12, 4]) := by decide +kernel

theorem test_decode_rosters : decodeFrame (.l)
    [1, 2, 1, 36, 0, 5, 0, 12, 0, 19, 137, 23, 88] =
    some (.removeSubject (.l) 2 [0, 12, 0, 19, 137]) := by decide +kernel

theorem test_decode_uploads : decodeFrame (.i)
    [1, 3, 2, 16, 0, 17, 0, 101, 0, 4, 176, 7, 8, 2, 98, 2, 128, 2, 108, 137, 171, 205, 239, 46, 120] =
    some (.beginUpload (.i) 3 [0, 101, 0, 4, 176, 7, 8, 2, 98, 2, 128, 2, 108, 137, 171, 205, 239]) := by decide +kernel

theorem test_decode_pixels : decodeFrame (.i)
    [1, 4, 2, 17, 0, 11, 3, 0, 101, 0, 0, 255, 255, 0, 2, 170, 85, 214, 34] =
    some (.putPixels (.i) 4 [3, 0, 101, 0, 0, 255, 255, 0, 2, 170, 85]) := by decide +kernel

theorem test_decode_directory : decodeFrame (.i)
    [1, 5, 2, 20, 0, 2, 63, 255, 108, 109] =
    some (.deletePortrait (.i) 5 [63, 255]) := by decide +kernel

theorem test_decode_glyphs : decodeFrame (.l)
    [1, 6, 1, 48, 0, 0, 53, 36] =
    some (.openGlyphWindow (.l) 6 []) := by decide +kernel

theorem test_decode_channels : decodeFrame (.p 2)
    [1, 8, 3, 16, 0, 6, 1, 5, 0, 1, 64, 30, 201, 226] =
    some (.configureChannel (.p 2) 8 [1, 5, 0, 1, 64, 30]) := by decide +kernel

theorem test_decode_jobs : decodeFrame (.p 2)
    [1, 9, 3, 19, 0, 4, 1, 255, 255, 99, 4, 199] =
    some (.queuePage (.p 2) 9 [1, 255, 255, 99]) := by decide +kernel

theorem test_decode_triggers : decodeFrame (.l)
    [1, 10, 3, 25, 0, 1, 3, 202, 253] =
    some (.start (.l) 10 [3]) := by decide +kernel

theorem test_decode_credits : decodeFrame (.p 3)
    [1, 11, 3, 21, 0, 1, 8, 113, 4] =
    some (.grantBands (.p 3) 11 [8]) := by decide +kernel

theorem test_decode_queries : decodeFrame (.p 0)
    [1, 12, 4, 20, 0, 0, 149, 201] =
    some (.queryStore (.p 0) 12 []) := by decide +kernel

theorem test_decode_errorLog : decodeFrame (.l)
    [1, 13, 1, 64, 0, 0, 1, 211] =
    some (.clearErrorLog (.l) 13 []) := by decide +kernel

theorem test_decode_hallClear : decodeFrame (.l)
    [1, 14, 1, 65, 0, 0, 216, 49] =
    some (.hallClear (.l) 14 []) := by decide +kernel

theorem test_decode_unknown_code : decodeFrame .i [1, 1, 9, 153, 0, 1, 5, 242, 15] =
    some (.unknownOrder .i 1 0x0999 [5]) := by decide +kernel

theorem test_decode_drops_bad_crc : decodeFrame .l [1, 1, 1, 65, 0, 0, 189, 201] = none := by decide +kernel

theorem test_decode_drops_a_reply : decodeFrame .l [2, 1, 1, 65, 0, 0, 115, 40] = none := by decide +kernel

theorem test_decode_drops_wrong_length : decodeFrame .l [1, 1, 1, 65, 0, 1, 173, 233] = none := by decide +kernel
/-! ### The spec's worked examples -/

/-- 01, the geometry check: the six rows of the table. -/
theorem test_geometry_example :
    geometryOk (readLayout (layoutBytes 4 3000 3900 8 6 36 32 64 300 104 96)) = true
      ∧ geometryOk (readLayout (layoutBytes 4 3000 3900 16 6 200 32 64 300 104 96)) = false
      ∧ geometryOk (readLayout (layoutBytes 4 512 512 16 16 0 0 0 0 104 96)) = true
      ∧ geometryOk (readLayout (layoutBytes 4 512 512 16 16 1 0 0 0 104 96)) = false
      ∧ geometryOk (readLayout (layoutBytes 4 3000 1200 8 1 36 32 64 1023 104 96)) = true
      ∧ geometryOk (readLayout (layoutBytes 4 3000 600 8 4 36 32 64 300 104 96)) = false := by decide +kernel

/-- 01: head ratio 20 and eye ratio 240 are stored as 32 and 224, and both are reported. -/
theorem test_define_layout_clamps :
    answer (.defineLayout .l 1 (layoutBytes 4 3000 3900 8 6 36 32 64 300 20 240)) .l base = some [0, 3]
      ∧ ((after (.defineLayout .l 1 (layoutBytes 4 3000 3900 8 6 36 32 64 300 20 240)) base).layout 4).fields.map
          (fun f => (f.headRatio, f.eyeRatio)) = some (32, 224) := by decide +kernel

/-- 05, the grid of the worked case. -/
theorem test_grid_example :
    (gridOf workedLayout 48).cw = 343 ∧ (gridOf workedLayout 48).ch = 509 ∧ (gridOf workedLayout 48).mx = 2
      ∧ (gridOf workedLayout 48).my = 1 ∧ (gridOf workedLayout 48).px = 379 ∧ (gridOf workedLayout 48).py = 605
      ∧ cellOrigin workedLayout (gridOf workedLayout 48) 10 = (2 + 379 * 2, 301 + 605) := by decide +kernel

/-- The portrait of the worked case, with a face centre column. -/
def workedImage (height faceCentre : Nat) : PinnedImage :=
  { handle := 42, width := 1200, height, faceCentre, eyeRow := 640, faceHeight := 620, first := 0, clusters := 99 }

/-- 06, the worked case and its shift case. -/
theorem test_fitting_example :
    let g := gridOf workedLayout 48
    targetsOf workedLayout g = { headHeight := 207, eyeRow := 191, centre := 171 }
      ∧ fitImage g (targetsOf workedLayout g) (workedImage 1800 610) =
        { step := 196291, x0 := 6411199, y0 := 4451459, scaleClamped := false, shifted := false, short := false }
      ∧ fitImage g (targetsOf workedLayout g) (workedImage 1800 150) =
        { step := 196291, x0 := 0, y0 := 4451459, scaleClamped := false, shifted := true, short := false } := by
  decide +kernel

/-- 06, one band of the worked page: the samples of local row 19 and of the cell's first pixel, and the value drawn. -/
theorem test_resampling_example :
    let g := gridOf workedLayout 48
    let d : CellDraw := { image := workedImage 1800 610
                          fitting := fitImage g (targetsOf workedLayout g) (workedImage 1800 610) }
    (sampleAt d 0 19).map (fun q => (q.i0, q.fx, q.j0, q.fy)) = some (97, 211, 124, 212)
      ∧ (sampleAt d 342 50).map (fun q => (q.i0, q.fx, q.j0, q.fy)) = some (1122, 44, 217, 174)
      ∧ (sampleAt d 0 0).map (fun q => (q.i0, q.fx, q.j0, q.fy)) = some (97, 211, 67, 236)
      ∧ blend 100 120 110 140 211 236 = 133 := by decide +kernel

/-- 03, where a pixel lies. -/
theorem test_pixel_offset_example :
    pixelOffset 1200 600 1000 = 3601800 ∧ 3601800 / 65536 = 54 ∧ 3601800 % 65536 = 62856
      ∧ pixelOffset 1200 245 18 = 65535 ∧ clustersOf 1200 1800 = 99 ∧ clustersOf 2048 2560 = 240 := by decide +kernel

/-- Glyph records of the caption example: code n + 1 has the n-th advance, code 10 is the ellipsis of advance 20. -/
def exampleGlyphs : State :=
  let blank : Mask := ⟨0, 0, 0, 0⟩
  let glyph (a : Nat) : Option Glyph := some { advance := a, mask := blank }
  { base with gs := { base.gs with glyphs := [(1, glyph 28), (2, glyph 22), (3, glyph 26), (4, glyph 24), (5, glyph 30),
                                               (6, glyph 34), (10, glyph 20)] } }

/-- The caption of the example. -/
def exampleCaption : List Nat := [1, 2, 3, 4, 3, 4, 4095, 5, 6, 5, 1, 5, 5, 5]

/-- 07, one caption under three layouts, the second part of 212 as 30 + 34 + 30 + 28 + 30 + 30 + 30. -/
theorem test_caption_example :
    exampleGlyphs.fitCaption { workedLayout with cap := 64, captionScale := 1 } 343 exampleCaption =
        { lines := [[1, 2, 3, 4, 3, 4], [5, 6, 5, 1, 5, 5, 5]], truncated := false, omitted := false }
      ∧ exampleGlyphs.fitCaption { workedLayout with cap := 32, captionScale := 1 } 343 exampleCaption =
        { lines := [[1, 2, 3, 4, 3, 4, 5, 6, 5, 1, 5, 10]], truncated := true, omitted := false }
      ∧ exampleGlyphs.fitCaption { workedLayout with cap := 64, captionScale := 2 } 343 exampleCaption =
        { lines := [[1, 2, 3, 4, 3, 4, 10]], truncated := true, omitted := false } := by decide +kernel

/-- 08, ROW releases of the worked page: release 0 reaches band 10, release 1 from there band 28, the last band 122. -/
theorem test_row_release_example :
    let p : Plan := { barePlan 0 with
      snap := { bareSnapshot 0 with layout := workedLayout }, grid := gridOf workedLayout 48 }
    let r : Rendering := { renderingAt 1 0 0 false false with bandCount := bandCount 3900 32 }
    r.bandCount = 122 ∧ (r.raise .row 32 p).released = 10
      ∧ ((r.raise .row 32 p).raise .row 32 p).released = 28
      ∧ ({ r with released := 103, boundary := 6 }.raise .row 32 p).released = 122 := by decide +kernel

/-- 02, building a roster: the roster after the first three Adds. -/
def exampleRoster : State :=
  let s := hall.setClass 12 { openClass4 with roster :=
    [{ id := 900, role := .staff, sortKey := 500, caption := [5], ref := some ⟨42, 0⟩ },
     { id := 5002, role := .student, sortKey := 100, caption := [5], ref := some ⟨41, 0⟩ },
     { id := 5001, role := .student, sortKey := 300, caption := [5], ref := some ⟨40, 0⟩ }] }
  { s with ru := { s.ru with poolFree := 31765 } }

/-- 02: 5003 with sort key 100 takes position 2 and a record of the pool; a handle or subject id held twice is a
duplicate; the update of 5002 to sort key 400 moves it to position 2 of these three. -/
theorem test_roster_example :
    answer (.addSubject .l 1 (subjectBytes 12 5003 1 100 (some 43))) .l exampleRoster = some [0, 2]
      ∧ (after (.addSubject .l 1 (subjectBytes 12 5003 1 100 (some 43))) exampleRoster).ru.poolFree = 31764
      ∧ answer (.addSubject .l 1 (subjectBytes 12 5004 1 200 (some 41))) .l exampleRoster = some [8]
      ∧ answer (.addSubject .l 1 (subjectBytes 12 5001 1 150 none)) .l exampleRoster = some [8] := by decide +kernel

/-- 02: the last two rows of the table, on the roster of the first three Adds. -/
theorem test_roster_update_and_remove :
    answer (.updateSubject .l 1 (subjectBytes 12 5002 1 400 (some 41))) .l exampleRoster = some [0, 2]
      ∧ ((after (.removeSubject .l 1 (bytes2 12 ++ bytes3 900)) exampleRoster).classAt 12).roster.map Subject.id
          = [5002, 5001] := by decide +kernel

/-- 03, allocation across the end of the store: the first and the second cluster taken. -/
theorem test_allocation_example :
    let m : Table ClusterEntry := [(1, .last false ⟨9, .current⟩), (131069, .linked 1 false ⟨9, .current⟩),
      (131071, .retired)]
    let s : State := { base with sc := { base.sc with map := m, cursor := 131069 } }
    s.nextFree = some 131070
      ∧ ({ s with sc := { s.sc with map := m.take 2 ++ [(131070, .last false ⟨57, .upload⟩), (131071, .retired)],
                                     cursor := 131071 } } : State).nextFree = some 0 := by decide +kernel

/-- 04, judging Begin Upload: the store has room for 190 clusters and slot 3 is IDLE. -/
def exampleUploads : State :=
  let u : UploadRecord := smallUpload
  { base with sc := { base.sc with freeCount := 250, reserved := 60 }
              ie := { slots := ⟨some { u with reserved := 10 }, some { u with reserved := 20 }, some { u with reserved := 30 },
                                none⟩, openList := [0, 1, 2] } }

/-- A Begin Upload payload with a box in range. -/
def beginBytes (h mode width height : Nat) : Bytes :=
  bytes2 h ++ bytes1 mode ++ bytes2 width ++ bytes2 height ++ bytes2 64 ++ bytes2 70 ++ bytes2 50 ++ zeros 4

/-- 04: the first, second and sixth order of the table. -/
theorem test_begin_upload_example :
    answer (.beginUpload .i 1 (beginBytes 100 0 2048 2560)) .i exampleUploads = some [0x0C]
      ∧ answer (.beginUpload .i 1 (beginBytes 101 0 1200 1800)) .i exampleUploads = some [0, 3, 99, 0]
      ∧ answer (.beginUpload .i 1 (beginBytes 102 0 100 160)) .i exampleUploads = some [3] := by decide +kernel

/-- 04: after the second order every slot is OPEN, entry 101 FILLING and 159 clusters reserved. -/
theorem test_begin_upload_reserves :
    let t := after (.beginUpload .i 1 (beginBytes 101 0 1200 1800)) exampleUploads
    t.sc.reserved = 159 ∧ t.sc.freeCount = 250 ∧ (t.entry 101).state = .filling
      ∧ answer (.beginUpload .i 1 (beginBytes 102 0 128 160)) .i { t with liu := base.liu } = some [0x0D] := by
  decide +kernel

/-- 05, sources at the start step: the six entries of the table, with the placeholder READY. -/
def exampleSources : State :=
  let img (n : Nat) : Option ImageRecord := some { smallImage with first := n }
  let e (state : DirState) (generation first : Nat) : DirEntry := { freeEntry generation with state, image := img first }
  let x (id : Nat) (ref : Option PortraitRef) : Subject := { id, role := .student, sortKey := id, caption := [5], ref }
  let s := hall.setClass 12 { openClass4 with state := .frozen, roster :=
    [{ x 900 (some ⟨42, 0⟩) with role := .staff }, x 5001 (some ⟨43, 0⟩), x 5002 none, x 5003 (some ⟨40, 0⟩),
     x 5004 (some ⟨41, 0⟩), x 5005 (some ⟨44, 0⟩)] }
  let s := (s.setEntry 42 (e .ready 0 1)).setEntry 43 { freeEntry 0 with state := .filling }
  ((s.setEntry 40 (e .ready 0 2)).setEntry 41 (freeEntry 1)).setEntry 44 (e .damaged 0 3) |>.setEntry 300 (e .ready 2 4)

/-- 05: the sources and reasons of the six cells, and the pinned list 42, 40, 300. -/
theorem test_sources_example :
    let p := exampleSources.snapshot 1 (jobAt .queued) 4
      { smallLayout with c := 3, r := 2, placeholder := some ⟨300, 2⟩ }
    p.cells.map (fun c => (c.source, c.reason)) =
        [(some 42, none), (some 300, some .notReady), (some 300, some .noPortrait), (some 40, none),
         (some 300, some .stale), (some 300, some .damaged)]
      ∧ p.handles = [42, 40, 300] := by decide +kernel

/-! ### One command of each row -/

/-- R207, R174: PORST discards what stands, and its release begins the initialisation. -/
theorem test_porst :
    ((after .porstAsserted hall).layout 4).fields = none ∧ (after .porstAsserted hall).phase = .inReset
      ∧ (after .porstReleased hall).phase = .initialising ∧ (after .porstReleased hall).liu.l.up = false := by
  decide +kernel

/-- R174: the end of the initialisation starts the scrub timer. -/
theorem test_initialisation_end :
    (after .storeInitialisationEnd early).phase = .running ∧ (after .storeInitialisationEnd early).sel.timer = some 200 := by
  decide +kernel

/-- R191: a link goes UP with a silence timer of 100 ms and DOWN when it has run out or the line is lost. -/
theorem test_link_up_and_silence :
    (after (.linkUp (.p 2)) State.reset).port (.p 2) = upPort
      ∧ ((after (.silenceTimerExpiry .l) (base.setPort .l { upPort with silence := some 0 })).port .l).up = false
      ∧ ((after (.idleFill .l) (base.setPort .l { upPort with silence := some 3 })).port .l).silence = some 100 := by
  decide +kernel

/-- R136, R191: the loss of the layout link closes the glyph window. -/
theorem test_line_loss :
    (after (.lineLoss .l) (base.setWindow .opening)).gs.window = .closed
      ∧ ((after (.lineLoss .i) (uploading smallUpload)).entry 57).state = .free := by decide +kernel

/-- R193: a frame that fails the check sets the frame-fault flag; R201: Query Link reads it and clears it. -/
theorem test_frame_fault :
    ((after (.frameDropped (.p 2) [1, 2]) base).port (.p 2)).frameFault = true
      ∧ ((after (.queryLink (.p 2) 1 []) (base.setPort (.p 2) { upPort with frameFault := true })).port (.p 2)).frameFault
          = false
      ∧ answer (.queryLink (.p 2) 1 []) (.p 2) (base.setPort (.p 2) { upPort with frameFault := true })
          = some [0, 1, 0, 1, 0, 1, 0, 1, 0, 1, 1, 1, 0, 4] := by decide +kernel

/-- R197: frames leave in the order of production. -/
theorem test_frame_departure :
    let f (n : Byte) : Frame := { kind := .notice, tag := 0, code := 0x0810, payload := [n] }
    ((after (.frameDeparture (.p 1)) (base.setPort (.p 1) { upPort with waiting := [f 1, f 2] })).port (.p 1)).waiting
      = [f 2] := by decide +kernel

/-- R195: the five ways an order ends before its block. -/
theorem test_orders_turned_away :
    answer (.unknownOrder .l 1 0x0999 []) .l base = some [1] ∧ answer (.hallClear .i 1 []) .i base = some [2]
      ∧ answer (.hallClear .l 1 []) .l early = some [0x11] ∧ answer (.hallClear .l 1 [0]) .l base = some [3]
      ∧ (answer (.queryStore .l 1 []) .l early).map (List.take 2) = some [0, 1] := by decide +kernel

/-- R10, R15: Delete Layout of a bound record is IN_USE, of an EMPTY one NOT_FOUND; Query Layout reports DEFINED. -/
theorem test_delete_and_query_layout :
    answer (.deleteLayout .l 1 [4]) .l hall = some [6] ∧ answer (.deleteLayout .l 1 [5]) .l hall = some [5]
      ∧ ((answer (.queryLayout .i 1 [4]) .i hall).map (List.take 2)) = some [0, 1] := by decide +kernel

/-- R22, R29, R33, R34: opening, rebinding, withdrawing and freezing a class. -/
theorem test_open_rebind_freeze :
    answer (.openClass .l 1 [0, 13, 4]) .l hall = some [0]
      ∧ ((after (.openClass .l 1 [0, 13, 4]) hall).layout 4).bindings = 2
      ∧ answer (.rebindClass .l 1 [0, 12, 5]) .l hall = some [5]
      ∧ sent (.freezeClass .l 1 [0, 12]) .l (hall.setClass 12 { openClass4 with pending := some 5 }) = [0x0128, 0x0831]
      ∧ ((after (.withdrawRebind .l 1 [0, 12]) (hall.setClass 12 { openClass4 with pending := some 5 })).classAt 12).pending
          = none := by decide +kernel

/-- R27, R36, R38: a title, the deletion of a class with a QUEUED job, and a query of a class. -/
theorem test_title_and_delete_class :
    ((after (.setTitle .l 1 (bytes2 12 ++ [2] ++ bytes2 7 ++ bytes2 4094 ++ zeros 124)) hall).classAt 12).title = [7, 4094]
      ∧ sent (.deleteClass .l 1 [0, 12]) (.p 1) (pressing [jobAt .queued] none) = [0x0813]
      ∧ (answer (.queryClass (.p 0) 1 [0, 12, 0]) (.p 0) hall).map (List.take 2) = some [0, 1] := by decide +kernel

/-- R75, R52: a chunk is written from the start of the cluster taken, and the word after its end is as before. -/
theorem test_put_pixels :
    let t := after (.putPixels .i 1 ([3, 0, 57, 0, 0, 0, 0, 0, 3] ++ [0xAA, 0xBB, 0xCC])) (uploading smallUpload)
    t.sc.store = [(0, 0xAA), (1, 0xBB), (2, 0xCC)] ∧ t.sc.freeCount = 131071 ∧ t.sc.cursor = 1 ∧ t.sc.reserved = 0
      ∧ (t.slot 3).map UploadRecord.received = some 3 := by decide +kernel

/-- R79, R82, R78: an upload ends INCOMPLETE, CANCELLED or TIMED_OUT with its Upload Result. -/
theorem test_uploads_end :
    (((after (.endUpload .i 1 [3, 0, 57]) (uploading smallUpload)).port .i).waiting.map Frame.payload)
        = [[0], [3, 0, 57, 0, 0, 0, 0, 0, 0, 3, 0]]
      ∧ sent (.cancelUpload .i 1 [3, 0, 57]) .i (uploading smallUpload) = [0x0213, 0x0820]
      ∧ sent (.idleTimerExpiry 3) .i (uploading { smallUpload with timer := 0 }) = [0x0820] := by decide +kernel

/-- R80: a complete image with its CRC makes its entry READY. -/
theorem test_end_upload_stores :
    let u := { smallUpload with received := 61440, crc := 0xFFFFFFFF, chain := some (0, 0), held := 1, reserved := 0 }
    let t := after (.endUpload .i 1 [3, 0, 57]) (uploaded u)
    (t.entry 57).state = .ready ∧ t.cluster 0 = .last false ⟨57, .current⟩ ∧ t.slot 3 = none := by decide +kernel

/-- R64, R65: a deleted entry is FREE at the next generation; Query Portrait answers 44 bytes. -/
theorem test_delete_and_query_portrait :
    (after (.deletePortrait .i 1 [0, 42]) portrait).entry 42 = freeEntry 1
      ∧ (after (.deletePortrait .i 1 [0, 42]) portrait).sc.freeCount = 131072
      ∧ (answer (.queryPortrait (.p 3) 1 [0, 42]) (.p 3) portrait).map (fun b => (b.length, b.take 4))
          = some (44, [0, 2, 0, 0]) := by decide +kernel

/-- R189: Query Store answers 72 bytes with the free count at offset 2. -/
theorem test_query_store :
    (answer (.queryStore (.p 3) 1 []) (.p 3) portrait).map (fun b => (b.length, (b.drop 2).take 4))
      = some (72, [0, 1, 255, 255]) := by decide +kernel

/-- R134, R136, R137, R139: the window and a NARROW glyph whose left quadrants are loaded. -/
theorem test_glyph_window :
    answer (.openGlyphWindow .l 1 []) .l base = some [0, 2]
      ∧ (after (.closeGlyphWindow .l 1 []) (base.setWindow .opened)).gs.window = .closed
      ∧ ((after (.loadGlyph .l 1 ([0, 9, 16, 0] ++ [0x80] ++ zeros 63)) (base.setWindow .opened)).glyph 9).map
          (fun g => (maskPixel g.mask 0 0, maskPixel g.mask 1 0, maskPixel g.mask 0 1)) = some (true, false, false)
      ∧ (answer (.queryGlyph .l 1 [0, 9]) .l base).map (List.take 1) = some [0] := by decide +kernel

/-- R92, R96, R104: a page of an empty class is planned; a page past the page count is an EMPTY_PAGE. -/
theorem test_planning :
    (after .planningStartStep (pressing [jobAt .queued] none)).pln = { planning := some 1, lastServed := 1 }
      ∧ (after .planningStartStep (pressing [jobAt .queued] none)).gs.inFlight = 1
      ∧ sent .planningStartStep (.p 1) (pressing [{ jobAt .queued with page := 1 }] none) = [0x0812]
      ∧ (after .planningCompletion { pressing [jobAt (.planning (bareSnapshot 1))] none with
            pln := { planning := some 1, lastServed := 1 } }).pln.planning = none := by decide +kernel

/-- R150, R151: configuring an idle channel, enabling and disabling it. -/
theorem test_channel_setup :
    ((after (.configureChannel (.p 2) 1 [1, 7, 0, 1, 64, 0]) base).channel 2).source = .chained 3
      ∧ answer (.configureChannel (.p 2) 1 [1, 7, 1, 1, 64, 0]) (.p 2) base = some [3]
      ∧ ((after (.enableChannel (.p 2) 1 []) base).channel 2).enabled = true
      ∧ answer (.disableChannel (.p 1) 1 []) (.p 1) (pressing [jobAt .queued] none) = some [7] := by decide +kernel

/-- R153, R154: the list positions of queued pages, and the cancelling of one. -/
theorem test_job_list :
    answer (.queuePage (.p 1) 1 [0, 12, 0, 2]) (.p 1) (pressing [jobAt .queued] none) = some [0, 1]
      ∧ answer (.queuePage (.p 1) 1 [0, 13, 0, 2]) (.p 1) (pressing [] none) = some [5]
      ∧ ((after (.cancelPage (.p 1) 1 [0, 12, 0]) (pressing [jobAt .queued] none)).channel 1).jobs = []
      ∧ answer (.cancelPage (.p 1) 1 [0, 12, 0]) (.p 1) (pressing [jobAt (.planned (barePlan 1))] none) = some [7] := by
  decide +kernel

/-- R155, R157, R160: a trigger starts a PLANNED page and is consumed; credits saturate at 8. -/
theorem test_triggers_and_credits :
    answer (.sheetReady (.p 1) 1 []) (.p 1) (pressing [jobAt (.planned (barePlan 1))] none) = some [0, 0]
      ∧ ((after (.sheetReady (.p 1) 1 []) (pressing [jobAt (.planned (barePlan 1))] none)).channel 1).state = .running
      ∧ ((after (.sheetReady (.p 1) 1 []) (pressing [jobAt (.planned (barePlan 1))] none)).channel 1).flag = false
      ∧ answer (.start .l 1 [1]) .l (pressing [] none) = some [0x12]
      ∧ answer (.grantBands (.p 1) 1 [8]) (.p 1) (pressing [] none) = some [0, 8] := by decide +kernel

/-- R161 to R163: a band is granted for a credit; its last row is sent and in one event its end starts the second copy,
PAUSED. -/
theorem test_engine :
    let r := renderingAt 1 1 0 false false
    let t := after .engineGrant (pressing [jobAt (.rendering (barePlan 1))] (some r))
    (t.channel 1).credits = 0 ∧ t.ce.map Band.rowsLeft = some 3 ∧ ((t.port (.p 1)).waiting.map Frame.code) = [0x0810]
      ∧ ((after .rowData (producing 1 (renderingAt 1 1 1 true false))).port (.p 1)).waiting.map Frame.payload
          = [[0, 9, 0, 0, 0, 2, 0, 0, 0, 2, 255, 250, 240, 255, 250, 240]]
      ∧ ((after .bandEnd (producing 1 (renderingAt 1 1 1 true false))).channel 1).rendering
          = some { renderingAt 2 0 0 false false with boundary := 0 }
      ∧ (after .bandEnd (producing 1 (renderingAt 1 1 1 true false))).ce = none
      ∧ ((after .rowData (producing 2 (renderingAt 1 1 1 true false))).ce.map Band.rowsLeft) = some 1 := by decide +kernel

/-- R173: a word with one wrong bit reads corrected, with two uncorrectable, and the syndrome of one names its bit. -/
theorem test_words_in_error :
    readsAs 0 = none ∧ readsAs (1#72 <<< 71) = some (.correctable 71) ∧ uncorrectable (readsAs 5) = true
      ∧ correctWord 4 2 = 0 ∧ correctWord 4 64 = 4 := by decide +kernel

/-- R165, R166, R167, R168: pages that end ABORTED and STALLED, and a Channel Reset. -/
theorem test_page_ends :
    let s := pressing [jobAt (.rendering (barePlan 1))] (some (renderingAt 2 1 0 false false))
    ((after (.abortPage (.p 1) 1 []) s).channel 1).lastPage.map (fun d => (d.result, d.completed)) = some (.aborted, 1)
      ∧ ((after (.stallTimerExpiry 1) (s.setChannel 1 { s.channel 1 with stallTimer := some 0 })).channel 1).lastPage.map
          PageDone.result = some .stalled
      ∧ sent (.channelReset (.p 1) 1 []) (.p 1)
          (s.setChannel 1 { s.channel 1 with jobs := (s.channel 1).jobs ++ [jobAt .queued] }) = [0x0318, 0x0812, 0x0813]
      ∧ (answer (.queryChannel .l 1 [1]) .l s).map (List.take 2) = some [0, 3] := by decide +kernel

/-- R177, R179: a visit corrects a flipped bit, counts it, and starts the next 200 ms. -/
theorem test_scrub :
    let s : State := { base with
      sc := { base.sc with store := [(8, 4)], errors := [(1, 4)] }
      sel := { base.sel with timer := some 0 } }
    let t := after .scrubTimerExpiry s
    t.sc.store = [] ∧ t.sc.errors = [] ∧ t.sel.corrections = 1 ∧ t.sel.cursor = 1 ∧ t.sel.timer = some 200 := by
  decide +kernel

/-- R180, R184, R187: an uncorrectable word in a CURRENT chain marks it and damages its entry, with its notices. -/
theorem test_uncorrectable :
    let t := portrait.takeFault .scrub 7 24 0x5C none
    t.cluster 7 = .last true ⟨42, .current⟩ ∧ (t.entry 42).state = .damaged
      ∧ (t.port .l).waiting.map Frame.code = [0x0823, 0x0833] ∧ (t.port .i).waiting.map Frame.code = [0x0823] := by
  decide +kernel

/-- R188, R205: the log is cleared; Hall Clear frees every chain and every class. -/
theorem test_clear_orders :
    (after (.clearErrorLog .l 1 []) (portrait.takeFault .scrub 7 24 0x5C none)).sel.log = none
      ∧ (after (.hallClear .l 1 []) portrait).sc.map = [] ∧ (after (.hallClear .l 1 []) portrait).pdir = []
      ∧ (after (.hallClear .l 1 []) hall).ru.classes = [] := by decide +kernel

/-- One sender's queue (log 1): the front command runs, the rest stays. -/
theorem test_step_takes_the_front :
    step { base with pending := [.openGlyphWindow .l 1 [], .hallClear .l 2 []] }
      = exec (.openGlyphWindow .l 1 []) { base with pending := [.hallClear .l 2 []] } := rfl

/-! ### Witnesses: states and operands that meet the hypotheses of each statement, clause by clause -/

/-- A table's entry has what every entry and the default have. -/
theorem get_has {α : Type} (P : α → Prop) (d : α) (hd : P d) (t : Table α) (h : ∀ e ∈ t, P e.2) (n : Nat) :
    P (Table.get d t n) := by
  induction t with
  | nil => exact hd
  | cons e t ih =>
    unfold Table.get
    split
    · exact h e (by simp)
    · exact ih (fun x hx => h x (by simp [hx]))

/-- Port L with 16,384 bytes of replies waiting, or with one more. -/
def crowded (n : Nat) : State :=
  base.setPort .l { upPort with waiting := [{ kind := .reply, tag := 0, code := 0, payload := List.replicate n 0 }] }

theorem witness_IdleStepRunsTimers : base.pending = [] ∧ (5 : BitVec 72) = (1#72 <<< 0) ||| (1#72 <<< 2) := by
  decide +kernel

theorem witness_InitialisationEndStartsPart : early.phase = .initialising ∧ base.phase ≠ .initialising := by
  decide +kernel

theorem witness_LinksGoUpAndDown :
    (State.reset.phase ≠ .inReset ∧ (State.reset.port .l).up = false) ∧ (base.port .l).up = true
      ∧ (after .porstAsserted base).phase = .inReset
      ∧ ((base.setPort .l { upPort with silence := some 0 }).port .l).silence = some 0
      ∧ ((base.setPort .l { upPort with silence := some 1 }).port .l).silence ≠ some 0 := by decide +kernel

theorem witness_IngestLinkLossAbandonsUploads :
    let u := { smallUpload with received := 1, chain := some (0, 0), held := 1, reserved := 0 }
    (uploaded u).openListSound ∧ ((uploaded u).port .i).up = true
      ∧ (uploaded u).ie.openList.flatMap (uploaded u).slotChain = [0] := by
  unfold State.openListSound; decide +kernel

theorem witness_FramesDroppedAndDeparting :
    ((base.port .l).up = true ∧ frameSound [1, 2, 3, 4, 5, 6, 7] = false)
      ∧ (((crowded 16377).port .l).up = true ∧ 16384 < ((crowded 16377).port .l).backlog)
      ∧ ((crowded 0).port .l).waiting = { kind := .reply, tag := 0, code := 0, payload := [] } :: [] := by
  decide +kernel

theorem witness_OrderTurnedAway :
    (((crowded 16376).port .l).up = true ∧ (List.replicate 4096 (0 : Byte)).length ≤ 4096
        ∧ ((crowded 16376).port .l).backlog = 16384)
      ∧ (∀ o : Order, o.code ≠ 0x0999)
      ∧ (State.reset.port .l).up = false
      ∧ ((base.port .l).up = true ∧ 4096 < (List.replicate 4097 (0 : Byte)).length)
      ∧ (((crowded 16377).port .l).up = true ∧ ((crowded 16377).port .l).backlog = 16385)
      ∧ permitted .hallClear .i [] = false
      ∧ (permitted .hallClear .l [] = true ∧ needsReady .hallClear = true ∧ early.phase ≠ .running)
      ∧ (permitted .hallClear .l [0] = true ∧ base.phase = .running ∧ lengthOk .hallClear [0] = false) := by
  refine ⟨?_, fun o => by cases o <;> decide, ?_⟩
  · decide +kernel
  · decide +kernel

theorem witness_FrameRoundTrip :
    (Instr.deleteLayout .l 1 [4]).wellFormed = true
      ∧ encodeFrame (.deleteLayout .l 1 [4]) = some (.l, [1, 1, 1, 17, 0, 1, 4, 184, 248]) := by decide +kernel

theorem witness_GeometryCheckIsOnCells :
    (Admitted .defineLayout .l (layoutBytes 4 512 512 16 16 0 0 0 0 104 96) base
        ∧ layoutFieldsOk (readLayout (layoutBytes 4 512 512 16 16 0 0 0 0 104 96)) = true)
      ∧ (Admitted .defineLayout .l (layoutBytes 4 512 512 16 16 1 0 0 0 104 96) base
        ∧ layoutFieldsOk (readLayout (layoutBytes 4 512 512 16 16 1 0 0 0 104 96)) = true) := by
  unfold Admitted; decide +kernel

theorem witness_DefineLayoutOutcome :
    (Admitted .defineLayout .l (layoutBytes 64 3000 3900 8 6 36 32 64 300 104 96) base
        ∧ layoutFieldsOk (readLayout (layoutBytes 64 3000 3900 8 6 36 32 64 300 104 96)) = false)
      ∧ (Admitted .defineLayout .l (layoutBytes 63 512 512 16 16 1 0 0 0 104 96) base
        ∧ layoutFieldsOk (readLayout (layoutBytes 63 512 512 16 16 1 0 0 0 104 96)) = true
        ∧ geometryOk (readLayout (layoutBytes 63 512 512 16 16 1 0 0 0 104 96)) = false)
      ∧ (Admitted .defineLayout .l (layoutBytes 4 3000 3900 8 6 36 32 64 300 104 96) hall
        ∧ layoutFieldsOk (readLayout (layoutBytes 4 3000 3900 8 6 36 32 64 300 104 96)) = true
        ∧ geometryOk (readLayout (layoutBytes 4 3000 3900 8 6 36 32 64 300 104 96)) = true
        ∧ (hall.layout 4).bindings = 1)
      ∧ (Admitted .defineLayout .l (layoutBytes 63 8192 512 16 16 0 0 0 0 225 31) hall
        ∧ layoutFieldsOk (readLayout (layoutBytes 63 8192 512 16 16 0 0 0 0 225 31)) = true
        ∧ geometryOk (readLayout (layoutBytes 63 8192 512 16 16 0 0 0 0 225 31)) = true
        ∧ (hall.layout 63).bindings = 0) := by
  unfold Admitted; decide +kernel

theorem witness_DeleteLayoutOutcome :
    (Admitted .deleteLayout .l [64] base ∧ 63 < byteAt [64] 0)
      ∧ (Admitted .deleteLayout .l [63] base ∧ byteAt [63] 0 ≤ 63 ∧ (base.layout 63).fields = none)
      ∧ (Admitted .deleteLayout .l [4] hall ∧ (hall.layout 4).fields ≠ none ∧ 0 < (hall.layout 4).bindings)
      ∧ (let s := hall.setLayout 63 { fields := some smallLayout, bindings := 0 }
         Admitted .deleteLayout .l [63] s ∧ (s.layout 63).fields ≠ none ∧ (s.layout 63).bindings = 0) := by
  unfold Admitted; decide +kernel

theorem witness_OpenClassOutcome :
    (Admitted .openClass .l [2, 0, 4] hall ∧ 511 < word16At [2, 0, 4] 0)
      ∧ (Admitted .openClass .l [0, 0, 64] hall ∧ 63 < byteAt [0, 0, 64] 2)
      ∧ (Admitted .openClass .l [0, 12, 4] hall ∧ (hall.classAt 12).state ≠ .empty)
      ∧ (Admitted .openClass .l [1, 255, 63] hall ∧ (hall.classAt 511).state = .empty ∧ (hall.layout 63).fields = none)
      ∧ (Admitted .openClass .l [1, 255, 4] hall ∧ word16At [1, 255, 4] 0 = 511 ∧ (hall.classAt 511).state = .empty
        ∧ (hall.layout 4).fields ≠ none) := by
  unfold Admitted; decide +kernel

theorem witness_ClassChecksOfEdits :
    (Admitted .withdrawRebind .l [2, 0] hall ∧ 511 < word16At [2, 0] 0)
      ∧ (Admitted .addSubject .l (subjectBytes 12 1 2 1 none) hall
        ∧ subjectFieldsOk (readSubject (subjectBytes 12 1 2 1 none)) = false)
      ∧ (Admitted .rebindClass .l [1, 255, 63] hall ∧ byteAt [1, 255, 63] 2 ≤ 63 ∧ (hall.classAt 511).state = .empty)
      ∧ (let s := hall.setClass 12 { openClass4 with state := .frozen }
         (Admitted .addSubject .l (subjectBytes 12 1 1 1 none) s
            ∧ subjectFieldsOk (readSubject (subjectBytes 12 1 1 1 none)) = true ∧ (s.classAt 12).state = .frozen)
          ∧ (Admitted .setTitle .l (bytes2 12 ++ [64] ++ zeros 128) s
            ∧ titleOk (byteAt (bytes2 12 ++ [64] ++ zeros 128) 2) (readTitle (bytes2 12 ++ [64] ++ zeros 128)) = true)) := by
  unfold Admitted; decide +kernel

/-- An OPEN class 12 with one subject and some records in the pool. -/
def oneSubject (poolFree : Nat) : State :=
  let s := hall.setClass 12 { openClass4 with roster :=
    [{ id := 900, role := .staff, sortKey := 500, caption := [5], ref := some ⟨42, 0⟩ }] }
  { s with ru := { s.ru with poolFree } }

/-- A roster of n staff records with rising subject ids and no portrait. -/
def longRoster (n : Nat) : List Subject :=
  (List.range n).map (fun i => { id := i, role := .staff, sortKey := 0, caption := [5], ref := none })

/-- Class 12 with n such subjects. -/
def fullClass (n : Nat) : State := hall.setClass 12 { openClass4 with roster := longRoster n }

theorem longRoster_ordered (n : Nat) (h : n ≤ 256) : RosterOrdered (longRoster n) := by
  refine ⟨?_, ?_, ?_, by simpa [longRoster] using h⟩
  · rw [longRoster, List.pairwise_map]
    exact List.pairwise_lt_range.imp (by intro a b hab; simpa [standsBefore] using hab)
  · simp [longRoster, List.map_map, Function.comp_def, List.nodup_range]
  · simp [longRoster, List.filterMap_map]

/-- The rosters of the next theorem's two full classes are in roster order. -/
theorem fullClass_ordered (n : Nat) (h : n ≤ 256) : RosterOrdered ((fullClass n).classAt 12).roster :=
  longRoster_ordered n h

theorem witness_AddSubjectOutcome :
    (let p := subjectBytes 12 900 1 100 none
     let s := oneSubject 1
     Admitted .addSubject .l p s ∧ subjectFieldsOk (readSubject p) = true ∧ (s.classAt 12).state = .opened
      ∧ RosterOrdered (s.classAt 12).roster ∧ ∃ y ∈ (s.classAt 12).roster, y.id = (subjectOf (readSubject p)).id)
      ∧ (let p := subjectBytes 12 16777215 1 100 none
         let s := fullClass 256
         Admitted .addSubject .l p s ∧ (s.classAt 12).state = .opened ∧ (s.classAt 12).roster.length = 256
          ∧ ∀ y ∈ (s.classAt 12).roster, y.id ≠ (subjectOf (readSubject p)).id)
      ∧ (let p := subjectBytes 12 901 1 100 (some 43)
         let s := oneSubject 0
         Admitted .addSubject .l p s ∧ s.ru.poolFree = 0 ∧ (s.classAt 12).roster.length < 256)
      ∧ (let p := subjectBytes 12 16777215 1 4294967295 (some 16383)
         let s := oneSubject 1
         Admitted .addSubject .l p s ∧ subjectFieldsOk (readSubject p) = true ∧ s.ru.poolFree = 1
          ∧ ∀ y ∈ (s.classAt 12).roster, y.id ≠ (subjectOf (readSubject p)).id
            ∧ y.ref.map PortraitRef.handle ≠ (subjectOf (readSubject p)).ref.map PortraitRef.handle)
      ∧ (let s := fullClass 255
         Admitted .addSubject .l (subjectBytes 12 16777215 1 0 none) s ∧ (s.classAt 12).roster.length = 255) := by
  unfold Admitted RosterOrdered; decide +kernel

theorem witness_UpdateSubjectOutcome :
    (let p := subjectBytes 12 1 1 100 none
     Admitted .updateSubject .l p exampleRoster ∧ subjectFieldsOk (readSubject p) = true
      ∧ (exampleRoster.classAt 12).state = .opened ∧ RosterOrdered (exampleRoster.classAt 12).roster
      ∧ ∀ y ∈ (exampleRoster.classAt 12).roster, y.id ≠ (subjectOf (readSubject p)).id)
      ∧ (let p := subjectBytes 12 5001 1 100 (some 41)
         Admitted .updateSubject .l p exampleRoster ∧ subjectFieldsOk (readSubject p) = true
          ∧ ∃ y ∈ (exampleRoster.classAt 12).roster, y.id ≠ (subjectOf (readSubject p)).id
            ∧ y.ref.map PortraitRef.handle = (subjectOf (readSubject p)).ref.map PortraitRef.handle)
      ∧ (let p := subjectBytes 12 5002 1 400 (some 41)
         Admitted .updateSubject .l p exampleRoster ∧ subjectFieldsOk (readSubject p) = true
          ∧ (∃ y ∈ (exampleRoster.classAt 12).roster, y.id = (subjectOf (readSubject p)).id)
          ∧ ∀ y ∈ (exampleRoster.classAt 12).roster, y.id ≠ (subjectOf (readSubject p)).id →
            y.ref.map PortraitRef.handle ≠ (subjectOf (readSubject p)).ref.map PortraitRef.handle) := by
  unfold Admitted RosterOrdered; decide +kernel

theorem witness_RemoveSubjectAndSetTitle :
    (Admitted .removeSubject .l (bytes2 12 ++ bytes3 899) exampleRoster ∧ (exampleRoster.classAt 12).state = .opened
        ∧ ∀ y ∈ (exampleRoster.classAt 12).roster, y.id ≠ 899)
      ∧ (Admitted .removeSubject .l (bytes2 12 ++ bytes3 900) exampleRoster
        ∧ ∃ y ∈ (exampleRoster.classAt 12).roster, y.id = 900)
      ∧ (Admitted .setTitle .l (bytes2 12 ++ [65] ++ zeros 128) hall
        ∧ 64 < byteAt (bytes2 12 ++ [65] ++ zeros 128) 2)
      ∧ (Admitted .setTitle .l (bytes2 12 ++ [1] ++ bytes2 4095 ++ zeros 126) hall
        ∧ 4094 < word16At (bytes2 12 ++ [1] ++ bytes2 4095 ++ zeros 126) 3)
      ∧ (Admitted .setTitle .l (bytes2 12 ++ [64] ++ bytes2 4094 ++ zeros 126) hall
        ∧ (hall.classAt 12).state = .opened
        ∧ ∀ code ∈ readTitle (bytes2 12 ++ [64] ++ bytes2 4094 ++ zeros 126), code ≤ 4094) := by
  unfold Admitted; decide +kernel

/-- The hall with layout 63 DEFINED too, and class 12's pending layout and in-flight count. -/
def rebinding (pending : Option Nat) (inFlight : Nat) : State :=
  (hall.setLayout 63 { fields := some smallLayout, bindings := if pending = some 63 then 1 else 0 }).setClass 12
    { openClass4 with pending, inFlight }

theorem witness_RebindClassOutcome :
    (Admitted .rebindClass .l [0, 12, 64] hall ∧ 63 < byteAt [0, 12, 64] 2)
      ∧ (Admitted .rebindClass .l [0, 12, 4] (rebinding (some 63) 1)
        ∧ ((rebinding (some 63) 1).classAt 12).bound = some 4)
      ∧ (Admitted .rebindClass .l [0, 12, 5] hall ∧ (hall.classAt 12).state = .opened ∧ (hall.layout 5).fields = none)
      ∧ (Admitted .rebindClass .l [0, 12, 63] (rebinding (some 63) 1)
        ∧ ((rebinding (some 63) 1).classAt 12).state = .opened ∧ ((rebinding (some 63) 1).layout 63).fields ≠ none
        ∧ ((rebinding (some 63) 1).classAt 12).inFlight ≠ 0)
      ∧ (Admitted .rebindClass .l [0, 12, 63] (rebinding none 0)
        ∧ ((rebinding none 0).classAt 12).bound ≠ some 63 ∧ ((rebinding none 0).layout 63).fields ≠ none
        ∧ ((rebinding none 0).classAt 12).inFlight = 0 ∧ (rebinding none 0).layoutReady 63 = true) := by
  unfold Admitted; decide +kernel

theorem witness_WithdrawAndFreeze :
    (Admitted .withdrawRebind .l [0, 12] (rebinding (some 63) 1)
        ∧ ((rebinding (some 63) 1).classAt 12).state = .opened)
      ∧ (Admitted .freezeClass .l [2, 0] hall ∧ 511 < word16At [2, 0] 0)
      ∧ (Admitted .freezeClass .l [1, 255] hall ∧ (hall.classAt 511).state = .empty)
      ∧ (let s := hall.setClass 12 { openClass4 with state := .frozen }
         Admitted .freezeClass .l [0, 12] s ∧ (s.classAt 12).state = .frozen)
      ∧ (Admitted .freezeClass .l [0, 12] (rebinding (some 63) 1)
        ∧ ((rebinding (some 63) 1).classAt 12).pending = some 63) := by
  unfold Admitted; decide +kernel

theorem witness_DeleteClassOutcome :
    (Admitted .deleteClass .l [2, 0] hall ∧ 511 < word16At [2, 0] 0)
      ∧ (Admitted .deleteClass .l [1, 255] hall ∧ (hall.classAt 511).state = .empty)
      ∧ (Admitted .deleteClass .l [0, 12] (rebinding none 1) ∧ 0 < ((rebinding none 1).classAt 12).inFlight)
      ∧ (let s := pressing [jobAt .queued] none
         Admitted .deleteClass .l [0, 12] s ∧ (s.classAt 12).state ≠ .empty ∧ (s.classAt 12).inFlight = 0
          ∧ (s.channel 1).jobs = [jobAt .queued]) := by
  unfold Admitted; decide +kernel

theorem witness_BeginUploadOutcome :
    (Admitted .beginUpload .i (beginBytes 0 0 127 160) base)
      ∧ (Admitted .beginUpload .i (beginBytes 16384 0 128 160) base)
      ∧ (Admitted .beginUpload .i (beginBytes 42 0 128 160) portrait ∧ (portrait.entry 42).state ≠ .free)
      ∧ (Admitted .beginUpload .i (beginBytes 41 1 128 160) portrait ∧ (portrait.entry 41).state = .free)
      ∧ (let s := exampleUploads.setSlot 3 (some smallUpload)
         Admitted .beginUpload .i (beginBytes 102 0 128 160) s ∧ ∀ k, s.slot k ≠ none)
      ∧ (Admitted .beginUpload .i (beginBytes 100 0 2048 2560) exampleUploads ∧ exampleUploads.slot 3 = none
        ∧ exampleUploads.sc.freeCount < exampleUploads.sc.reserved + 240)
      ∧ (let s := { exampleUploads with sc := { exampleUploads.sc with freeCount := 300 } }
         Admitted .beginUpload .i (beginBytes 16383 0 2048 2560) s ∧ (s.entry 16383).state = .free
          ∧ s.sc.reserved + 240 ≤ s.sc.freeCount ∧ s.slot 3 = none ∧ ∀ j, j < (3 : Fin 4) → s.slot j ≠ none)
      ∧ (Admitted .beginUpload .i (beginBytes 42 1 128 160) portrait ∧ (portrait.entry 42).state = .ready
        ∧ (portrait.entry 42).replacement = none ∧ (portrait.entry 42).upload = none ∧ portrait.slot 0 = none) := by
  unfold Admitted
  refine ⟨?_, ?_, ?_, ?_, ?_, ?_, ?_, ?_⟩ <;> decide +kernel

/-- A Put Pixels payload of n bytes for slot 3 and handle 57. -/
def pixelBytes (slot offset n : Nat) : Bytes := bytes1 slot ++ bytes2 57 ++ bytes4 offset ++ bytes2 n ++ zeros n

theorem witness_PutPixelsRefused :
    (Admitted .putPixels .i (pixelBytes 4 0 1) base ∧ 3 < byteAt (pixelBytes 4 0 1) 0)
      ∧ (Admitted .putPixels .i (pixelBytes 3 0 0) base ∧ word16At (pixelBytes 3 0 0) 7 = 0)
      ∧ (Admitted .putPixels .i (pixelBytes 3 0 4081) base ∧ 4080 < word16At (pixelBytes 3 0 4081) 7)
      ∧ (Admitted .putPixels .i (pixelBytes 3 0 4080) base ∧ base.slot 3 = none)
      ∧ (Admitted .putPixels .i (pixelBytes 3 1 4080) (uploading smallUpload)
        ∧ (uploading smallUpload).slot 3 = some smallUpload ∧ word32At (pixelBytes 3 1 4080) 3 ≠ smallUpload.received)
      ∧ (let u := { smallUpload with received := 61440 }
         Admitted .putPixels .i (pixelBytes 3 61440 1) (uploading u) ∧ (uploading u).slot 3 = some u
          ∧ word32At (pixelBytes 3 61440 1) 3 = u.received ∧ u.expected < 61440 + 1) := by
  unfold Admitted; decide +kernel

/-- The worked-case upload one byte short of its first cluster's end. -/
def spanningUpload : UploadRecord :=
  { smallUpload with width := 1200, height := 1800, expected := 6480000, received := 65535, chain := some (0, 0), held := 1,
                     reserved := 98 }

theorem witness_PutPixelsWritesChunk :
    (Admitted .putPixels .i (pixelBytes 3 0 4080) (uploading smallUpload)
        ∧ (uploading smallUpload).slot 3 = some smallUpload ∧ smallUpload.handle = word16At (pixelBytes 3 0 4080) 1
        ∧ word32At (pixelBytes 3 0 4080) 3 = smallUpload.received
        ∧ smallUpload.received + 4080 ≤ smallUpload.expected ∧ smallUpload.chain = none ∧ smallUpload.held = 0
        ∧ (uploading smallUpload).nextFree = some 0)
      ∧ (Admitted .putPixels .i (pixelBytes 3 65535 2) (uploaded spanningUpload)
        ∧ (uploaded spanningUpload).slot 3 = some spanningUpload
        ∧ word32At (pixelBytes 3 65535 2) 3 = spanningUpload.received
        ∧ spanningUpload.received + 2 ≤ spanningUpload.expected
        ∧ spanningUpload.received ≤ spanningUpload.held * 65536
        ∧ spanningUpload.held * 65536 ≤ spanningUpload.received + 65535
        ∧ spanningUpload.held * 65536 < spanningUpload.received + 2
        ∧ (uploaded spanningUpload).nextFree = some 1)
      ∧ (Admitted .putPixels .i (pixelBytes 3 65535 1) (uploaded spanningUpload)
        ∧ ¬ spanningUpload.held * 65536 < spanningUpload.received + 1) := by
  unfold Admitted; decide +kernel

theorem witness_AllocationTakesNextFree :
    base.sc.cursor ≤ 131072 ∧ base.nextFree = some 0 ∧ portrait.nextFree = some 8 := by decide +kernel

theorem witness_ChainsAreFreedAndRelabelledWhole : portrait.chain 7 = [7] ∧ (portrait.chain 7).Nodup := by
  decide +kernel

theorem witness_UploadEndsWithoutHandOver :
    let s := uploading smallUpload
    let full := { smallUpload with received := 61440, crc := 0, declaredCrc := 0 }
    s.slot 3 = some smallUpload ∧ Admitted .cancelUpload .i [3, 0, 57] s ∧ byteAt [3, 0, 57] 0 = (3 : Fin 4).val
      ∧ word16At [3, 0, 57] 1 = smallUpload.handle
      ∧ (Admitted .endUpload .i [3, 0, 57] s ∧ smallUpload.received < smallUpload.expected)
      ∧ (Admitted .endUpload .i [3, 0, 57] (uploaded full) ∧ full.expected ≤ full.received
        ∧ ~~~ full.crc ≠ full.declaredCrc)
      ∧ (uploading { smallUpload with timer := 0 }).slot 3 = some { smallUpload with timer := 0 }
      ∧ s.slot 0 = none ∧ smallUpload.timer ≠ 0
      ∧ (Admitted .endUpload .i [4, 0, 57] s ∧ 3 < byteAt [4, 0, 57] 0)
      ∧ (Admitted .cancelUpload .i [3, 64, 0] s ∧ 16383 < word16At [3, 64, 0] 1)
      ∧ (Admitted .cancelUpload .i [3, 63, 255] s ∧ word16At [3, 63, 255] 1 = 16383
        ∧ ∀ u, s.slot 3 = some u → u.handle ≠ 16383) := by
  unfold Admitted; decide +kernel

/-- A complete upload of handle 57 in cluster 0, NEW or REPLACE. -/
def wholeUpload (mode : UploadMode) : UploadRecord :=
  { smallUpload with mode, received := 61440, crc := 0xFFFFFFFF, chain := some (0, 0), held := 1, reserved := 0 }

/-- Entry 57 READY with its old image in cluster 7, some pins, and a complete REPLACE upload. -/
def replacing (pins : Nat) : State :=
  let s := (uploaded (wholeUpload .replace)).setEntry 57
    { freeEntry 0 with state := .ready, image := some smallImage, pins, upload := some (3, .replace) }
  s.setCluster 7 (.last false ⟨57, .current⟩)

/-- A part with no class and no layout has the binding counts it should. -/
theorem bindings_of_none (s : State) (hc : s.ru.classes = []) (hl : s.layouts = []) : s.bindingsSound := by
  refine ⟨by simp [hc], fun c _ => by simp [State.classAt, hc], fun n => ?_, fun n _ => ?_⟩ <;>
    simp [State.layout, hc, hl, emptyLayout]

/-- Layout 63 with a placeholder of handle h. -/
def heldLayout (h : Nat) : LayoutFields := { smallLayout with placeholder := some ⟨h, 0⟩ }

/-- A part with class 12 OPEN on layout 4 and waiting for layout 63, whose placeholder is handle h. -/
def awaiting (h : Nat) (s : State) : State :=
  { s with
    layouts := [(4, { fields := some smallLayout, bindings := 1 }), (63, { fields := some (heldLayout h), bindings := 1 })]
    ru := { s.ru with classes := [(12, { openClass4 with pending := some 63 })] } }

theorem awaiting_bindings (h : Nat) (s : State) : (awaiting h s).bindingsSound := by
  refine ⟨rfl, fun c => ?_, fun n => ?_, fun n => ?_⟩
  · exact get_has (fun r : ClassRecord => r.state = .empty → r = emptyClass) emptyClass (fun _ => rfl)
      (awaiting h s).ru.classes (by simp [awaiting, openClass4]) c
  all_goals
    simp only [State.layout, awaiting, Table.get]
    by_cases h4 : n = 4
    · subst h4; simp [namedBy, openClass4, emptyClass]
    · by_cases h63 : n = 63
      · subst h63; simp [namedBy, openClass4, emptyClass]
      · simp [namedBy, openClass4, emptyClass, emptyLayout, Ne.symm h4, Ne.symm h63]

theorem witness_EndUploadHandsOver :
    (Admitted .endUpload .i [3, 0, 57] (uploaded (wholeUpload .new))
        ∧ (uploaded (wholeUpload .new)).slot 3 = some (wholeUpload .new)
        ∧ (wholeUpload .new).received = (wholeUpload .new).expected
        ∧ ~~~ (wholeUpload .new).crc = (wholeUpload .new).declaredCrc ∧ (wholeUpload .new).chain = some (0, 0))
      ∧ (∀ s ∈ [uploaded (wholeUpload .new), replacing 0, replacing 1],
        Table.wf emptyLayout s.layouts = true ∧ s.bindingsSound)
      ∧ (let s := awaiting 57 (uploaded (wholeUpload .new))
         Admitted .endUpload .i [3, 0, 57] s ∧ Table.wf emptyLayout s.layouts = true ∧ s.bindingsSound
          ∧ ((after (.endUpload .i 1 [3, 0, 57]) s).classAt 12).bound = some 63
          ∧ rebindDones true 57 s (after (.endUpload .i 1 [3, 0, 57]) s)
            = [noticeFrame .rebindDone (bytes2 12 ++ bytes1 63)])
      ∧ (Admitted .endUpload .i [3, 0, 57] (replacing 0) ∧ ((replacing 0).entry 57).pins = 0
        ∧ ((replacing 0).entry 57).image = some smallImage)
      ∧ (Admitted .endUpload .i [3, 0, 57] (replacing 1) ∧ 0 < ((replacing 1).entry 57).pins) := by
  refine ⟨by unfold Admitted; decide +kernel, ?_,
    ⟨by unfold Admitted; decide +kernel, by decide +kernel, awaiting_bindings _ _, by decide +kernel, by decide +kernel⟩,
    by unfold Admitted; decide +kernel, by unfold Admitted; decide +kernel⟩
  simp only [List.mem_cons, List.not_mem_nil, or_false, forall_eq_or_imp, forall_eq]
  exact ⟨⟨rfl, bindings_of_none _ rfl rfl⟩, ⟨rfl, bindings_of_none _ rfl rfl⟩, ⟨rfl, bindings_of_none _ rfl rfl⟩⟩

/-- Entry 42 with pins and a replacement in cluster 9. -/
def waitingReplacement (pins : Nat) : State :=
  let s := portrait.setEntry 42
    { freeEntry 0 with state := .damaged, image := some smallImage, pins, replacement := some { smallImage with first := 9 } }
  s.setCluster 9 (.last false ⟨42, .pending⟩)

/-- The same upload with no byte received. -/
def begunReplacing : State :=
  (replacing 0).setSlot 3 (some { wholeUpload .replace with received := 0, chain := none, held := 0 })

theorem witness_DeletePortraitOutcome :
    (Admitted .deletePortrait .i (bytes2 16384) portrait ∧ 16383 < word16At (bytes2 16384) 0)
      ∧ (Admitted .deletePortrait .i (bytes2 16383) portrait ∧ (portrait.entry 16383).state = .free)
      ∧ (Admitted .deletePortrait .i [0, 57] (uploading smallUpload) ∧ ((uploading smallUpload).entry 57).state = .filling)
      ∧ (Admitted .deletePortrait .i [0, 42] (waitingReplacement 1) ∧ 0 < ((waitingReplacement 1).entry 42).pins)
      ∧ (Admitted .deletePortrait .i [0, 42] portrait ∧ (portrait.entry 42).state = .ready
        ∧ (portrait.entry 42).pins = 0 ∧ (portrait.entry 42).upload = none ∧ (portrait.entry 42).image = some smallImage)
      ∧ (Admitted .deletePortrait .i [0, 57] (replacing 0) ∧ ((replacing 0).entry 57).upload = some (3, .replace)
        ∧ (replacing 0).slot 3 = some (wholeUpload .replace) ∧ (wholeUpload .replace).handle = 57
        ∧ ((replacing 0).entry 57).image = some smallImage ∧ (wholeUpload .replace).chain = some (0, 0))
      ∧ (Admitted .deletePortrait .i [0, 57] begunReplacing ∧ (begunReplacing.entry 57).upload = some (3, .replace)
        ∧ (begunReplacing.slot 3).map UploadRecord.chain = some none
        ∧ (after (.deletePortrait .i 1 [0, 57]) begunReplacing).slot 3 = none) := by
  unfold Admitted
  and_intros <;> decide +kernel

theorem witness_ReturnsSetOffAtZero :
    ((waitingReplacement 2).entry 42).pins - 1 ≠ 0
      ∧ (let s := awaiting 42 (waitingReplacement 1)
         (s.entry 42).pins - 1 = 0 ∧ (s.entry 42).replacement = some { smallImage with first := 9 }
          ∧ (s.entry 42).state = .damaged ∧ Table.wf emptyLayout s.layouts = true ∧ s.bindingsSound
          ∧ ((s.unpin 42).classAt 12).bound = some 63)
      ∧ ((rebinding (some 63) 2).classAt 12).inFlight - 1 ≠ 0
      ∧ (((rebinding (some 63) 1).classAt 12).inFlight - 1 = 0
        ∧ ((rebinding (some 63) 1).classAt 12).pending = some 63 ∧ (rebinding (some 63) 1).layoutReady 63 = true)
      ∧ (let s := { base with gs := { base.gs with window := .opening, inFlight := 2 } }
         s.gs.inFlight - 1 ≠ 0)
      ∧ (let s := { base with gs := { base.gs with window := .opening, inFlight := 1 } }
         s.gs.inFlight - 1 = 0 ∧ s.gs.window = .opening) := by
  refine ⟨?_, ⟨?_, ?_, ?_, ?_, awaiting_bindings _ _, ?_⟩, ?_⟩ <;> decide +kernel

theorem witness_GlyphOrders :
    (Admitted .openGlyphWindow .l [] base ∧ base.gs.window = .closed)
      ∧ (Admitted .closeGlyphWindow .l [] (base.setWindow .opening))
      ∧ (Admitted .loadGlyph .l (bytes2 4095 ++ [16, 0] ++ zeros 64) base)
      ∧ (Admitted .loadGlyph .l (bytes2 4094 ++ [17, 0] ++ zeros 64) base)
      ∧ (Admitted .loadGlyph .l (bytes2 4094 ++ [16, 0] ++ zeros 64) base ∧ base.gs.window ≠ .opened)
      ∧ (Admitted .loadGlyph .l (bytes2 4094 ++ [32, 1] ++ zeros 128) (base.setWindow .opened)
        ∧ (base.setWindow .opened).gs.window = .opened)
      ∧ (Admitted .loadGlyph .l (bytes2 0 ++ [16, 0] ++ zeros 64) (base.setWindow .opened)) := by
  unfold Admitted; decide +kernel

theorem witness_CaptionFitsItsBand :
    (0 < smallLayout.captionScale ∧ 32 * smallLayout.captionScale ≤ smallLayout.cap
        ∧ smallLayout.captionScale * ([1, 4, 4].map exampleGlyphs.advance).sum ≤ 76)
      ∧ (let f := { smallLayout with cap := 64 }
         min 2 (f.cap / (32 * f.captionScale)) = 2
          ∧ exampleGlyphs.fitCaption f 30 [1, 4095, 2] = { lines := [[1], [2]], truncated := false, omitted := false })
      ∧ (let f := { smallLayout with ellipsis := 10 }
         exampleGlyphs.fitCaption f 50 [1, 2, 3] = { lines := [[1, 10]], truncated := true, omitted := false }
          ∧ exampleGlyphs.fitCaption f 19 [1, 2, 3] = { lines := [], truncated := false, omitted := true })
      ∧ min 2 ({ smallLayout with cap := 31 }.cap / (32 * smallLayout.captionScale)) = 0 := by decide +kernel

theorem witness_StartStepOutcome :
    (∀ k, base.eligible k = false)
      ∧ ({ base with pln := { planning := some 1, lastServed := 1 } } : State).pln.planning ≠ none
      ∧ (let s := pressing [jobAt (.rendering (barePlan 1)), jobAt .queued] (some (renderingAt 1 1 0 false false))
         s.pln.planning = none ∧ s.pln.lastServed + 1 + 1 = 1 ∧ s.eligible 1 = true ∧ s.eligible 0 = false
          ∧ (s.channel 1).jobs = [jobAt (.rendering (barePlan 1))] ++ jobAt .queued :: []
          ∧ (Job.renderingPlan? (jobAt (.rendering (barePlan 1)))).isSome = true
          ∧ (s.classAt 12).bound = some 4 ∧ (s.layout 4).fields = some smallLayout
          ∧ (jobAt .queued).page < max 1 (((s.classAt 12).roster.length + 1 * 1 - 1) / (1 * 1)))
      ∧ (let j := { jobAt .queued with page := 1 }
         let s := pressing [j] none
         s.eligible 1 = true ∧ (s.channel 1).jobs = [] ++ j :: []
          ∧ max 1 (((s.classAt 12).roster.length + 1 * 1 - 1) / (1 * 1)) ≤ j.page) := by
  refine ⟨?_, ?_, ?_, ?_⟩ <;> decide +kernel

theorem witness_SnapshotSourcesAndPins :
    (exampleSources.entry 42).image = some { smallImage with first := 1 }
      ∧ RosterOrdered (exampleSources.classAt 12).roster := by
  unfold RosterOrdered; decide +kernel

/-- Channel 1 under IMMEDIATE or SHEET with its job in PLANNING behind some jobs. -/
def planning (before : List Job) (source : TriggerSource) (r : Option Rendering) : State :=
  let s := pressing (before ++ [jobAt (.planning (bareSnapshot 1))]) r
  let s := s.setChannel 1 { s.channel 1 with source }
  { s with pln := { planning := some 1, lastServed := 1 } }

/-- A snapshot with a title of n codes, a cell of handle 42 and one of the placeholder, which is handle 42 too. -/
def titled (n band : Nat) : Snapshot :=
  { bareSnapshot 1 with
    layout := { smallLayout with c := 2, t := band, ellipsis := 10, placeholder := some ⟨42, 0⟩ }
    title := List.replicate n 1
    cells := [{ position := 0, subjectId := 1, caption := [1], ref := some ⟨42, 0⟩, source := some 42, reason := none },
      { position := 1, subjectId := 2, caption := [9], ref := none, source := some 42, reason := some .noPortrait }]
    pinned := [{ workedImage 1800 610 with handle := 42 }], pinsPlaceholder := true }

/-- R107, R144: the substitute record, a missing caption glyph, and a title cut at scale 2. -/
theorem test_finished_plan :
    let plan := exampleGlyphs.completePlan (titled 10 64)
    plan.substitute.isSome = true ∧ plan.cells.map Cell.glyphMissing = [false, true]
      ∧ plan.title.line.map GlyphRun.codes = some (List.replicate 8 1 ++ [10]) ∧ plan.title.truncated = true
      ∧ (exampleGlyphs.completePlan (titled 10 63)).title.omitted = true := by decide +kernel

theorem witness_PlanningCompletes :
    base.pln.planning = none
      ∧ (let s := planning [] .sheet none
         s.pln.planning = some 1 ∧ (s.channel 1).jobs = [] ++ jobAt (.planning (bareSnapshot 1)) :: []
          ∧ (s.channel 1).triggered = false)
      ∧ (let s := planning [] .immediate none
         (s.channel 1).triggered = true ∧ (s.channel 1).enabled = true)
      ∧ (let s := planning [jobAt (.rendering (barePlan 1))] .immediate (some (renderingAt 1 1 0 false false))
         (s.channel 1).jobs = [jobAt (.rendering (barePlan 1))] ++ jobAt (.planning (bareSnapshot 1)) :: []
          ∧ (s.channel 1).state = .running)
      ∧ ((titled 10 64).cells[1]?).isSome = true ∧ (titled 10 64).pinsPlaceholder = true
      ∧ ((titled 9 64).title ≠ [] ∧ 32 * 2 ≤ (titled 9 64).layout.t
        ∧ 2 * ((titled 9 64).title.map exampleGlyphs.advance).sum ≤ 512)
      ∧ 512 < 2 * ((titled 10 64).title.map exampleGlyphs.advance).sum
      ∧ (titled 0 64).title = [] ∧ (titled 1 63).layout.t < 32 * 2 := by
  refine ⟨?_, ?_, ?_, ?_, ?_, ?_, ?_, ?_, ?_, ?_⟩ <;> decide +kernel

theorem witness_GridFillsPage :
    let f := workedLayout
    let edge := storedLayout (readLayout (layoutBytes 4 512 512 16 16 0 0 0 0 104 96))
    (1 ≤ f.c ∧ 1 ≤ f.r ∧ 32 * f.c + (f.c - 1) * f.g ≤ f.w ∧ 32 * f.r + f.t + f.r * f.cap + (f.r - 1) * f.v ≤ f.h
        ∧ 45 ≤ f.c * f.r)
      ∧ 32 * edge.c + (edge.c - 1) * edge.g = edge.w
      ∧ 32 * edge.r + edge.t + edge.r * edge.cap + (edge.r - 1) * edge.v = edge.h := by decide +kernel

theorem witness_HeadFittingKeepsFaceInPlace :
    let g := gridOf workedLayout 48
    let t := targetsOf workedLayout g
    let wide := fitImage g t (workedImage 1800 610)
    let short := fitImage g t (workedImage 1500 610)
    32 ≤ g.cw ∧ 32 ≤ g.ch ∧ 0 < t.headHeight
      ∧ (g.cw - 1) * wide.step ≤ 1199 * 65536 ∧ (g.ch - 1) * wide.step ≤ 1799 * 65536
      ∧ 1499 * 65536 < (g.ch - 1) * short.step
      ∧ ((workedImage 1800 150).faceCentre : Int) * 65536 - t.centre * wide.step < 0 := by decide +kernel

theorem witness_ResampledChannelIsRoundedMean :
    blend 255 255 255 255 255 255 = 255 ∧ blend 7 0 255 9 0 0 = 7
      ∧ (portrait.chain 7)[61439 / 65536]? = some 7 ∧ wordOfOffset portrait.sc.map 7 61439 = some (7 * 8192 + 7679) := by
  decide +kernel

/-- A channel record of channel 1. -/
def withChannel (c : Channel) : State := hall.setChannel 1 c

theorem witness_ChannelSetupOrders :
    (Admitted .configureChannel (.p 1) [3, 0, 0, 0, 16, 0] base ∧ 2 < byteAt [3, 0, 0, 0, 16, 0] 0)
      ∧ (Admitted .configureChannel (.p 1) [2, 2, 1, 1, 64, 255] (pressing [jobAt .queued] none)
        ∧ ((pressing [jobAt .queued] none).channel 1).jobs ≠ [])
      ∧ (Admitted .configureChannel (.p 1) [2, 2, 1, 1, 64, 255] base ∧ (base.channel 1).state = .off
        ∧ (base.channel 1).jobs = [] ∧ ChannelMode.band.code = byteAt [2, 2, 1, 1, 64, 255] 0
        ∧ TriggerSource.software.code = byteAt [2, 2, 1, 1, 64, 255] 1
        ∧ BandOrder.reverse.code = byteAt [2, 2, 1, 1, 64, 255] 2)
      ∧ (Admitted .enableChannel (.p 1) [] (pressing [] none) ∧ ((pressing [] none).channel 1).enabled = true)
      ∧ (Admitted .enableChannel (.p 1) [] base ∧ (base.channel 1).enabled = false)
      ∧ (Admitted .disableChannel (.p 1) [] base ∧ (base.channel 1).state = .off)
      ∧ (Admitted .disableChannel (.p 1) [] (pressing [] none) ∧ ((pressing [] none).channel 1).state = .idle
        ∧ ((pressing [] none).channel 1).jobs = [])
      ∧ (Admitted .disableChannel (.p 1) [] (pressing [jobAt .queued] none)
        ∧ ((pressing [jobAt .queued] none).channel 1).state ≠ .off
        ∧ ((pressing [jobAt .queued] none).channel 1).jobs ≠ []) := by
  unfold Admitted
  refine ⟨?_, ?_, ?_, ?_, ?_, ?_, ?_, ?_⟩ <;> decide +kernel

theorem witness_JobListOrders :
    (Admitted .queuePage (.p 1) [2, 0, 0, 1] hall ∧ 511 < word16At [2, 0, 0, 1] 0)
      ∧ (Admitted .queuePage (.p 1) [0, 12, 0, 100] hall ∧ 99 < byteAt [0, 12, 0, 100] 3)
      ∧ (Admitted .queuePage (.p 1) [1, 255, 0, 99] hall ∧ (hall.classAt 511).state = .empty)
      ∧ (let s := pressing (List.replicate 4 (jobAt .queued)) none
         Admitted .queuePage (.p 1) [0, 12, 0, 99] s ∧ 4 ≤ (s.channel 1).jobs.length
          ∧ (s.classAt 12).state ≠ .empty)
      ∧ (let s := pressing (List.replicate 3 (jobAt .queued)) none
         Admitted .queuePage (.p 1) [0, 12, 255, 1] s ∧ (s.channel 1).jobs.length < 4)
      ∧ (Admitted .cancelPage (.p 1) [2, 0, 0] hall ∧ 511 < word16At [2, 0, 0] 0)
      ∧ (Admitted .cancelPage (.p 1) [1, 255, 0] hall ∧ (hall.channel 1).jobs = [])
      ∧ (let s := pressing [jobAt (.planned (barePlan 1))] none
         Admitted .cancelPage (.p 1) [0, 12, 0] s ∧ (s.channel 1).jobs = [jobAt (.planned (barePlan 1))]
          ∧ Job.queued (jobAt (.planned (barePlan 1))) = false)
      ∧ (let s := pressing [jobAt .queued, { jobAt .queued with page := 1 }] none
         Admitted .cancelPage (.p 1) [0, 12, 0] s
          ∧ (s.channel 1).jobs = [] ++ jobAt .queued :: [{ jobAt .queued with page := 1 }]) := by
  unfold Admitted
  refine ⟨?_, ?_, ?_, ?_, ?_, ?_, ?_, ?_, ?_⟩ <;> decide +kernel

theorem witness_TriggersAndCredits :
    (Admitted .sheetReady (.p 1) [] base ∧ (base.channel 1).enabled = false)
      ∧ (let s := pressing [jobAt (.planned (barePlan 1))] none
         Admitted .sheetReady (.p 1) [] s ∧ (s.channel 1).enabled = true ∧ (s.channel 1).source = .sheet
          ∧ (s.channel 1).releaseNeeded = true)
      ∧ (let s := pressing [jobAt .queued] none
         Admitted .sheetReady (.p 1) [] s ∧ (s.channel 1).releaseNeeded = false)
      ∧ (let s := withChannel { pressChannel [] none with source := .chained 3 }
         Admitted .start .l [1] s ∧ byteAt [1] 0 = (1 : Fin 4).val ∧ (s.channel 1).source = .chained 3
          ∧ (s.channel 1).enabled = true)
      ∧ (Admitted .start .l [4] base ∧ 3 < byteAt [4] 0)
      ∧ (Admitted .grantBands (.p 1) [0] base ∧ Admitted .grantBands (.p 1) [9] base)
      ∧ (Admitted .grantBands (.p 1) [1] base ∧ (base.channel 1).enabled = false)
      ∧ (Admitted .grantBands (.p 1) [8] (pressing [] none) ∧ ((pressing [] none).channel 1).enabled = true) := by
  unfold Admitted
  refine ⟨?_, ?_, ?_, ?_, ?_, ?_, ?_, ?_⟩ <;> decide +kernel

theorem witness_ReleaseRaisesBands :
    let p : Plan := { barePlan 0 with
      snap := { bareSnapshot 0 with layout := workedLayout }, grid := gridOf workedLayout 48 }
    let r : Rendering := { renderingAt 1 28 0 false false with bandCount := 122, boundary := 2 }
    let reach (n : Nat) : Nat := min r.bandCount ((rowLimit p.snap.layout p.grid n + 32 - 1) / 32)
    (r.boundary ≤ 2 ∧ 2 ≤ p.snap.layout.r ∧ r.released < reach 2 ∧ reach 2 = 47)
      ∧ (let r : Rendering := { r with released := 122, boundary := 6 }
         r.boundary ≤ p.snap.layout.r ∧ ∀ n, 6 ≤ n → n ≤ 6 → reach n ≤ r.released) := by
  refine ⟨by decide +kernel, by decide +kernel, fun n a b => ?_⟩
  have h : n = 6 := by omega
  subst h
  decide +kernel

/-- Plans with no pinned handle, where no class has a pending layout. -/
theorem quiet_hall (s : State) (p : Plan) (hp : p.snap.pinned = []) (hw : s.gs.window = .closed)
    (hc : ∀ e ∈ s.ru.classes, e.2.pending = none) : QuietReturn s [p.snap] := by
  refine ⟨by simp [hw], fun c => get_has (fun r => r.pending = none) emptyClass rfl _ hc c, ?_⟩
  simp [Snapshot.handles, hp]

/-- The RENDERING page on channel 1 with no band in flight, and its stall timer. -/
def waiting (timer : Option Nat) : State :=
  let s := pressing [jobAt (.rendering (barePlan 1)), jobAt .queued] (some (renderingAt 1 0 0 false false))
  s.setChannel 1 { s.channel 1 with stallTimer := timer }

/-- An ARMED channel 1 whose stall timer has run out. -/
def armed : State :=
  let s := pressing [jobAt (.planned (barePlan 1))] none
  s.setChannel 1 { s.channel 1 with stallTimer := some 0 }

theorem witness_AbortAndStallEndPages :
    (let s := producing 1 (renderingAt 1 1 1 true false)
     Admitted .abortPage (.p 1) [] s ∧ (s.channel 1).renderingPlan? = some (barePlan 1)
      ∧ (s.channel 1).rendering = some (renderingAt 1 1 1 true false))
      ∧ (Admitted .abortPage (.p 1) [] hall ∧ (hall.channel 1).renderingPlan? = none)
      ∧ (Admitted .abortPage (.p 1) [] (waiting none)
        ∧ ((waiting none).channel 1).jobs = jobAt (.rendering (barePlan 1)) :: [jobAt .queued]
        ∧ ((waiting none).channel 1).rendering = some (renderingAt 1 0 0 false false))
      ∧ (((waiting (some 0)).channel 1).stallTimer = some 0 ∧ ((waiting (some 0)).channel 1).state ≠ .armed)
      ∧ ((armed.channel 1).stallTimer = some 0 ∧ (armed.channel 1).jobs = jobAt (.planned (barePlan 1)) :: []
        ∧ (armed.channel 1).enabled = true)
      ∧ ((waiting (some 1)).channel 1).stallTimer ≠ some 0
      ∧ QuietReturn (waiting (some 0)) [(barePlan 1).snap] ∧ QuietReturn armed [(barePlan 1).snap] := by
  unfold Admitted
  refine ⟨?_, ?_, ?_, ?_, ?_, ?_, quiet_hall _ _ rfl rfl ?_, quiet_hall _ _ rfl rfl ?_⟩ <;> decide +kernel

theorem witness_ChannelResetOutcome :
    (Admitted .channelReset (.p 1) [] (waiting none) ∧ ((waiting none).port (.p 1)).up = true
        ∧ (((waiting none).channel 1).rendering.isSome = true ↔ ((waiting none).channel 1).renderingPlan?.isSome = true))
      ∧ QuietReturn (waiting none) (((waiting none).channel 1).jobs.filterMap Job.snap?) := by
  unfold Admitted
  exact ⟨by decide +kernel, quiet_hall (waiting none) (barePlan 1) rfl rfl (by decide +kernel)⟩

/-- A cell of the bare page that draws a handle, with its damage flag. -/
def oneCell (source : Option Nat) (damaged : Bool) : Cell :=
  { position := 0, row := 0, column := 0, x := 0, y := 0, subjectId := 5, source, fitting := none, lines := [], lineY := 0,
    placeholder := none, truncated := false, glyphMissing := false, captionOmitted := false, damagedMidpage := damaged }

/-- A fitting that takes the source as it is. -/
def plainFitting : Fitting := { step := 65536, x0 := 0, y0 := 0, scaleClamped := false, shifted := false, short := false }

/-- A plan of two cells, one drawing handle 42 and one damaged, with handle 42 as placeholder and substitute. -/
def drawnPlan : Plan :=
  { barePlan 1 with
    snap := { bareSnapshot 1 with
      layout := { tinyLayout with placeholder := some ⟨42, 0⟩ }, pinned := [{ workedImage 160 64 with width := 128, first := 7 }] }
    cells := [{ oneCell (some 42) false with fitting := some plainFitting }, oneCell (some 43) true]
    substitute := some plainFitting }

theorem witness_EngineGrantStartsBand :
    (producing 1 (renderingAt 1 1 1 true false)).ce ≠ none ∧ (∀ k, (base.channel k).requests = false)
      ∧ (let p := { barePlan 1 with cells := [oneCell none false, oneCell (some 42) true] }
         let s := pressing [jobAt (.rendering p)] (some (renderingAt 1 1 0 false false))
         s.ce = none ∧ s.pch.lastServed + 1 + 1 = 1 ∧ (s.channel 1).requests = true ∧ (s.channel 0).requests = false
          ∧ (s.channel 1).renderingPlan? = some p ∧ (s.channel 1).rendering = some (renderingAt 1 1 0 false false)
          ∧ p.cells[0]? = some (oneCell none false) ∧ p.cells[1]? = some (oneCell (some 42) true)
          ∧ p.substitute = none)
      ∧ (let s := pressing [jobAt (.rendering drawnPlan)] (some (renderingAt 1 1 0 false false))
         (s.channel 1).requests = true ∧ (s.channel 1).renderingPlan? = some drawnPlan
          ∧ (drawnPlan.cells[0]?.bind Cell.fitting) = some plainFitting ∧ (drawnPlan.snap.imageOf 42).isSome = true
          ∧ drawnPlan.cells[1]? = some (oneCell (some 43) true)
          ∧ ((after .engineGrant s).ce.map (fun b => b.draws.map Option.isSome)) = some [true, true]) := by
  refine ⟨?_, ?_, ?_, ?_⟩ <;> decide +kernel

/-- The drawn plan's band in production, with the two words read that hold the first pixel's neighbours. -/
def drawnBand (rowsLeft : Nat) (second : Option (BitVec 64)) : Band :=
  { bareBand rowsLeft with
    plan := { drawnPlan with grid := { drawnPlan.grid with cw := 1, ch := 2 } }
    draws := [some { image := { workedImage 160 64 with width := 128, first := 7 }, fitting := plainFitting }, none]
    reads := [{ cell := 0, word := 57344, data := some 0x0A0A0A0A0A0A0A0A }, { cell := 0, word := 57392, data := second }] }

/-- R122, R185: a pixel of four equal neighbours, one with a neighbour in an uncorrectable word, and one beside the cell. -/
theorem test_page_pixel :
    portrait.pagePixel (drawnBand 2 (some 0x0A0A0A0A0A0A0A0A)) 0 0 = ⟨10, 10, 10⟩
      ∧ portrait.pagePixel (drawnBand 2 none) 0 0 = ⟨255, 250, 240⟩
      ∧ portrait.pagePixel (drawnBand 2 none) 1 0 = ⟨255, 250, 240⟩ := by decide +kernel

/-- A part with nothing in error has no uncorrectable word. -/
theorem nothing_in_error (s : State) (h : s.sc.errors = []) (w : Nat) : uncorrectable (s.wordFault w) = false := by
  have e : s.wordFault w = readsAs 0#72 := by simp [State.wordFault, h]
  rw [e]; decide +kernel

theorem witness_RowDataSendsOneRow :
    base.ce = none
      ∧ (producing 1 (renderingAt 1 1 1 true false)).ce = some (bareBand 1) ∧ (bareBand 1).rowsLeft ≤ 1
      ∧ (producing 2 (renderingAt 1 1 1 true false)).ce = some (bareBand 2) ∧ 1 < (bareBand 2).rowsLeft
      ∧ (∀ w, uncorrectable ((producing 2 (renderingAt 1 1 1 true false)).wordFault w) = false)
      ∧ (let s := { producing 2 (renderingAt 1 1 1 true false) with sc := { portrait.sc with errors := [(57344, 5)] } }
         uncorrectable (s.wordFault 57344) = true ∧ (s.wordFault 57345) = none)
      ∧ (let s := { producing 2 (renderingAt 1 1 1 true false) with sc := { portrait.sc with errors := [(57344, 4)] } }
         s.wordFault 57344 = some (.correctable 2) ∧ 57344 / 8192 ∉ s.sel.rescrub ∧ s.sel.rescrub.length < 8)
      ∧ (let b := drawnBand 2 (some 0)
         (∃ r ∈ b.reads, r.cell = 0 ∧ r.word = 57344) ∧ (∀ r ∈ b.reads, ¬ (r.cell = 0 ∧ r.word = 57345))
          ∧ b.draws.length = b.plan.cells.length ∧ (b.reads.map (fun r => (r.cell, r.word))).Nodup
          ∧ b.draws[1]? = some none
          ∧ ∃ d q, b.draws[0]? = some (some d) ∧ sampleAt d 0 0 = some q
            ∧ ∀ o ∈ sampleOffsets d.image.width q, ∃ r ∈ b.reads, r.cell = 0 ∧ r.data.isSome = true
              ∧ wordOfOffset portrait.sc.map d.image.first o = some r.word) := by
  refine ⟨?_, ?_, ?_, ?_, ?_, nothing_in_error _ rfl, ?_, ?_, ?_, ?_, ?_, ?_, ?_,
    { image := { workedImage 160 64 with width := 128, first := 7 }, fitting := plainFitting },
    { i0 := 0, i1 := 1, j0 := 0, j1 := 1, fx := 0, fy := 0 }, ?_, ?_⟩ <;> decide +kernel

theorem witness_BandEndOutcome :
    let aborting := producing 0 (renderingAt 1 1 1 true true)
    let last := producing 0 (renderingAt 2 1 1 true false)
    let first := producing 0 (renderingAt 1 1 1 true false)
    let more (released : Nat) := producing 0 { renderingAt 1 released 1 true false with bandCount := 2 }
    let sending := producing 1 (renderingAt 1 1 1 true false)
    base.ce = none ∧ 1 < (bareBand 2).rowsLeft ∧ (bareBand 1).rowsLeft = 1 ∧ (bareBand 0).rowsLeft = 0
      ∧ (aborting.ce = some (bareBand 0) ∧ (aborting.channel 1).enabled = true
        ∧ (aborting.channel 1).jobs = jobAt (.rendering (barePlan 1)) :: []
        ∧ (aborting.channel 1).rendering = some (renderingAt 1 1 1 true true))
      ∧ QuietReturn aborting [(barePlan 1).snap]
      ∧ ((last.channel 1).rendering = some (renderingAt 2 1 1 true false) ∧ (barePlan 1).snap.copies ≤ 2)
      ∧ QuietReturn last [(barePlan 1).snap]
      ∧ ((first.channel 1).rendering = some (renderingAt 1 1 1 true false) ∧ 1 < (barePlan 1).snap.copies)
      ∧ ((more 1).channel 1).rendering = some { renderingAt 1 1 1 true false with bandCount := 2 }
      ∧ ((more 2).channel 1).rendering = some { renderingAt 1 2 1 true false with bandCount := 2 }
      ∧ (sending.ce = some (bareBand 1) ∧ (sending.channel 1).rendering = some (renderingAt 1 1 1 true false))
      ∧ ∀ w, uncorrectable (sending.wordFault w) = false := by
  refine ⟨?_, ?_, ?_, ?_, ?_, quiet_hall _ _ rfl rfl ?_, ?_, quiet_hall _ _ rfl rfl ?_, ?_, ?_, ?_, ?_,
    nothing_in_error _ rfl⟩ <;> decide +kernel

/-- A part whose scrub timer has run out, with wrong bits in the last word of the store. -/
def scrubbing (cursor : Nat) (rescrub : List Nat) (wrong : BitVec 72) : State :=
  { base with
    sc := { base.sc with store := [(8589934584, 4)], errors := [(1073741823, wrong)] }
    sel := { base.sel with cursor, rescrub, timer := some 0 } }

/-- The last word alone does not read clean. -/
theorem scrubbing_words (cursor : Nat) (rescrub : List Nat) (wrong : BitVec 72) (h : (readsAs wrong).isSome = true) (w : Nat) :
    w ∈ [1073741823] ↔ w / 8192 = 131071 ∧ ((scrubbing cursor rescrub wrong).wordFault w).isSome = true := by
  have clean : (readsAs 0#72).isSome = false := by decide +kernel
  by_cases e : w = 1073741823
  · subst e; simpa [scrubbing, State.wordFault, Table.get] using h
  · simp [scrubbing, State.wordFault, Table.get, e, Ne.symm e]

/-- A table of n numbers from a on, all with one value. -/
theorem get_run {α : Type} (d v : α) (n : Nat) : ∀ a m, a ≤ m → m < a + n →
    Table.get d ((List.range' a n).map (fun c => (c, v))) m = v := by
  induction n with
  | zero => intro a m h1 h2; omega
  | succ n ih =>
    intro a m h1 h2
    rw [List.range'_succ, List.map_cons, Table.get]
    split
    · rfl
    · exact ih (a + 1) m (by omega) (by omega)

/-- A part with every cluster RETIRED and the scrub timer run out. -/
def wornOut : State :=
  { scrubbing 5 [9] 4 with
    sc := { base.sc with map := (List.range' 0 131072).map (fun c => (c, ClusterEntry.retired)) } }

theorem wornOut_retired (c : Nat) (h : c < 131072) : wornOut.cluster c = .retired :=
  get_run ClusterEntry.free ClusterEntry.retired 131072 0 c (by omega) (by omega)

/-- R177: a sweep that passes over a RETIRED cluster and one of an upload. -/
def passing : State :=
  ((scrubbing 131069 [] 4).setCluster 131069 .retired).setCluster 131070 (.last false ⟨57, .upload⟩)

theorem witness_ScrubVisitCorrectsWords :
    base.sel.timer ≠ some 0
      ∧ (wornOut.sel.timer = some 0 ∧ wornOut.sel.cursor < 131072 ∧ (∀ d ∈ wornOut.sel.rescrub, wornOut.cluster d = .retired)
        ∧ ∀ n, n < 131072 → wornOut.cluster ((wornOut.sel.cursor + n) % 131072) = .retired)
      ∧ (let s := (scrubbing 0 [9, 131071] 4).setCluster 9 .retired
         s.sel.timer = some 0 ∧ Table.wf 0#72 s.sc.errors = true ∧ s.sel.rescrub = [9] ++ 131071 :: []
          ∧ s.cluster 9 = .retired ∧ s.cluster 131071 ≠ .retired)
      ∧ (∀ w, w ∈ [1073741823] ↔ w / 8192 = 131071 ∧ ((scrubbing 0 [9, 131071] 4).wordFault w).isSome = true)
      ∧ uncorrectable ((scrubbing 0 [9, 131071] 4).wordFault 1073741823) = false
      ∧ uncorrectable ((scrubbing 0 [9, 131071] 5).wordFault 1073741823) = true
      ∧ (∀ w, w ∈ [1073741823] ↔ w / 8192 = 131071 ∧ ((scrubbing 0 [9, 131071] 5).wordFault w).isSome = true)
      ∧ ((scrubbing 131071 [] 4).sel.cursor = 131071 ∧ (131071 + 1) % 131072 = 0
        ∧ (scrubbing 131071 [] 4).cluster 131071 = .free)
      ∧ (passing.sel.rescrub = [] ∧ 131071 = (passing.sel.cursor + 2) % 131072
        ∧ passing.cluster (131069 + 0) = .retired
        ∧ (passing.cluster (131069 + 1)).owner? = some ⟨57, .upload⟩ ∧ passing.cluster 131071 = .free
        ∧ (after .scrubTimerExpiry passing).sel.cursor = 0) := by
  refine ⟨by decide +kernel, ⟨by decide +kernel, by decide +kernel, ?_, fun n _ => wornOut_retired _ (Nat.mod_lt _ (by omega))⟩,
    by decide +kernel, scrubbing_words _ _ _ (by decide +kernel), by decide +kernel, by decide +kernel,
    scrubbing_words _ _ _ (by decide +kernel), by decide +kernel, by decide +kernel⟩
  intro d h
  have : d = 9 := by simpa [wornOut, scrubbing] using h
  exact wornOut_retired d (by omega)

theorem witness_FaultActsByOwner :
    ((base.setCluster 5 .retired).cluster 5 = .retired)
      ∧ ((portrait.setCluster 7 (.last true ⟨42, .current⟩)).cluster 7).suspect = true
      ∧ (base.cluster 5 = .free ∧ base.sc.reserved < base.sc.freeCount)
      ∧ ((portrait.cluster 7).owner? = some ⟨42, .current⟩ ∧ (portrait.cluster 7).suspect = false)
      ∧ (((waitingReplacement 1).cluster 9).owner? = some ⟨42, .pending⟩
        ∧ ((waitingReplacement 1).entry 42).replacement = some { smallImage with first := 9 }
        ∧ (waitingReplacement 1).chain 9 = [9]) := by decide +kernel

/-- Slots 3 and 2 OPEN, each with one cluster reserved, and as many FREE clusters as given. -/
def tightStore (openList : List (Fin 4)) (freeCount reserved : Nat) : State :=
  let s := uploading smallUpload
  let s := if openList = [3] then s else s.setSlot 2 (some { smallUpload with handle := 58 })
  { s with ie := { s.ie with openList }, sc := { s.sc with freeCount, reserved } }

theorem witness_FaultFailsUpload :
    let u := { smallUpload with received := 1, chain := some (0, 0), held := 1, reserved := 0 }
    ((uploaded u).openListSound
        ∧ (uploaded u).slot 3 = some u ∧ ((uploaded u).cluster 0).owner? = some ⟨u.handle, .upload⟩
        ∧ (∀ j, (uploaded u).slot j ≠ none → j = 3) ∧ (uploaded u).chain 0 = [0] ∧ (uploaded u).sel.log = none)
      ∧ ((tightStore [3] 1 1).openListSound ∧ (tightStore [3] 1 1).cluster 5 = .free
        ∧ [3].flatMap (tightStore [3] 1 1).slotChain = []
        ∧ 1 - ([3].map (tightStore [3] 1 1).slotReserved).sum ≤ 1 - 1 + 0 ∧ ¬ 1 - 0 ≤ 1 - 1 + 0)
      ∧ ((tightStore [3, 2] 1 2).openListSound
        ∧ ((tightStore [3, 2] 1 2).takeFault .scrub 5 8 1 none).ie.openList = []
        ∧ (((tightStore [3, 2] 1 2).takeFault .scrub 5 8 1 none).port .i).waiting.map (fun f => f.payload.take 3)
          = [[2, 0, 58], [3, 0, 57]])
      ∧ ((tightStore [3, 2] 2 2).takeFault .scrub 5 8 1 none).ie.openList = [3] := by
  unfold State.openListSound
  refine ⟨?_, ?_, ?_, ?_⟩ <;> decide +kernel

theorem witness_QueriesAndClearErrorLog :
    (Admitted .queryLayout .i [63] early ∧ Admitted .queryLayout .i [64] early)
      ∧ (Admitted .queryClass (.p 0) [1, 255, 255] early ∧ Admitted .queryClass (.p 0) [2, 0, 0] early)
      ∧ (Admitted .queryPortrait .l (bytes2 16383) early ∧ Admitted .queryPortrait .l (bytes2 16384) early)
      ∧ Admitted .queryStore .l [] early
      ∧ (Admitted .queryGlyph .l (bytes2 4095) early ∧ Admitted .queryGlyph .l (bytes2 4096) early)
      ∧ (Admitted .queryChannel .l [3] early ∧ (3 : Fin 4).val = byteAt [3] 0)
      ∧ (Admitted .queryChannel .l [4] early ∧ 3 < byteAt [4] 0)
      ∧ Admitted .queryLink (.p 3) [] early
      ∧ Admitted .clearErrorLog .l [] base := by
  unfold Admitted
  refine ⟨?_, ?_, ?_, ?_, ?_, ?_, ?_, ?_, ?_⟩ <;> decide +kernel

/-- Class 12's in-flight count, and the window. -/
def settled (s : State) (n : Nat) (w : WindowState) : State :=
  (s.setClass 12 { openClass4 with inFlight := n }).setWindow w

theorem witness_HallClearOutcome :
    let s := settled (waiting none) 1 .opening
    (Admitted .hallClear .l [] s ∧ s.openListSound ∧ Table.wf ClusterEntry.free s.sc.map = true)
      ∧ s.windowSound ∧ s.inFlightSound
      ∧ sent (.hallClear .l 1 []) .l s = [0x0141, 0x0832] ∧ sent (.hallClear .l 1 []) (.p 1) s = [0x0812, 0x0813] := by
  refine ⟨by unfold Admitted State.openListSound; decide +kernel, by unfold State.windowSound; decide +kernel, ?_,
    by decide +kernel, by decide +kernel⟩
  have plans : (settled (waiting none) 1 .opening).plansInFlight = [bareSnapshot 1] := by decide +kernel
  have classes : (settled (waiting none) 1 .opening).ru.classes = [(12, { openClass4 with inFlight := 1 })] := by
    decide +kernel
  refine ⟨fun c => ?_, by rw [plans]; decide +kernel, fun c => ?_⟩
  · exact get_has (fun r : ClassRecord => r.state = .empty → r = emptyClass) emptyClass (fun _ => rfl)
      (settled (waiting none) 1 .opening).ru.classes (by decide +kernel) c
  · rw [plans]
    by_cases h : c = 12
    · subst h; decide +kernel
    · simp [State.classAt, classes, Table.get, Ne.symm h, emptyClass, bareSnapshot]

/-- An upload with two clusters to come, its first one filled but for a byte, and its Put Pixels in front. -/
def storing : State :=
  let s := uploaded spanningUpload
  { s with sc := { s.sc with reserved := 98 }, pending := [.putPixels .i 1 (pixelBytes 3 65535 2)] }

theorem storing_sound : storing.storeSound := by
  have slots : ∀ k u, storing.slot k = some u → k = 3 ∧ u = spanningUpload := by decide +kernel
  have holders : storing.chainHolders = [(0, ⟨57, .upload⟩, 1)] := by decide +kernel
  have map : storing.sc.map = [(0, .last false ⟨57, .upload⟩)] := by decide +kernel
  have pdir : storing.pdir = [(57, { freeEntry 0 with state := .filling, upload := some (3, .new) })] := by decide +kernel
  have chain : storing.chain 0 = [0] := by decide +kernel
  iterate 9 refine And.intro (by decide +kernel) ?_
  refine ⟨?_, ?_, ?_, ?_, ?_⟩
  · intro k u h
    obtain ⟨rfl, rfl⟩ := slots k u h
    iterate 10 refine And.intro (by decide) ?_
    refine ⟨?_, by decide +kernel, by decide +kernel⟩
    intro first last e
    have : first = 0 ∧ last = 0 := by simpa [spanningUpload, eq_comm] using e
    rw [this.1, this.2, chain]; rfl
  · intro h
    by_cases e : h = 57
    · subst e
      have f : storing.entry 57 = { freeEntry 0 with state := .filling, upload := some (3, .new) } := by decide +kernel
      refine ⟨?_, by rw [f]; exact ⟨rfl, by simp⟩⟩
      intro k mode hu
      have : k = 3 ∧ mode = .new := by simpa [State.entry, pdir, Table.get, eq_comm] using hu
      rw [this.1, this.2]
      exact ⟨spanningUpload, by decide +kernel, by decide, by decide⟩
    · have f : storing.entry h = freeEntry 0 := by simp [State.entry, pdir, Table.get, Ne.symm e]
      rw [f]
      exact ⟨by simp [freeEntry], rfl⟩
  · rw [holders]
    intro holder hm
    have : holder = (0, ⟨57, .upload⟩, 1) := by simpa using hm
    subst this
    rw [chain]
    exact ⟨rfl, by decide, by decide +kernel, 0, false, rfl, by decide +kernel⟩
  · rw [holders]; simp [chain]
  · intro c hc
    rw [holders]
    by_cases e : c = 0
    · exact ⟨(0, ⟨57, .upload⟩, 1), by simp, by rw [chain]; simp [e]⟩
    · simp [State.cluster, map, Table.get, Ne.symm e, ClusterEntry.owner?] at hc

/-- A next state that passes a test. -/
theorem next_with (o : Result) (test : State → Bool) (h : (match o with | .next t => test t | _ => false) = true) :
    ∃ t, o = .next t ∧ test t = true := by
  cases o with
  | next t => exact ⟨t, rfl, h⟩
  | fault f => simp at h
  | refused r => simp at h

theorem witness_CommandsNeverStop :
    storing.storeSound ∧ storing.openListSound
      ∧ ∃ t, step storing = .next t ∧ decide ((t.slot 3).map UploadRecord.held = some 2) = true :=
  ⟨storing_sound, by unfold State.openListSound; decide +kernel, next_with _ _ (by decide +kernel)⟩

/-- A sound part with a QUEUED job whose next command is its start step. -/
def aboutToPlan : State := { pressing [jobAt .queued] none with pending := [.planningStartStep] }

theorem aboutToPlan_steps : ∃ t, step aboutToPlan = .next t := ⟨_, rfl⟩

theorem witness_StepKeepsCanonicalForm : aboutToPlan.canonical ∧ ∃ t, step aboutToPlan = .next t := by
  unfold State.canonical
  exact ⟨by decide +kernel, aboutToPlan_steps⟩

theorem witness_StepKeepsRostersAndBindings :
    aboutToPlan.rosterSound ∧ aboutToPlan.bindingsSound ∧ ∃ t, step aboutToPlan = .next t := by
  have classes : aboutToPlan.ru.classes = [(12, openClass4)] := by decide +kernel
  have layouts : aboutToPlan.layouts = [(4, { fields := some smallLayout, bindings := 1 })] := by decide +kernel
  have empties : ∀ c, (aboutToPlan.classAt c).state = .empty → aboutToPlan.classAt c = emptyClass := fun c =>
    get_has (fun r : ClassRecord => r.state = .empty → r = emptyClass) emptyClass (fun _ => rfl) aboutToPlan.ru.classes
      (by decide +kernel) c
  refine ⟨⟨by decide +kernel, fun c => ?_, empties, by decide +kernel⟩, ⟨by decide +kernel, empties, fun n => ?_, fun n => ?_⟩,
    aboutToPlan_steps⟩
  · exact get_has (fun r : ClassRecord => RosterOrdered r.roster) emptyClass (by unfold RosterOrdered; decide +kernel)
      aboutToPlan.ru.classes (by unfold RosterOrdered; decide +kernel) c
  · by_cases h : n = 4
    · subst h; decide +kernel
    · simp [State.layout, layouts, classes, Table.get, namedBy, openClass4, emptyClass, emptyLayout, Ne.symm h]
  · by_cases h : n = 4
    · subst h; decide +kernel
    · simp [State.layout, layouts, Table.get, emptyLayout, Ne.symm h]

/-- R35: a FROZEN class whose next command is the deletion of another class. -/
theorem witness_frozen_class :
    let s : State := { hall.setClass 12 { openClass4 with state := .frozen } with pending := [.deleteClass .l 1 [0, 13]] }
    (s.classAt 12).state = .frozen ∧ (s.classAt 12).pending = none ∧ s.pending = [.deleteClass .l 1 [0, 13]]
      ∧ word16At [0, 13] 0 ≠ 12 := by decide +kernel

theorem witness_StepKeepsOpenListAndBounds :
    aboutToPlan.openListSound ∧ aboutToPlan.bounded ∧ ∃ t, step aboutToPlan = .next t := by
  unfold State.openListSound State.bounded
  exact ⟨by decide +kernel, by decide +kernel, aboutToPlan_steps⟩

theorem witness_StepKeepsChannelsSound : aboutToPlan.channelsSound ∧ ∃ t, step aboutToPlan = .next t := by
  refine ⟨fun k => ⟨?_, ?_⟩, aboutToPlan_steps⟩
  · by_cases h : k = 1
    · exact ⟨[], [], [jobAt .queued], by subst h; decide +kernel, by decide, by decide, by decide, by decide,
        by decide +kernel⟩
    · refine ⟨[], [], [], ?_, by decide, by decide, by decide, by decide, by decide⟩
      revert k; decide +kernel
  · have hce : aboutToPlan.ce = none := by decide +kernel
    have hpl : aboutToPlan.pln.planning = none := by decide +kernel
    refine ⟨?_, ?_, ?_, ?_, ?_⟩
    · revert k; decide +kernel
    · revert k; decide +kernel
    · simp only [hpl]; revert k; decide +kernel
    · have h : (aboutToPlan.channel k).rendering = none := by revert k; decide +kernel
      simp [hce, h]
    · revert k; decide +kernel

/-- A part with a page in PLANNING that pins handle 42, whose next command is its completion. -/
def pinned : State :=
  let s := pressing [jobAt (.planning (titled 0 0))] none
  let s := (s.setClass 12 { openClass4 with inFlight := 1 }).setEntry 42
    { freeEntry 0 with state := .ready, image := some smallImage, pins := 1 }
  { s with pln := { planning := some 1, lastServed := 1 }, pending := [.planningCompletion] }

theorem witness_StepKeepsInFlightCounts :
    pinned.inFlightSound ∧ pinned.pinsSound ∧ pinned.windowSound ∧ 0 < pinned.gs.inFlight
      ∧ ∃ t, step pinned = .next t ∧ decide ((t.entry 42).pins = 1) = true := by
  have plans : pinned.plansInFlight = [titled 0 0] := by decide +kernel
  have classes : pinned.ru.classes = [(12, { openClass4 with inFlight := 1 })] := by decide +kernel
  have pdir : pinned.pdir = [(42, { freeEntry 0 with state := .ready, image := some smallImage, pins := 1 })] := by
    decide +kernel
  refine ⟨⟨fun c => ?_, by rw [plans]; decide +kernel, fun c => ?_⟩, ⟨by rw [plans]; decide +kernel, fun h => ?_, fun h => ?_⟩,
    by unfold State.windowSound; decide +kernel, by decide +kernel, next_with _ _ (by decide +kernel)⟩
  · exact get_has (fun r : ClassRecord => r.state = .empty → r = emptyClass) emptyClass (fun _ => rfl) pinned.ru.classes
      (by decide +kernel) c
  · rw [plans]
    by_cases h : c = 12
    · subst h; decide +kernel
    · simp [State.classAt, classes, Table.get, Ne.symm h, emptyClass, titled, bareSnapshot]
  · rw [plans]
    by_cases e : h = 42
    · subst e; decide +kernel
    · simp [State.entry, pdir, Table.get, Ne.symm e, freeEntry, titled, Snapshot.handles, workedImage]
  · by_cases e : h = 42
    · subst e; decide +kernel
    · simp [State.entry, pdir, Table.get, Ne.symm e, freeEntry]
end Sys2Proof.Tests
end

section
/-! PROOFS. Sums over the Class Table, and the roster order of R21: what an insertion and a removal do to a roster. -/

set_option Elab.async false

namespace Sys2Proof.Machine

/-! ### Sums over a table -/

/-- An inserted entry adds its figure to the sum. -/
theorem Table.sum_insert {α : Type} (f : α → Nat) (n : Nat) (v : α) (t : Table α) :
    ((Table.insert n v t).map (fun e => f e.2)).sum = f v + (t.map (fun e => f e.2)).sum := by
  induction t with
  | nil => simp [Table.insert]
  | cons e rest ih =>
    obtain ⟨k, w⟩ := e
    unfold Table.insert
    split
    · simp
    · simp only [List.map_cons, List.sum_cons, ih]; omega

/-- Without a number the sum loses what the table holds for it. -/
theorem Table.sum_others {α : Type} (d : α) (f : α → Nat) (hd : f d = 0) (n : Nat) (t : Table α)
    (hp : t.Pairwise (fun a b => a.1 < b.1)) :
    ((t.filter (fun e => decide (e.1 ≠ n))).map (fun e => f e.2)).sum + f (Table.get d t n)
      = (t.map (fun e => f e.2)).sum := by
  induction t with
  | nil => simpa using hd
  | cons e rest ih =>
    obtain ⟨k, w⟩ := e
    obtain ⟨hk, hr⟩ := List.pairwise_cons.mp hp
    by_cases h : k = n
    · subst h
      have habsent : ∀ e ∈ rest, e.1 ≠ k := fun e he => Nat.ne_of_gt (hk e he)
      have hall : rest.filter (fun e => decide (e.1 ≠ k)) = rest :=
        List.filter_eq_self.mpr (fun e he => by simpa using habsent e he)
      have hf : List.filter (fun e : Nat × α => decide (e.1 ≠ k)) ((k, w) :: rest) = rest := by
        rw [List.filter_cons_of_neg (by simp), hall]
      rw [hf]
      simp [Table.get, Nat.add_comm]
    · have hf : List.filter (fun e : Nat × α => decide (e.1 ≠ n)) ((k, w) :: rest)
          = (k, w) :: List.filter (fun e => decide (e.1 ≠ n)) rest := by simp [h]
      have hg : Table.get d ((k, w) :: rest) n = Table.get d rest n := by simp [Table.get, h]
      have := ih hr
      rw [hf, hg]
      simp only [List.map_cons, List.sum_cons]
      omega

/-- A set exchanges in the sum the figure of the old value for that of the new one. -/
theorem Table.sum_set {α : Type} [DecidableEq α] (d : α) (f : α → Nat) (hd : f d = 0) (t : Table α) (n : Nat) (v : α)
    (hw : Table.wf d t = true) :
    ((Table.set d t n v).map (fun e => f e.2)).sum + f (Table.get d t n) = (t.map (fun e => f e.2)).sum + f v := by
  have ho := Table.sum_others d f hd n t ((Table.wf_iff d t).mp hw).2
  unfold Table.set
  simp only
  split
  · next h => rw [h, hd]; exact ho
  · rw [Table.sum_insert]; omega

/-- The figure of a number is at most the sum. -/
theorem Table.le_sum {α : Type} [DecidableEq α] (d : α) (f : α → Nat) (hd : f d = 0) (t : Table α) (n : Nat)
    (hw : Table.wf d t = true) : f (Table.get d t n) ≤ (t.map (fun e => f e.2)).sum := by
  have := Table.sum_others d f hd n t ((Table.wf_iff d t).mp hw).2
  omega

/-! ### Roster order (R21) -/

theorem Role.code_inj {a b : Role} : a = b ↔ a.code = b.code := by
  cases a <;> cases b <;> simp [Role.code]

/-- The order of R21 over numbers: role code, then sort key, then subject id. -/
theorem standsBefore_iff (a b : Subject) :
    standsBefore a b = true ↔ a.role.code < b.role.code ∨ (a.role.code = b.role.code
      ∧ (a.sortKey < b.sortKey ∨ (a.sortKey = b.sortKey ∧ a.id < b.id))) := by
  simp [standsBefore, Role.code_inj]

theorem standsBefore_trans {a b c : Subject} (hab : standsBefore a b = true) (hbc : standsBefore b c = true) :
    standsBefore a c = true := by
  rw [standsBefore_iff] at *
  omega

/-- Of two records with different subject ids one stands before the other. -/
theorem standsBefore_of_not {a b : Subject} (hid : a.id ≠ b.id) (h : ¬ standsBefore a b = true) :
    standsBefore b a = true := by
  rw [standsBefore_iff] at *
  omega

/-- An insertion adds the record and nothing else. -/
theorem insertSubject_perm (roster : List Subject) (x : Subject) : (insertSubject roster x).Perm (x :: roster) := by
  induction roster with
  | nil => exact List.Perm.refl _
  | cons y rest ih =>
    unfold insertSubject
    split
    · exact (ih.cons y).trans (List.Perm.swap x y rest)
    · exact List.Perm.refl _

/-- An insertion keeps the order. -/
theorem insertSubject_pairwise {roster : List Subject} {x : Subject}
    (hp : roster.Pairwise (fun a b => standsBefore a b = true)) (hid : ∀ y ∈ roster, y.id ≠ x.id) :
    (insertSubject roster x).Pairwise (fun a b => standsBefore a b = true) := by
  induction roster with
  | nil => simp [insertSubject]
  | cons y rest ih =>
    obtain ⟨hy, hr⟩ := List.pairwise_cons.mp hp
    unfold insertSubject
    split
    · next hyx =>
      refine List.pairwise_cons.mpr ⟨fun z hz => ?_, ih hr (fun z hz => hid z (List.mem_cons_of_mem _ hz))⟩
      rcases List.mem_cons.mp ((insertSubject_perm rest x).mem_iff.mp hz) with rfl | hz
      · exact hyx
      · exact hy z hz
    · next hyx =>
      have hxy : standsBefore x y = true := standsBefore_of_not (hid y List.mem_cons_self) hyx
      refine List.pairwise_cons.mpr ⟨fun z hz => ?_, hp⟩
      rcases List.mem_cons.mp hz with rfl | hz
      · exact hxy
      · exact standsBefore_trans hxy (hy z hz)

theorem holdsId_iff (roster : List Subject) (id : Nat) : holdsId roster id = true ↔ id ∈ roster.map Subject.id := by
  simp [holdsId]

/-- A present reference is named when its handle is one of the roster's. -/
theorem namesHandle_some (roster : List Subject) (r : PortraitRef) :
    namesHandle roster (some r) = true ↔ r.handle ∈ roster.filterMap (fun x => x.ref.map PortraitRef.handle) := by
  simp [namesHandle, List.mem_filterMap, Option.any_eq_true]

/-- A record of a new subject with a new handle goes into a roster that is not full (R21, R24). -/
theorem RosterOrdered.insert {roster : List Subject} {x : Subject} (h : RosterOrdered roster)
    (hid : ¬ holdsId roster x.id = true) (href : ¬ namesHandle roster x.ref = true)
    (hlen : roster.length < Config.rosterMax) : RosterOrdered (insertSubject roster x) := by
  obtain ⟨hpair, hids, hrefs, -⟩ := h
  have hperm := insertSubject_perm roster x
  rw [holdsId_iff] at hid
  refine ⟨insertSubject_pairwise hpair (fun y hy hyx => hid (hyx ▸ List.mem_map_of_mem hy)), ?_, ?_, ?_⟩
  · exact (hperm.map Subject.id).nodup_iff.mpr (List.nodup_cons.mpr ⟨hid, hids⟩)
  · refine (hperm.filterMap _).nodup_iff.mpr ?_
    cases hx : x.ref with
    | none => simpa [List.filterMap_cons, hx] using hrefs
    | some r =>
      rw [hx, namesHandle_some] at href
      simpa [List.filterMap_cons, hx, -List.mem_filterMap] using ⟨href, hrefs⟩
  · rw [hperm.length_eq]; exact hlen

/-- A removal keeps a roster in order. -/
theorem RosterOrdered.without {roster : List Subject} (h : RosterOrdered roster) (id : Nat) :
    RosterOrdered (withoutSubject roster id) := by
  obtain ⟨hpair, hids, hrefs, hlen⟩ := h
  have hsub : (withoutSubject roster id).Sublist roster := List.filter_sublist
  exact ⟨hpair.sublist hsub, hids.sublist (hsub.map _), hrefs.sublist (hsub.filterMap _), hsub.length_le.trans hlen⟩

theorem holdsId_withoutSubject (roster : List Subject) (id : Nat) : ¬ holdsId (withoutSubject roster id) id = true := by
  simp [holdsId, withoutSubject]

/-- The removal of a subject that the roster holds once shortens it by one. -/
theorem length_withoutSubject {roster : List Subject} {id : Nat} (hnd : (roster.map Subject.id).Nodup)
    (hid : holdsId roster id = true) : (withoutSubject roster id).length + 1 = roster.length := by
  induction roster with
  | nil => simp [holdsId] at hid
  | cons y rest ih =>
    obtain ⟨hy, hr⟩ := List.nodup_cons.mp (by simpa using hnd : (y.id :: rest.map Subject.id).Nodup)
    by_cases hyid : y.id = id
    · subst hyid
      have hall : withoutSubject rest y.id = rest :=
        List.filter_eq_self.mpr (fun z hz => by
          have : z.id ≠ y.id := fun he => hy (he ▸ List.mem_map_of_mem hz)
          simpa using this)
      have hcons : withoutSubject (y :: rest) y.id = withoutSubject rest y.id :=
        List.filter_cons_of_neg (by simp)
      rw [hcons, hall, List.length_cons]
    · have hcons : withoutSubject (y :: rest) id = y :: withoutSubject rest id :=
        List.filter_cons_of_pos (by simpa using hyid)
      have hrest : holdsId rest id = true := by simpa [holdsId, hyid] using hid
      simp only [hcons, List.length_cons, ih hr hrest]

/-- No subject is twice in a roster (R21). -/
theorem RosterOrdered.ids_nodup {roster : List Subject} (h : RosterOrdered roster) : (roster.map Subject.id).Nodup := by
  obtain ⟨-, hids, -, -⟩ := h
  exact hids

theorem RosterOrdered.length_le {roster : List Subject} (h : RosterOrdered roster) :
    roster.length ≤ Config.rosterMax := by
  obtain ⟨-, -, -, hlen⟩ := h
  exact hlen

theorem rosterOrdered_nil : RosterOrdered [] := by simp [RosterOrdered]

end Sys2Proof.Machine
end

section
/-! PROOFS. What every step keeps of the Roster Unit and the Layout Table: the relation, its closure, and the rules by which
a change of one class, or of the layouts alone, keeps them (R13, R19, R21, R35). -/

set_option Elab.async false

namespace Sys2Proof.Machine

/-! ### The relation -/

/-- A FROZEN class with no pending layout stays as it is (R35). -/
def KeepsFrozen (c : Nat) (s t : State) : Prop :=
  (s.classAt c).state = .frozen → (s.classAt c).pending = none →
    (t.classAt c).state = .frozen ∧ (t.classAt c).roster = (s.classAt c).roster
      ∧ (t.classAt c).title = (s.classAt c).title ∧ (t.classAt c).bound = (s.classAt c).bound
      ∧ (t.classAt c).pending = none

/-- Rosters, pool and binding counts stay sound, and every FROZEN class but the `lost` ones stays as it is. -/
structure KeepsHall (lost : Nat → Prop) (s t : State) : Prop where
  rosters : s.rosterSound → t.rosterSound
  bindings : s.bindingsSound → t.bindingsSound
  frozen : ∀ c, ¬ lost c → KeepsFrozen c s t

variable {lost : Nat → Prop} {s t u : State}

theorem KeepsFrozen.of_classAt {c : Nat} (h : t.classAt c = s.classAt c) : KeepsFrozen c s t := fun hf hp => by
  rw [h]; exact ⟨hf, rfl, rfl, rfl, hp⟩

theorem KeepsFrozen.trans {c : Nat} (h1 : KeepsFrozen c s t) (h2 : KeepsFrozen c t u) : KeepsFrozen c s u := by
  intro hf hp
  obtain ⟨hf1, hr1, ht1, hb1, hp1⟩ := h1 hf hp
  obtain ⟨hf2, hr2, ht2, hb2, hp2⟩ := h2 hf1 hp1
  exact ⟨hf2, hr2.trans hr1, ht2.trans ht1, hb2.trans hb1, hp2⟩

theorem KeepsHall.trans (h1 : KeepsHall lost s t) (h2 : KeepsHall lost t u) : KeepsHall lost s u :=
  ⟨h2.rosters ∘ h1.rosters, h2.bindings ∘ h1.bindings, fun c hc => (h1.frozen c hc).trans (h2.frozen c hc)⟩

/-- With the Roster Unit as it was, layouts may take other fields as long as their counts stay, and an EMPTY one's is 0. -/
theorem KeepsHall.of_layouts (hru : t.ru = s.ru) (hb : ∀ n, (t.layout n).bindings = (s.layout n).bindings)
    (hf : ∀ n, (t.layout n).fields = none → (s.layout n).fields = none ∨ (s.layout n).bindings = 0) :
    KeepsHall lost s t where
  rosters h := by simpa only [State.rosterSound, State.classAt, hru] using h
  bindings h := by
    obtain ⟨hw, he, hn, hz⟩ := h
    refine ⟨hru ▸ hw, fun c => by simpa only [State.classAt, hru] using he c, fun n => ?_, fun n hnone => ?_⟩
    · rw [hb, hru]; exact hn n
    · rw [hb]; exact (hf n hnone).elim (hz n) id
  frozen c _ := KeepsFrozen.of_classAt (State.classAt_congr _ _ _ hru)

theorem KeepsHall.of_same (hru : t.ru = s.ru) (hl : t.layouts = s.layouts) : KeepsHall lost s t :=
  have hlay n : t.layout n = s.layout n := State.layout_congr _ _ n hl
  KeepsHall.of_layouts hru (fun n => by rw [hlay]) (fun n h => Or.inl (by rwa [hlay] at h))

theorem KeepsHall.refl (s : State) : KeepsHall lost s s := KeepsHall.of_same rfl rfl

theorem KeepsHall.foldl {α : Type} {f : State → α → State} (h : ∀ s a, KeepsHall lost s (f s a)) (l : List α)
    (s : State) : KeepsHall lost s (l.foldl f s) := by
  induction l generalizing s with
  | nil => exact KeepsHall.refl s
  | cons a rest ih => exact (h s a).trans (ih _)

/-- The Roster Unit is as it was where it is not touched. -/
theorem Touches.ru {blocks : List Block} (h : Touches blocks s t) (hru : .ru ∉ blocks := by decide) : t.ru = s.ru := by
  obtain ⟨-, -, -, -, hsame⟩ := h
  exact hsame .ru (by simpa using hru)

/-- The Layout Table is as it was where it is not touched. -/
theorem Touches.layouts {blocks : List Block} (h : Touches blocks s t) (hlt : .lt ∉ blocks := by decide) :
    t.layouts = s.layouts := by
  obtain ⟨-, -, -, -, hsame⟩ := h
  exact hsame .lt (by simpa using hlt)

/-- An operation that touches neither layouts nor classes keeps them. -/
theorem Touches.keepsHall {blocks : List Block} (h : Touches blocks s t) (hlt : .lt ∉ blocks := by decide)
    (hru : .ru ∉ blocks := by decide) : KeepsHall lost s t :=
  KeepsHall.of_same (h.ru hru) (h.layouts hlt)

/-! ### A class takes a record -/

theorem State.rosterSound.ordered (h : s.rosterSound) (c : Nat) : RosterOrdered (s.classAt c).roster := by
  obtain ⟨-, hord, -, -⟩ := h
  exact hord c

/-- The names of a class's record are among the counts of the layouts (R13). -/
theorem State.bindingsSound.namedBy_le (h : s.bindingsSound) (c n : Nat) :
    namedBy n (s.classAt c) ≤ (s.layout n).bindings := by
  obtain ⟨hw, -, hn, -⟩ := h
  rw [hn]
  exact Table.le_sum emptyClass (namedBy n) (by simp [namedBy, emptyClass]) s.ru.classes c hw

theorem State.classAt_of_takes {c : Nat} {r : ClassRecord}
    (hc : t.ru.classes = Table.set emptyClass s.ru.classes c r) (d : Nat) :
    t.classAt d = if d = c then r else s.classAt d := by
  simp only [State.classAt, hc, Table.get_set]

/-- An EMPTY class holds nothing after a class has taken a record that says so. -/
theorem State.empty_of_takes {c : Nat} {r : ClassRecord}
    (hc : t.ru.classes = Table.set emptyClass s.ru.classes c r)
    (he : ∀ d, (s.classAt d).state = .empty → s.classAt d = emptyClass) (hr : r.state = .empty → r = emptyClass)
    (d : Nat) : (t.classAt d).state = .empty → t.classAt d = emptyClass := by
  rw [State.classAt_of_takes hc]
  split
  · exact hr
  · exact he d

/-- A class takes a record with an ordered roster, and the pool gives or gets the difference in records (R19, R21). -/
theorem State.rosterSound.takes (h : s.rosterSound) {c : Nat} {r : ClassRecord}
    (hc : t.ru.classes = Table.set emptyClass s.ru.classes c r) (hr : r.state = .empty → r = emptyClass)
    (ho : RosterOrdered r.roster)
    (hp : t.ru.poolFree + r.roster.length = s.ru.poolFree + (s.classAt c).roster.length) : t.rosterSound := by
  obtain ⟨hw, hord, he, hpool⟩ := h
  refine ⟨hc ▸ Table.wf_set _ _ _ _ hw, fun d => ?_, State.empty_of_takes hc he hr, ?_⟩
  · rw [State.classAt_of_takes hc]
    split
    · exact ho
    · exact hord d
  · have hsum : (t.ru.classes.map (fun e => e.2.roster.length)).sum + (s.classAt c).roster.length
        = (s.ru.classes.map (fun e => e.2.roster.length)).sum + r.roster.length := by
      rw [hc]
      exact Table.sum_set emptyClass (fun r => r.roster.length) rfl _ _ _ hw
    omega

/-- A class takes a record, and the counts change by what the record names more and less than the old one (R13, R14). -/
theorem State.bindingsSound.takes (h : s.bindingsSound) {c : Nat} {r : ClassRecord}
    (hc : t.ru.classes = Table.set emptyClass s.ru.classes c r) (hr : r.state = .empty → r = emptyClass)
    (hb : ∀ n, (t.layout n).bindings + namedBy n (s.classAt c) = (s.layout n).bindings + namedBy n r)
    (hf : ∀ n, (t.layout n).fields = (s.layout n).fields)
    (hn : ∀ n, (s.layout n).fields = none → namedBy n r ≤ namedBy n (s.classAt c)) : t.bindingsSound := by
  obtain ⟨hw, he, hcount, hzero⟩ := h
  refine ⟨hc ▸ Table.wf_set _ _ _ _ hw, State.empty_of_takes hc he hr, fun n => ?_, fun n hnone => ?_⟩
  · have hsum : (t.ru.classes.map (fun e => namedBy n e.2)).sum + namedBy n (s.classAt c)
        = (s.ru.classes.map (fun e => namedBy n e.2)).sum + namedBy n r := by
      rw [hc]
      exact Table.sum_set emptyClass (namedBy n) (by simp [namedBy, emptyClass]) _ _ _ hw
    have := hb n
    have := hcount n
    omega
  · rw [hf] at hnone
    have := hb n
    have := hzero n hnone
    have := hn n hnone
    omega

/-- A class takes a record: the roster stays in order and the pool gives or gets the difference, the counts change by what
the record names more and less, and a FROZEN class that is not `lost` takes a record that says the same. -/
theorem KeepsHall.of_takes (c : Nat) (r : ClassRecord) (hc : t.ru.classes = Table.set emptyClass s.ru.classes c r)
    (hempty : ((s.classAt c).state = .empty → s.classAt c = emptyClass) → r.state = .empty → r = emptyClass)
    (hroster : s.rosterSound → RosterOrdered r.roster
      ∧ t.ru.poolFree + r.roster.length = s.ru.poolFree + (s.classAt c).roster.length)
    (hcount : s.bindingsSound → ∀ n,
      (t.layout n).bindings + namedBy n (s.classAt c) = (s.layout n).bindings + namedBy n r
        ∧ ((s.layout n).fields = none → namedBy n r ≤ namedBy n (s.classAt c)))
    (hfields : ∀ n, (t.layout n).fields = (s.layout n).fields)
    (hfrozen : ¬ lost c → (s.classAt c).state = .frozen → (s.classAt c).pending = none →
      r.state = .frozen ∧ r.roster = (s.classAt c).roster ∧ r.title = (s.classAt c).title
        ∧ r.bound = (s.classAt c).bound ∧ r.pending = none) : KeepsHall lost s t where
  rosters h := by
    obtain ⟨hord, hpool⟩ := hroster h
    obtain ⟨-, -, he, -⟩ := id h
    exact h.takes hc (hempty (he c)) hord hpool
  bindings h := by
    obtain ⟨-, he, -, -⟩ := id h
    exact h.takes hc (hempty (he c)) (fun n => (hcount h n).1) hfields (fun n => (hcount h n).2)
  frozen d hd := by
    by_cases hdc : d = c
    · subst hdc
      intro hf hp
      rw [State.classAt_of_takes hc, if_pos rfl]
      exact hfrozen hd hf hp
    · exact KeepsFrozen.of_classAt (by rw [State.classAt_of_takes hc, if_neg hdc])

/-- A class whose roster and layouts stay takes a record. -/
theorem State.keepsHall_setClass (s : State) (c : Nat) (r : ClassRecord)
    (hempty : ((s.classAt c).state = .empty → s.classAt c = emptyClass) → r.state = .empty → r = emptyClass)
    (hroster : r.roster = (s.classAt c).roster) (hbound : r.bound = (s.classAt c).bound)
    (hpending : r.pending = (s.classAt c).pending)
    (hfrozen : (s.classAt c).state = .frozen → r.state = .frozen ∧ r.title = (s.classAt c).title) :
    KeepsHall lost s (s.setClass c r) :=
  KeepsHall.of_takes c r rfl hempty
    (fun h => ⟨hroster ▸ h.ordered c, by rw [hroster]; rfl⟩)
    (fun _ n => by simp [namedBy, hbound, hpending])
    (fun n => by simp)
    (fun _ hf hp => ⟨(hfrozen hf).1, hroster, (hfrozen hf).2, hbound, hpending.trans hp⟩)

/-! ### In-flight counts (R18) -/

theorem State.keepsHall_raiseInFlight (s : State) (c : Nat) (hb : (s.classAt c).bound ≠ none) :
    KeepsHall lost s (s.raiseInFlight c) := by
  refine s.keepsHall_setClass c _ (fun he hs => ?_) rfl rfl rfl (fun hf => ⟨hf, rfl⟩)
  rw [he hs] at hb
  exact absurd rfl hb

theorem State.keepsHall_setInFlight_pred (s : State) (c : Nat) :
    KeepsHall lost s (s.setClass c { s.classAt c with inFlight := (s.classAt c).inFlight - 1 }) :=
  s.keepsHall_setClass c _ (fun he hs => by rw [he hs]; rfl) rfl rfl rfl (fun hf => ⟨hf, rfl⟩)

/-! ### Rebinding (R29 to R34) -/

/-- The switch passes the class's name from the pending layout to the bound one and releases the old one (R30). -/
theorem State.keepsHall_evalSwitch (s : State) (c : Nat) : KeepsHall lost s (s.evalSwitch c) := by
  unfold State.evalSwitch
  simp only
  split
  · exact KeepsHall.refl s
  next n hpend =>
  split
  · refine KeepsHall.of_takes c { s.classAt c with bound := some n, pending := none } (by simp [State.setClass])
      (fun he hs => ?_) (fun h => ⟨h.ordered c, by simp⟩) (fun h m => ?_) (fun m => by simp [State.layout_release?])
      (fun _ _ hp => ?_)
    · rw [he hs] at hpend; cases hpend
    · have := h.namedBy_le c m
      simp only [namedBy, hpend] at this ⊢
      simp [State.layout_release?]
      omega
    · rw [hpend] at hp; cases hp
  · exact KeepsHall.refl s

theorem State.keepsHall_clearPending (s : State) (c : Nat) : KeepsHall lost s (s.clearPending c) := by
  refine KeepsHall.of_takes c { s.classAt c with pending := none } (by simp [State.clearPending, State.setClass])
    (fun he hs => by rw [he hs]; rfl) (fun h => ⟨h.ordered c, by simp [State.clearPending]⟩) (fun h m => ?_)
    (fun m => by simp [State.clearPending, State.layout_release?]) (fun _ hf _ => ⟨hf, rfl, rfl, rfl, rfl⟩)
  have := h.namedBy_le c m
  simp only [namedBy] at this ⊢
  simp [State.clearPending, State.layout_release?]
  omega

theorem State.keepsHall_lowerInFlight (s : State) (c : Nat) : KeepsHall lost s (s.lowerInFlight c) := by
  unfold State.lowerInFlight
  simp only
  split
  · exact (s.keepsHall_setInFlight_pred c).trans (State.keepsHall_evalSwitch _ c)
  · exact s.keepsHall_setInFlight_pred c

theorem State.keepsHall_reportReady (s : State) (n : Nat) : KeepsHall lost s (s.reportReady n) := by
  unfold State.reportReady
  split
  · refine KeepsHall.foldl (fun s c => ?_) _ _
    split
    · exact s.keepsHall_evalSwitch c
    · exact KeepsHall.refl s
  · exact KeepsHall.refl s

theorem State.keepsHall_reportEntry (s : State) (h : Nat) : KeepsHall lost s (s.reportEntry h) := by
  unfold State.reportEntry
  refine KeepsHall.foldl (fun s n => ?_) _ _
  split
  · exact s.keepsHall_reportReady n
  · exact KeepsHall.refl s

/-! ### Pins and plans (R54, R61, R62) -/

theorem State.keepsHall_makeReady (s : State) (h : Nat) (e : DirEntry) (image : ImageRecord) :
    KeepsHall lost s (s.makeReady h e image) := by
  unfold State.makeReady
  simp only
  split
  · exact (s.touches_setEntry h _).keepsHall
  · exact (s.touches_setEntry h _).keepsHall.trans (State.keepsHall_reportEntry _ h)

theorem State.keepsHall_swap (s : State) (h : Nat) : KeepsHall lost s (s.swap h) := by
  unfold State.swap
  simp only
  split
  · exact KeepsHall.refl s
  · exact (((s.touches_freeImage _).trans (State.touches_relabelChain _ _ _)).keepsHall.trans
      (State.keepsHall_makeReady _ _ _ _)).trans (State.touches_notice _ _ _ _).keepsHall

theorem State.keepsHall_unpin (s : State) (h : Nat) : KeepsHall lost s (s.unpin h) := by
  unfold State.unpin
  simp only
  split
  · exact (s.touches_setEntry h _).keepsHall.trans (State.keepsHall_swap _ h)
  · exact (s.touches_setEntry h _).keepsHall

theorem State.keepsHall_returnPlan (s : State) (p : Snapshot) : KeepsHall lost s (s.returnPlan p) :=
  ((KeepsHall.foldl (fun s h => s.keepsHall_unpin h) _ s).trans (State.keepsHall_lowerInFlight _ _)).trans
    (State.touches_lowerPages _).keepsHall

/-! ### Ends of uploads, pages and bands -/

theorem State.keepsHall_handOver (s : State) (k : Fin 4) (u : UploadRecord) : KeepsHall lost s (s.handOver k u) := by
  unfold State.handOver
  simp only
  have hclosed : KeepsHall lost s (s.closeSlot k) := (s.touches_closeSlot k).keepsHall
  refine hclosed.trans ?_
  split
  · exact ((State.touches_relabelChain _ _ _).keepsHall.trans (State.keepsHall_makeReady _ _ _ _)).trans
      (State.touches_uploadResult _ _ _ _ _).keepsHall
  · split
    · exact (((State.touches_relabelChain _ _ _).trans (State.touches_freeImage _ _)).keepsHall.trans
        (State.keepsHall_makeReady _ _ _ _)).trans (State.touches_uploadResult _ _ _ _ _).keepsHall
    · exact ((State.touches_relabelChain _ _ _).keepsHall.trans (State.touches_setEntry _ _ _).keepsHall).trans
        (State.touches_uploadResult _ _ _ _ _).keepsHall

theorem State.keepsHall_endUploadOf (s : State) (k : Fin 4) (u : UploadRecord) :
    KeepsHall lost s (s.endUploadOf k u) := by
  unfold State.endUploadOf
  split
  · exact (s.touches_failUpload k u _).keepsHall
  · split
    · exact (s.touches_failUpload k u _).keepsHall
    · exact s.keepsHall_handOver k u

theorem State.keepsHall_endPage (s : State) (k : Fin 4) (p : Plan) (d : PageDone) :
    KeepsHall lost s (s.endPage k p d) := by
  unfold State.endPage
  simp only
  refine KeepsHall.trans ?_ (State.touches_takeRelease _ k).keepsHall
  have hdone : KeepsHall lost s (((s.recordPageDone k d).returnPlan p.snap).dropFirstJob k) :=
    ((s.touches_recordPageDone k d).keepsHall.trans (State.keepsHall_returnPlan _ _)).trans
      (State.touches_putChannel _ k _).keepsHall
  split
  · exact hdone.trans (State.touches_chain _ k).keepsHall
  · exact hdone

theorem State.keepsHall_endRendering (s : State) (k : Fin 4) (result : PageResult) :
    KeepsHall lost s (s.endRendering k result) := by
  unfold State.endRendering
  split
  · exact s.keepsHall_endPage _ _ _
  · exact KeepsHall.refl s

theorem State.keepsHall_stall (s : State) (k : Fin 4) : KeepsHall lost s (s.stall k) := by
  unfold State.stall
  simp only
  split
  · split
    · exact s.keepsHall_endPage _ _ _
    · exact KeepsHall.refl s
  · exact s.keepsHall_endRendering _ _

theorem State.keepsHall_resetChannel (s : State) (k : Fin 4) (cause : CancelCause) :
    KeepsHall lost s (s.resetChannel k cause State.returnPlan) :=
  (s.touches_clearChannel k cause).keepsHall.trans (KeepsHall.foldl (fun s p => s.keepsHall_returnPlan p) _ _)

theorem State.keepsHall_afterBand (s : State) (k : Fin 4) : KeepsHall lost s (s.afterBand k) := by
  unfold State.afterBand
  simp only
  split
  · have hput c : KeepsHall lost s (s.putChannel k c) := (s.touches_putChannel k c).keepsHall
    split
    · exact (hput _).trans (State.keepsHall_endRendering _ _ _)
    · split
      · split
        · exact (hput _).trans (State.keepsHall_endRendering _ _ _)
        · exact (hput _).trans ((State.touches_putChannel _ _ _).trans (State.touches_takeRelease _ _)).keepsHall
      · split
        · exact (hput _).trans (State.touches_takeRelease _ _).keepsHall
        · exact hput _
  · exact KeepsHall.refl s

theorem State.keepsHall_endBandIfSent (s : State) : KeepsHall lost s s.endBandIfSent := by
  unfold State.endBandIfSent
  split
  · split
    · exact (s.touches_ce _).keepsHall.trans (State.keepsHall_afterBand _ _)
    · exact KeepsHall.refl s
  · exact KeepsHall.refl s

end Sys2Proof.Machine
end

section
/-! PROOFS. What the orders can touch: the channel orders, the upload orders and the scrubber, each once. -/

set_option Elab.async false

namespace Sys2Proof.Machine

theorem State.touches_ok (s : State) (f : Sender) (fields : Bytes) : Touches [] s (s.ok f fields) := s.touches_send _ _

theorem State.touches_refuse (s : State) (f : Sender) (status : Status) : Touches [] s (s.refuse f status) :=
  s.touches_send _ _

/-- A class's record is as it was where the Roster Unit is not touched. -/
theorem Touches.classAt {blocks : List Block} {s t : State} (h : Touches blocks s t) (c : Nat)
    (hru : .ru ∉ blocks := by decide) : t.classAt c = s.classAt c :=
  State.classAt_congr _ _ c (h.ru hru)

/-! ### Channel orders (R150 to R160) -/

theorem State.touches_ok_putChannel (s : State) (f : Sender) (fields : Bytes) (k : Fin 4) (c : Channel) :
    Touches [.pch] s ((s.ok f fields).putChannel k c) :=
  (s.touches_ok f fields).mono.trans (State.touches_putChannel _ k c)

theorem State.touches_configureChannel (s : State) (f : Sender) (k : Fin 4) (payload : Bytes) :
    Touches [.pch] s (s.configureChannel f k payload) := by
  unfold State.configureChannel
  simp only
  split
  · exact (s.touches_refuse _ _).mono
  · split
    · exact (s.touches_refuse _ _).mono
    · exact s.touches_ok_putChannel _ _ _ _

theorem State.touches_enableChannel (s : State) (f : Sender) (k : Fin 4) :
    Touches [.pch] s (s.enableChannel f k) := by
  unfold State.enableChannel
  split
  · exact (s.touches_ok _ _).mono
  · exact s.touches_ok_putChannel _ _ _ _

theorem State.touches_disableChannel (s : State) (f : Sender) (k : Fin 4) :
    Touches [.pch] s (s.disableChannel f k) := by
  unfold State.disableChannel
  simp only
  split
  · exact (s.touches_ok _ _).mono
  · split
    · exact s.touches_ok_putChannel _ _ _ _
    · exact (s.touches_refuse _ _).mono
  · exact (s.touches_refuse _ _).mono

theorem State.touches_queuePage (s : State) (f : Sender) (k : Fin 4) (classNo page copies : Nat) :
    Touches [.pch] s (s.queuePage f k classNo page copies) := by
  unfold State.queuePage
  simp only
  split_ifs
  · exact (s.touches_refuse _ _).mono
  · exact (s.touches_refuse _ _).mono
  · exact (s.touches_refuse _ _).mono
  · exact s.touches_ok_putChannel _ _ _ _

theorem State.touches_cancelPage (s : State) (f : Sender) (k : Fin 4) (classNo page : Nat) :
    Touches [.pch] s (s.cancelPage f k classNo page) := by
  unfold State.cancelPage
  simp only
  split_ifs
  · exact (s.touches_refuse _ _).mono
  · exact s.touches_ok_putChannel _ _ _ _
  · exact (s.touches_refuse _ _).mono
  · exact (s.touches_refuse _ _).mono

theorem State.touches_takeTrigger (s : State) (f : Sender) (k : Fin 4) (applies : Bool) :
    Touches [.pch] s (s.takeTrigger f k applies) := by
  unfold State.takeTrigger
  simp only
  split
  · exact (s.touches_ok _ _).mono.trans (State.touches_trigger _ k)
  · exact (s.touches_refuse _ _).mono

theorem State.touches_grantBands (s : State) (f : Sender) (k : Fin 4) (n : Nat) :
    Touches [.pch] s (s.grantBands f k n) := by
  unfold State.grantBands
  simp only
  split
  · exact (s.touches_refuse _ _).mono
  · split
    · exact (s.touches_refuse _ _).mono
    · exact s.touches_ok_putChannel _ _ _ _

theorem State.touches_removeQueued (s : State) (c : Nat) (k : Fin 4) : Touches [.pch] s (s.removeQueued c k) :=
  (Touches.foldl (fun s _ => (s.touches_notice _ _ _).mono) _ s).trans (State.touches_putChannel _ k _)

/-! ### The engine (R161, R162) -/

theorem State.touches_pch (s : State) (v : PressChannels) : Touches [.pch] s { s with pch := v } :=
  Touches.of_only rfl ⟨rfl, rfl, rfl, fun b hb => by cases b <;> first | rfl | simp at hb⟩

theorem State.touches_grantEngine (s : State) (k : Fin 4) : Touches [.pch, .ce] s (s.grantEngine k) := by
  unfold State.grantEngine
  simp only
  split
  · next p r _ _ =>
    exact (((s.touches_ce (some (s.newBand k p r))).mono.trans
      (State.touches_pch _ { s.pch with lastServed := k }).mono).trans (State.touches_putChannel _ k _).mono).trans
        (State.touches_notice _ _ _ _).mono
  · exact Touches.refl _ s

theorem State.touches_produceRow (s : State) (b : Band) :
    Touches [.sc, .pdir, .ie, .pch, .sel, .ce] s (s.produceRow b) := by
  unfold State.produceRow
  simp only
  have hreads : Touches [.sc, .pdir, .ie, .pch, .sel, .ce] s
      ((rowReads s.sc.map b b.nextRow).foldl (fun s cw => s.readForCell cw.1 cw.2) s) :=
    Touches.foldl (fun s (cw : Nat × Nat) => s.touches_readForCell cw.1 cw.2) _ s
  split
  · exact hreads
  · exact (hreads.trans (State.touches_ce _ _).mono).trans
      (Touches.foldl (fun s payload => (s.touches_notice _ _ payload).mono) _ _)

/-! ### Uploads (R72 to R76, R64) -/

theorem State.touches_claim (s : State) (h : Nat) (k : Fin 4) (mode : UploadMode) :
    Touches [.pdir] s (s.claim h k mode) := by
  cases mode
  · exact s.touches_setEntry h _
  · exact s.touches_setEntry h _

theorem State.touches_openUpload (s : State) (k : Fin 4) (f : UploadForm) :
    Touches [.sc, .pdir, .ie] s (s.openUpload k f) :=
  ((((s.touches_claim _ _ _).mono.trans (State.touches_sc _ _).mono).trans
    (State.touches_setSlot _ _ _).mono)).trans (State.touches_ie _ _).mono

theorem State.touches_beginUpload (s : State) (from_ : Sender) (f : UploadForm) :
    Touches [.sc, .pdir, .ie] s (s.beginUpload from_ f) := by
  unfold State.beginUpload
  simp only
  split
  · exact (s.touches_refuse _ _).mono
  · split
    · exact (s.touches_refuse _ _).mono
    · split
      · exact (s.touches_refuse _ _).mono
      · split
        · exact (s.touches_refuse _ _).mono
        · exact (s.touches_ok _ _).mono.trans (State.touches_openUpload _ _ _)

theorem State.touches_appendCluster (s : State) (handle : Nat) (last? : Option Nat) (c : Nat) :
    Touches [.sc] s (s.appendCluster handle last? c) := by
  have hlink : Touches [.sc] s (match last? with
      | none => s
      | some l => match s.cluster l with
        | .last m o => s.setCluster l (.linked c m o)
        | _ => s) := by
    split
    · exact Touches.refl _ s
    · split
      · exact s.touches_setCluster _ _
      · exact Touches.refl _ s
  exact (hlink.trans (State.touches_setCluster _ c _)).trans (State.touches_sc _ _)

theorem State.touches_putByte {s t : State} {u v : UploadRecord} {b : Byte} (h : s.putByte u b = some (t, v)) :
    Touches [.sc] s t := by
  have halloc : ∀ {x}, (if u.received = u.held * Config.clusterBytes then s.allocate u else some (s, u)) = some x →
      Touches [.sc] s x.1 := by
    intro x hx
    split at hx
    · unfold State.allocate at hx
      split at hx
      · cases hx
      · cases hx
        exact s.touches_appendCluster _ _ _
    · cases hx
      exact Touches.refl _ s
  unfold State.putByte at h
  simp only at h
  split at h
  · cases h
  · next htaken =>
    split at h
    · cases h
    · cases h
      exact (halloc htaken).trans (State.touches_sc _ _)

theorem State.touches_putBytes {s t : State} {u v : UploadRecord} {bytes : Bytes}
    (h : s.putBytes u bytes = some (t, v)) : Touches [.sc] s t := by
  induction bytes generalizing s u with
  | nil => cases h; exact Touches.refl _ _
  | cons b rest ih =>
    unfold State.putBytes at h
    split at h
    · cases h
    · next hb => exact (State.touches_putByte hb).trans (ih h)

theorem State.touches_putPixels {s t : State} {from_ : Sender} {f : PixelsForm}
    (h : s.putPixels from_ f = .next t) : Touches [.sc, .ie] s t := by
  unfold State.putPixels at h
  split at h
  · cases h; exact (s.touches_refuse _ _).mono
  split at h
  · cases h; exact (s.touches_refuse _ _).mono
  split at h
  · cases h; exact (s.touches_send _ _).mono
  split at h
  · cases h; exact (s.touches_send _ _).mono
  split at h
  · cases h
  · next hb =>
    cases h
    exact ((s.touches_ok _ _).mono.trans (State.touches_putBytes hb).mono).trans (State.touches_setSlot _ _ _).mono

theorem State.touches_deletePortrait (s : State) (from_ : Sender) (h : Nat) :
    Touches [.sc, .pdir, .ie] s (s.deletePortrait from_ h) := by
  unfold State.deletePortrait
  simp only
  split
  · exact (s.touches_refuse _ _).mono
  · split
    · exact (s.touches_refuse _ _).mono
    · exact (s.touches_refuse _ _).mono
    all_goals
      split
      · exact (s.touches_refuse _ _).mono
      · exact (s.touches_ok _ _).mono.trans (State.touches_deleteEntry _ _ _)

/-! ### Glyphs (R137) -/

theorem State.touches_loadGlyph (s : State) (from_ : Sender) (payload : Bytes) :
    Touches [.gs] s (s.loadGlyph from_ payload) := by
  unfold State.loadGlyph
  simp only
  split
  · exact (s.touches_refuse _ _).mono
  · split
    · exact (s.touches_refuse _ _).mono
    · exact (s.touches_ok _ _).mono.trans (State.touches_gs _ _)

/-! ### Queries (R15, R38, R65) -/

/-- A query that answers or refuses touches the ports alone. -/
theorem State.touches_ite_refuse_ok (s : State) (from_ : Sender) (bad : Prop) [Decidable bad] (status : Status)
    (fields : Bytes) : Touches [] s (if bad then s.refuse from_ status else s.ok from_ fields) := by
  split
  · exact s.touches_refuse _ _
  · exact s.touches_ok _ _

theorem State.touches_queryLayout (s : State) (from_ : Sender) (n : Nat) : Touches [] s (s.queryLayout from_ n) :=
  s.touches_ite_refuse_ok from_ _ _ _

theorem State.touches_queryClass (s : State) (from_ : Sender) (c position : Nat) :
    Touches [] s (s.queryClass from_ c position) := s.touches_ite_refuse_ok from_ _ _ _

theorem State.touches_queryPortrait (s : State) (from_ : Sender) (h : Nat) :
    Touches [] s (s.queryPortrait from_ h) := s.touches_ite_refuse_ok from_ _ _ _

/-! ### The scrubber and idle time (R177; log 2, log 3) -/

theorem State.touches_scrub (s : State) : Touches [.sc, .pdir, .ie, .pch, .sel] s s.scrub := by
  unfold State.scrub
  split
  · exact (s.touches_sel _).mono.trans (State.touches_visit _ _)
  · simp only
    split
    · exact ((s.touches_sel _).trans (State.touches_sel _ _)).mono.trans (State.touches_visit _ _)
    · exact (s.touches_sel _).mono

/-- An idle millisecond leaves layouts and classes as they were. -/
theorem State.tick_hall (s : State) : s.tick.ru = s.ru ∧ s.tick.layouts = s.layouts := by
  have h : Touches [.sc] s.tickTimers ((Config.upsets s.clock).foldl State.upset s.tickTimers) :=
    Touches.foldl (fun s u => s.touches_upset u) _ _
  exact ⟨h.ru, h.layouts⟩

end Sys2Proof.Machine
end

section
/-! PROOFS. Every command keeps rosters, pool and binding counts sound, and FROZEN classes as they are (O57). -/

set_option Elab.async false

namespace Sys2Proof.Machine

variable {lost : Nat → Prop} {s t : State}

/-! ### Layout orders (R5 to R15) -/

theorem State.keepsHall_defineLayout (s : State) (from_ : Sender) (f : LayoutForm) :
    KeepsHall lost s (s.defineLayout from_ f) := by
  unfold State.defineLayout
  split
  · exact (s.touches_refuse _ _).keepsHall
  split
  · exact (s.touches_refuse _ _).keepsHall
  split
  · exact (s.touches_refuse _ _).keepsHall
  · refine KeepsHall.trans ?_ (State.keepsHall_reportReady _ _)
    refine (s.touches_ok from_ _).keepsHall.trans (KeepsHall.of_layouts rfl (fun n => ?_) (fun n => ?_))
    · rw [State.layout_setLayout]
      split
      · next h => rw [h]; simp [State.ok, State.reply]
      · rfl
    · rw [State.layout_setLayout]
      split
      · simp
      · exact Or.inl

theorem State.keepsHall_deleteLayout (s : State) (from_ : Sender) (n : Nat) :
    KeepsHall lost s (s.deleteLayout from_ n) := by
  unfold State.deleteLayout
  split
  · exact (s.touches_refuse _ _).keepsHall
  split
  · exact (s.touches_refuse _ _).keepsHall
  split
  · exact (s.touches_refuse _ _).keepsHall
  next hbound =>
  refine (s.touches_ok from_ _).keepsHall.trans (KeepsHall.of_layouts rfl (fun m => ?_) (fun m => ?_))
  · rw [State.layout_setLayout]
    split
    · next h => rw [h]; simp [State.ok, State.reply]
    · rfl
  · rw [State.layout_setLayout]
    split
    · next h =>
      subst h
      intro _
      right
      simpa [State.ok, State.reply] using hbound
    · exact Or.inl

/-! ### Class orders (R22 to R36) -/

/-- An order that acts in an OPEN class keeps what its act keeps there. -/
theorem State.keepsHall_inOpenClass {from_ : Sender} {c : Nat} {act : State}
    (h : (s.classAt c).state = .opened → KeepsHall lost s act) : KeepsHall lost s (s.inOpenClass from_ c act) := by
  unfold State.inOpenClass
  split
  · exact (s.touches_refuse _ _).keepsHall
  · split
    · exact (s.touches_refuse _ _).keepsHall
    · exact (s.touches_refuse _ _).keepsHall
    · next hc => exact h hc

theorem State.keepsHall_openClass (s : State) (from_ : Sender) (c n : Nat) :
    KeepsHall lost s (s.openClass from_ c n) := by
  unfold State.openClass
  split
  · exact (s.touches_refuse _ _).keepsHall
  split
  · exact (s.touches_refuse _ _).keepsHall
  next hstate =>
  split
  · exact (s.touches_refuse _ _).keepsHall
  next hfields =>
  have hempty : (s.classAt c).state = .empty := not_not.mp hstate
  refine KeepsHall.of_takes c { emptyClass with state := .opened, bound := some n }
    (by simp [State.setClass, State.ok, State.reply]) (fun _ h => by cases h) (fun h => ⟨rosterOrdered_nil, ?_⟩)
    (fun h m => ⟨?_, fun hm => ?_⟩) (fun m => by simp [State.layout_bind, State.ok, State.reply])
    (fun _ hf => by rw [hempty] at hf; cases hf)
  · obtain ⟨-, -, he, -⟩ := h
    simp [he c hempty, emptyClass, State.ok, State.reply]
  · obtain ⟨-, he, -, -⟩ := h
    simp [he c hempty, namedBy, emptyClass, State.layout_bind, State.ok, State.reply, eq_comm]
  · have hne : n ≠ m := fun h => by subst h; simp [hm] at hfields
    simp [namedBy, emptyClass, hne]

/-- In an OPEN class the roster may change with the pool, in order and with no record lost (R19, R21). -/
theorem KeepsHall.of_roster (c : Nat) (roster : List Subject)
    (hc : t.ru.classes = Table.set emptyClass s.ru.classes c { s.classAt c with roster }) (hl : t.layouts = s.layouts)
    (hopen : (s.classAt c).state = .opened)
    (hr : RosterOrdered (s.classAt c).roster →
      RosterOrdered roster ∧ t.ru.poolFree + roster.length = s.ru.poolFree + (s.classAt c).roster.length) :
    KeepsHall lost s t := by
  have hlay m : t.layout m = s.layout m := State.layout_congr _ _ m hl
  refine KeepsHall.of_takes c { s.classAt c with roster } hc (fun _ h => ?_) (fun h => hr (h.ordered c))
    (fun _ m => by simp [namedBy, hlay]) (fun m => by rw [hlay]) (fun _ hf => ?_)
  · rw [hopen] at h; cases h
  · rw [hopen] at hf; cases hf

/-- The Roster Unit and the layouts after a reply and a new roster. -/
theorem State.ok_setRoster (s : State) (from_ : Sender) (fields : Bytes) (c : Nat) (roster : List Subject) :
    ((s.ok from_ fields).setRoster c roster).ru =
        { s.ru with classes := Table.set emptyClass s.ru.classes c { s.classAt c with roster } }
      ∧ ((s.ok from_ fields).setRoster c roster).layouts = s.layouts := by
  simp [State.setRoster, State.setClass, State.ok, State.reply]

theorem State.keepsHall_addSubject (s : State) (from_ : Sender) (f : SubjectForm) :
    KeepsHall lost s (s.addSubject from_ f) := by
  unfold State.addSubject
  simp only
  split
  · exact (s.touches_refuse _ _).keepsHall
  refine State.keepsHall_inOpenClass (fun hopen => ?_)
  split
  · exact (s.touches_refuse _ _).keepsHall
  next hid =>
  split
  · exact (s.touches_refuse _ _).keepsHall
  next href =>
  split
  · exact (s.touches_refuse _ _).keepsHall
  next hlen =>
  split
  · exact (s.touches_refuse _ _).keepsHall
  next hpool =>
  obtain ⟨hru, hl⟩ := s.ok_setRoster from_ (bytes1 (positionIn (s.classAt f.classNo).roster (subjectOf f))) f.classNo
    (insertSubject (s.classAt f.classNo).roster (subjectOf f))
  refine KeepsHall.of_roster f.classNo _ (by simp only [State.setPool, hru]) hl hopen
    (fun h => ⟨h.insert hid href (not_le.mp hlen), ?_⟩)
  rw [(insertSubject_perm _ _).length_eq, List.length_cons, State.poolFree_setPool]
  omega

theorem State.keepsHall_updateSubject (s : State) (from_ : Sender) (f : SubjectForm) :
    KeepsHall lost s (s.updateSubject from_ f) := by
  unfold State.updateSubject
  simp only
  split
  · exact (s.touches_refuse _ _).keepsHall
  refine State.keepsHall_inOpenClass (fun hopen => ?_)
  split
  · exact (s.touches_refuse _ _).keepsHall
  next hid =>
  split
  · exact (s.touches_refuse _ _).keepsHall
  next href =>
  obtain ⟨hru, hl⟩ := s.ok_setRoster from_
    (bytes1 (positionIn (withoutSubject (s.classAt f.classNo).roster (subjectOf f).id) (subjectOf f))) f.classNo
    (insertSubject (withoutSubject (s.classAt f.classNo).roster (subjectOf f).id) (subjectOf f))
  refine KeepsHall.of_roster f.classNo _ (by rw [hru]) hl hopen (fun h => ?_)
  have hlen := length_withoutSubject h.ids_nodup (not_not.mp hid)
  have hmax := h.length_le
  refine ⟨(h.without _).insert (holdsId_withoutSubject _ _) href (by omega), ?_⟩
  rw [(insertSubject_perm _ _).length_eq, List.length_cons, hlen, hru]

theorem State.keepsHall_removeSubject (s : State) (from_ : Sender) (c id : Nat) :
    KeepsHall lost s (s.removeSubject from_ c id) := by
  unfold State.removeSubject
  refine State.keepsHall_inOpenClass (fun hopen => ?_)
  split
  · exact (s.touches_refuse _ _).keepsHall
  next hid =>
  obtain ⟨hru, hl⟩ := s.ok_setRoster from_ [] c (withoutSubject (s.classAt c).roster id)
  refine KeepsHall.of_roster c _ (by simp only [State.setPool, hru]) hl hopen (fun h => ⟨h.without id, ?_⟩)
  have := length_withoutSubject h.ids_nodup (not_not.mp hid)
  rw [State.poolFree_setPool]
  omega

theorem State.keepsHall_setTitle (s : State) (from_ : Sender) (c count : Nat) (title : List Nat) :
    KeepsHall lost s (s.setTitle from_ c count title) := by
  unfold State.setTitle
  split
  · exact (s.touches_refuse _ _).keepsHall
  refine State.keepsHall_inOpenClass (fun hopen => (s.touches_ok from_ []).keepsHall.trans ?_)
  have hsame : (s.ok from_ []).classAt c = s.classAt c := (s.touches_ok from_ []).classAt c
  refine State.keepsHall_setClass _ c _ (fun _ h => ?_) (by rw [hsame]) (by rw [hsame]) (by rw [hsame]) (fun h => ?_)
  · rw [hopen] at h; cases h
  · rw [hsame, hopen] at h; cases h

/-- A class binds one more layout as its pending one and releases the old pending one: what a Rebind Class does before the
switch condition is evaluated (R29). -/
def State.awaiting (s : State) (c n : Nat) : State :=
  ((s.bind n).release? (s.classAt c).pending).setClass c { s.classAt c with pending := some n }

theorem State.keepsHall_awaiting (s : State) (c n : Nat) (hopen : (s.classAt c).state = .opened)
    (hfields : (s.layout n).fields ≠ none) : KeepsHall lost s (s.awaiting c n) := by
  refine KeepsHall.of_takes c { s.classAt c with pending := some n } (by simp [State.awaiting, State.setClass])
    (fun _ h => ?_) (fun h => ⟨h.ordered c, by simp [State.awaiting]⟩) (fun h m => ⟨?_, fun hm => ?_⟩)
    (fun m => by simp [State.awaiting, State.layout_release?, State.layout_bind]) (fun _ hf => ?_)
  · rw [hopen] at h; cases h
  · have := h.namedBy_le c m
    simp only [namedBy] at this ⊢
    simp only [State.awaiting, State.layout_setClass, State.layout_release?, State.layout_bind, Option.some.injEq,
      eq_comm (a := m)]
    omega
  · have hne : n ≠ m := fun h => by subst h; exact hfields hm
    simp [namedBy, hne]
  · rw [hopen] at hf; cases hf

theorem State.keepsHall_rebindClass (s : State) (from_ : Sender) (c n : Nat) :
    KeepsHall lost s (s.rebindClass from_ c n) := by
  unfold State.rebindClass
  split
  · exact (s.touches_refuse _ _).keepsHall
  refine State.keepsHall_inOpenClass (fun hopen => ?_)
  have hok : KeepsHall lost s (s.ok from_ []) := (s.touches_ok from_ []).keepsHall
  split
  · exact hok.trans (State.keepsHall_clearPending _ c)
  split
  · exact (s.touches_refuse _ _).keepsHall
  next hfields =>
  have hsame : (s.ok from_ []).classAt c = s.classAt c := (s.touches_ok from_ []).classAt c
  have hawaiting : KeepsHall lost (s.ok from_ []) ((s.ok from_ []).awaiting c n) :=
    State.keepsHall_awaiting _ c n (by rw [hsame, hopen]) (by simpa [State.ok, State.reply] using hfields)
  rw [State.awaiting, hsame] at hawaiting
  exact hok.trans (hawaiting.trans (State.keepsHall_evalSwitch _ c))

theorem State.keepsHall_withdrawRebind (s : State) (from_ : Sender) (c : Nat) :
    KeepsHall lost s (s.withdrawRebind from_ c) :=
  State.keepsHall_inOpenClass (fun _ => (s.touches_ok from_ []).keepsHall.trans (State.keepsHall_clearPending _ c))

theorem State.keepsHall_freeze (s : State) (c : Nat) : KeepsHall lost s (s.freeze c) :=
  (s.keepsHall_clearPending c).trans
    (State.keepsHall_setClass _ c _ (fun _ h => by cases h) rfl rfl rfl (fun _ => ⟨rfl, rfl⟩))

theorem State.keepsHall_freezeClass (s : State) (from_ : Sender) (c : Nat) :
    KeepsHall lost s (s.freezeClass from_ c) := by
  unfold State.freezeClass
  split
  · exact (s.touches_refuse _ _).keepsHall
  split
  · exact (s.touches_refuse _ _).keepsHall
  · exact (s.touches_ok _ _).keepsHall
  · have hfreeze : KeepsHall lost s ((s.ok from_ []).freeze c) :=
      (s.touches_ok from_ []).keepsHall.trans (State.keepsHall_freeze _ c)
    simp only
    split
    · exact hfreeze.trans (State.touches_notice _ _ _ _).keepsHall
    · exact hfreeze

/-- A deleted class gives its records to the pool and releases its layouts (R36). -/
theorem State.keepsHall_dropClass (s : State) (c : Nat) :
    KeepsHall (fun d => c = d) s ((((s.setPool (s.ru.poolFree + (s.classAt c).roster.length)).release?
      (s.classAt c).bound).release? (s.classAt c).pending).setClass c emptyClass) := by
  refine KeepsHall.of_takes c emptyClass (by simp [State.setClass, State.setPool]) (fun _ _ => rfl)
    (fun _ => ⟨rosterOrdered_nil, by simp [emptyClass]⟩) (fun h m => ⟨?_, fun _ => by simp [namedBy, emptyClass]⟩)
    (fun m => by simp [State.layout_release?]) (fun h => absurd rfl h)
  have := h.namedBy_le c m
  simp only [namedBy, emptyClass] at this ⊢
  simp [State.layout_release?]
  omega

theorem State.keepsHall_deleteClass (s : State) (from_ : Sender) (c : Nat) :
    KeepsHall (fun d => c = d) s (s.deleteClass from_ c) := by
  unfold State.deleteClass
  split
  · exact (s.touches_refuse _ _).keepsHall
  split
  · exact (s.touches_refuse _ _).keepsHall
  split
  · exact (s.touches_refuse _ _).keepsHall
  simp only
  have hremoved : Touches [.pch] s (fours.foldl (fun s k => s.removeQueued c k) (s.ok from_ [])) :=
    (s.touches_ok from_ []).mono.trans (Touches.foldl (fun s k => s.touches_removeQueued c k) _ _)
  rw [← hremoved.classAt c]
  exact hremoved.keepsHall.trans (State.keepsHall_dropClass _ c)

/-! ### The start step (R92, R96) -/

theorem State.keepsHall_endEmptyPage (s : State) (k : Fin 4) (p : Snapshot)
    (hb : (s.classAt p.classNo).bound ≠ none) : KeepsHall lost s (s.endEmptyPage k p) := by
  unfold State.endEmptyPage
  extract_lets d _ removed
  have hremoved : Touches [.pch] s removed := s.touches_putChannel k _
  have hraised : KeepsHall lost removed (removed.raiseInFlight p.classNo).raisePages :=
    (State.keepsHall_raiseInFlight _ _ (by rwa [hremoved.classAt])).trans (State.touches_gs _ _).keepsHall
  exact ((hremoved.keepsHall.trans hraised).trans (State.keepsHall_lowerInFlight _ _)).trans
    ((State.touches_lowerPages _).keepsHall.trans (State.touches_recordPageDone _ _ _).keepsHall)

theorem State.keepsHall_startStep (s : State) (k : Fin 4) : KeepsHall lost s (s.startStep k) := by
  unfold State.startStep
  split
  · exact KeepsHall.refl s
  next j _ =>
  split
  · exact KeepsHall.refl s
  next n f hlayout =>
  have hb : (s.classAt j.classNo).bound ≠ none := fun h => by simp [State.boundLayout, h] at hlayout
  extract_lets p _ served _ numbered raised _ planning
  have hnumbered : Touches [.pln, .pch] s numbered :=
    (s.touches_pln _).mono.trans (State.touches_putChannel served k _).mono
  split
  · exact hnumbered.keepsHall.trans (State.keepsHall_endEmptyPage _ k p (by rwa [hnumbered.classAt]))
  · have hpins : Touches [.pln, .pch, .pdir] s (p.handles.foldl State.pin numbered) :=
      hnumbered.mono.trans (Touches.foldl (fun s h => (s.touches_setEntry h _).mono) _ _)
    have hraised : KeepsHall lost s raised :=
      (hpins.keepsHall.trans (State.keepsHall_raiseInFlight _ _ (by rwa [hpins.classAt]))).trans
        (State.touches_gs _ _).keepsHall
    exact hraised.trans ((State.touches_putChannel _ k _).keepsHall.trans (State.touches_pln planning _).keepsHall)

/-! ### Power-on and Hall Clear (R205, R207) -/

/-- With no class, no layout and every pool record free the invariants hold, whatever was there. -/
theorem KeepsHall.of_cleared (hc : t.ru.classes = []) (hp : t.ru.poolFree = Config.poolRecords) (hl : t.layouts = []) :
    KeepsHall (fun _ => True) s t where
  rosters _ := ⟨by simp [hc], fun c => by simp [State.classAt, hc, emptyClass, rosterOrdered_nil],
    fun c _ => by simp [State.classAt, hc], by simp [hc, hp]⟩
  bindings _ := ⟨by simp [hc], fun c _ => by simp [State.classAt, hc], fun n => by simp [State.layout, hl, hc, emptyLayout],
    fun n _ => by simp [State.layout, hl, emptyLayout]⟩
  frozen _ h := absurd trivial h

theorem State.keepsHall_hallClear (s : State) : KeepsHall (fun _ => True) s s.hallClear := by
  unfold State.hallClear
  simp only
  refine KeepsHall.trans (KeepsHall.of_cleared ?_ ?_ ?_)
    (Touches.foldl (fun s (ku : Fin 4 × UploadRecord) => s.touches_uploadResult ku.1 ku.2 _ _) _ _).keepsHall
  all_goals rfl

/-! ### Links (R191, R192) -/

theorem State.keepsHall_setPort (s : State) (p : Port) (v : PortState) : KeepsHall lost s (s.setPort p v) :=
  KeepsHall.of_same (by simp) (by simp)

theorem State.keepsHall_linkDown (s : State) (p : Port) : KeepsHall lost s (s.linkDown p) := by
  unfold State.linkDown
  extract_lets _ down
  refine KeepsHall.trans (t := down) (s.keepsHall_setPort p _) ?_
  split
  · exact (State.touches_setWindow _ _).keepsHall
  · exact (State.touches_abandonUploads _).keepsHall
  · exact State.keepsHall_resetChannel _ _ _

/-! ### Taking an order (R195) -/

/-- Whatever next state a result holds has kept the hall. -/
def ResultKeepsHall (lost : Nat → Prop) (s : State) (r : Result) : Prop := ∀ t, r = .next t → KeepsHall lost s t

theorem ResultKeepsHall.next (h : KeepsHall lost s t) : ResultKeepsHall lost s (.next t) := fun _ hu => by
  cases hu; exact h

theorem takeOrder_keepsHall {o : Order} {p : Port} {tag : Byte} {payload : Bytes} {block : State → Result}
    (hb : ∀ u, ResultKeepsHall lost u (block u)) : ResultKeepsHall lost s (takeOrder o p tag payload s block) := by
  have harrival : KeepsHall lost s (s.arrival p) := s.keepsHall_setPort p _
  unfold takeOrder
  split
  · exact .next (KeepsHall.refl s)
  · exact .next (harrival.trans (State.keepsHall_setPort _ p _))
  · exact .next (harrival.trans (State.touches_send _ _ _).keepsHall)
  · exact fun t ht => harrival.trans (hb _ t ht)

theorem takePressOrder_keepsHall {o : Order} {p : Port} {tag : Byte} {payload : Bytes}
    {act : State → Sender → Fin 4 → State} (ha : ∀ u f k, KeepsHall lost u (act u f k)) :
    ResultKeepsHall lost s (takePressOrder o p tag payload s act) := by
  refine takeOrder_keepsHall (fun u => ?_)
  split
  · exact .next (ha _ _ _)
  · exact .next (KeepsHall.refl u)

theorem State.keepsHall_onSlot {act : State → Fin 4 → UploadRecord → State} (s : State) (from_ : Sender)
    (slot handle : Nat) (ha : ∀ u k r, KeepsHall lost u (act u k r)) :
    KeepsHall lost s (s.onSlot from_ slot handle act) := by
  unfold State.onSlot
  split
  · exact (s.touches_refuse _ _).keepsHall
  · split
    · exact (s.touches_refuse _ _).keepsHall
    · exact (s.touches_ok _ _).keepsHall.trans (ha _ _ _)

theorem State.keepsHall_abortPage (s : State) (from_ : Sender) (k : Fin 4) :
    KeepsHall lost s (s.abortPage from_ k) := by
  unfold State.abortPage
  simp only
  refine (s.touches_ok from_ []).keepsHall.trans ?_
  split
  · split
    · exact (State.touches_putChannel _ k _).keepsHall
    · exact State.keepsHall_endRendering _ _ _
  · exact (State.touches_putChannel _ k _).keepsHall

/-! ### Every command -/

/-- A command that may end a class's being FROZEN (R35): PORST and Hall Clear, and the deletion of the class. -/
def unfreezes (x : Instr) (c : Nat) : Prop :=
  match x with
  | .porstAsserted | .porstReleased | .hallClear _ _ _ => True
  | .deleteClass _ _ p => word16At p 0 = c
  | _ => False

/-- A row handed on, and the end of its band with it. -/
theorem State.keepsHall_row (s : State) (b : Band) :
    KeepsHall lost s (if 0 < b.rowsLeft then s.produceRow b else s).endBandIfSent := by
  refine KeepsHall.trans ?_ (State.keepsHall_endBandIfSent _)
  split
  · exact (s.touches_produceRow b).keepsHall
  · exact KeepsHall.refl s

/-- Every command keeps rosters, pool and binding counts sound and FROZEN classes as they are, but for the classes it may
unfreeze. -/
theorem exec_keepsHall (x : Instr) (s : State) : ResultKeepsHall (unfreezes x) s (exec x s) := by
  cases x with
  | porstAsserted => exact .next (KeepsHall.of_cleared rfl rfl rfl)
  | porstReleased => exact .next (KeepsHall.of_cleared rfl rfl rfl)
  | storeInitialisationEnd =>
    simp only [exec, execStoreInitialisationEnd]
    split <;> exact .next (KeepsHall.of_same rfl rfl)
  | linkUp p =>
    simp only [exec, execLinkUp]
    split
    · exact .next (KeepsHall.refl s)
    · exact .next (s.keepsHall_setPort p _)
  | idleFill p =>
    simp only [exec, execIdleFill]
    split
    · exact .next (s.keepsHall_setPort p _)
    · exact .next (KeepsHall.refl s)
  | silenceTimerExpiry p =>
    simp only [exec, execSilenceTimerExpiry]
    split
    · exact .next (s.keepsHall_linkDown p)
    · exact .next (KeepsHall.refl s)
  | lineLoss p =>
    simp only [exec, execLineLoss]
    split
    · exact .next (s.keepsHall_linkDown p)
    · exact .next (KeepsHall.refl s)
  | frameDropped p frame =>
    simp only [exec, execFrameDropped]
    split
    · exact .next (KeepsHall.refl s)
    split
    · exact .next (KeepsHall.refl s)
    · exact .next ((s.keepsHall_setPort p _).trans (State.keepsHall_setPort _ p _))
  | frameDeparture p =>
    simp only [exec, execFrameDeparture]
    split
    · exact .next (s.keepsHall_setPort p _)
    · exact .next (KeepsHall.refl s)
  | unknownOrder p tag code payload =>
    simp only [exec, execUnknownOrder]
    split
    · exact .next (KeepsHall.refl s)
    split
    · exact .next ((s.keepsHall_setPort p _).trans (State.keepsHall_setPort _ p _))
    split
    · exact .next (KeepsHall.refl s)
    · exact .next ((s.keepsHall_setPort p _).trans (State.touches_send _ _ _).keepsHall)
  | defineLayout => exact takeOrder_keepsHall fun u => .next (u.keepsHall_defineLayout _ _)
  | deleteLayout => exact takeOrder_keepsHall fun u => .next (u.keepsHall_deleteLayout _ _)
  | queryLayout => exact takeOrder_keepsHall fun u => .next (u.touches_queryLayout _ _).keepsHall
  | openClass => exact takeOrder_keepsHall fun u => .next (u.keepsHall_openClass _ _ _)
  | addSubject => exact takeOrder_keepsHall fun u => .next (u.keepsHall_addSubject _ _)
  | updateSubject => exact takeOrder_keepsHall fun u => .next (u.keepsHall_updateSubject _ _)
  | removeSubject => exact takeOrder_keepsHall fun u => .next (u.keepsHall_removeSubject _ _ _)
  | setTitle => exact takeOrder_keepsHall fun u => .next (u.keepsHall_setTitle _ _ _ _)
  | rebindClass => exact takeOrder_keepsHall fun u => .next (u.keepsHall_rebindClass _ _ _)
  | withdrawRebind => exact takeOrder_keepsHall fun u => .next (u.keepsHall_withdrawRebind _ _)
  | freezeClass => exact takeOrder_keepsHall fun u => .next (u.keepsHall_freezeClass _ _)
  | deleteClass => exact takeOrder_keepsHall fun u => .next (u.keepsHall_deleteClass _ _)
  | queryClass => exact takeOrder_keepsHall fun u => .next (u.touches_queryClass _ _ _).keepsHall
  | beginUpload => exact takeOrder_keepsHall fun u => .next (u.touches_beginUpload _ _).keepsHall
  | putPixels => exact takeOrder_keepsHall fun u t ht => (State.touches_putPixels ht).keepsHall
  | endUpload =>
    exact takeOrder_keepsHall fun u => .next (u.keepsHall_onSlot _ _ _ State.keepsHall_endUploadOf)
  | cancelUpload =>
    exact takeOrder_keepsHall fun u => .next (u.keepsHall_onSlot _ _ _ fun v k r => (v.touches_failUpload k r _).keepsHall)
  | idleTimerExpiry slot =>
    simp only [exec, execIdleTimerExpiry]
    split
    · split
      · exact .next (s.touches_failUpload _ _ _).keepsHall
      · exact .next (KeepsHall.refl s)
    · exact .next (KeepsHall.refl s)
  | deletePortrait => exact takeOrder_keepsHall fun u => .next (u.touches_deletePortrait _ _).keepsHall
  | queryPortrait => exact takeOrder_keepsHall fun u => .next (u.touches_queryPortrait _ _).keepsHall
  | queryStore => exact takeOrder_keepsHall fun u => .next (u.touches_ok _ _).keepsHall
  | openGlyphWindow =>
    exact takeOrder_keepsHall fun u => .next
      ((u.touches_ok _ _).keepsHall.trans (State.touches_setWindow _ _).keepsHall)
  | closeGlyphWindow =>
    exact takeOrder_keepsHall fun u => .next
      ((u.touches_ok _ _).keepsHall.trans (State.touches_setWindow _ _).keepsHall)
  | loadGlyph => exact takeOrder_keepsHall fun u => .next (u.touches_loadGlyph _ _).keepsHall
  | queryGlyph =>
    simp only [exec, execQueryGlyph]
    refine takeOrder_keepsHall fun u => .next ?_
    split
    · exact (u.touches_refuse _ _).keepsHall
    · exact (u.touches_ok _ _).keepsHall
  | planningStartStep =>
    simp only [exec, execPlanningStartStep]
    split
    · exact .next (s.keepsHall_startStep _)
    · exact .next (KeepsHall.refl s)
  | planningCompletion =>
    simp only [exec, execPlanningCompletion]
    split
    · exact .next (s.touches_completePlanning _).keepsHall
    · exact .next (KeepsHall.refl s)
  | configureChannel =>
    exact takePressOrder_keepsHall fun u f k => (u.touches_configureChannel f k _).keepsHall
  | enableChannel => exact takePressOrder_keepsHall fun u f k => (u.touches_enableChannel f k).keepsHall
  | disableChannel => exact takePressOrder_keepsHall fun u f k => (u.touches_disableChannel f k).keepsHall
  | queuePage => exact takePressOrder_keepsHall fun u f k => (u.touches_queuePage f k _ _ _).keepsHall
  | cancelPage => exact takePressOrder_keepsHall fun u f k => (u.touches_cancelPage f k _ _).keepsHall
  | sheetReady =>
    simp only [exec, execSheetReady]
    exact takePressOrder_keepsHall fun u f k => (u.touches_takeTrigger f k _).keepsHall
  | start =>
    simp only [exec, execStart]
    refine takeOrder_keepsHall fun u => ?_
    split
    · exact .next (u.touches_refuse _ _).keepsHall
    · exact .next (u.touches_takeTrigger _ _ _).keepsHall
  | grantBands => exact takePressOrder_keepsHall fun u f k => (u.touches_grantBands f k _).keepsHall
  | abortPage => exact takePressOrder_keepsHall fun u f k => u.keepsHall_abortPage f k
  | channelReset =>
    exact takePressOrder_keepsHall fun u f k =>
      (u.touches_ok f []).keepsHall.trans (State.keepsHall_resetChannel _ k _)
  | queryChannel =>
    simp only [exec, execQueryChannel]
    refine takeOrder_keepsHall fun u => ?_
    split
    · exact .next (u.touches_refuse _ _).keepsHall
    · exact .next (u.touches_ok _ _).keepsHall
  | engineGrant =>
    simp only [exec, execEngineGrant]
    split
    · exact .next (s.touches_grantEngine _).keepsHall
    · exact .next (KeepsHall.refl s)
  | rowData =>
    simp only [exec, execRowData]
    split
    · exact .next (s.keepsHall_row _)
    · exact .next (KeepsHall.refl s)
  | bandEnd =>
    simp only [exec, execBandEnd]
    split
    · split
      · exact .next (KeepsHall.refl s)
      · exact .next (s.keepsHall_row _)
    · exact .next (KeepsHall.refl s)
  | stallTimerExpiry k =>
    simp only [exec, execStallTimerExpiry]
    split
    · exact .next (s.keepsHall_stall k)
    · exact .next (KeepsHall.refl s)
  | scrubTimerExpiry =>
    simp only [exec, execScrubTimerExpiry]
    split
    · exact .next ((s.touches_sel _).mono.trans (State.touches_scrub _)).keepsHall
    · exact .next (KeepsHall.refl s)
  | clearErrorLog =>
    exact takeOrder_keepsHall fun u => .next
      ((u.touches_ok _ _).keepsHall.trans (State.touches_sel _ _).keepsHall)
  | hallClear =>
    simp only [exec, execHallClear]
    exact takeOrder_keepsHall fun u => .next ((u.touches_ok _ _).keepsHall.trans (State.keepsHall_hallClear _))
  | queryLink =>
    simp only [exec, execQueryLink]
    exact takeOrder_keepsHall fun u => .next
      ((u.touches_ok _ _).keepsHall.trans (State.keepsHall_setPort _ _ _))

/-- A step keeps them too: the front command, with the queue's rest, or an idle millisecond. -/
theorem step_keepsHall (hstep : step s = .next t) :
    KeepsHall (fun c => ∃ x rest, s.pending = x :: rest ∧ unfreezes x c) s t := by
  unfold step at hstep
  split at hstep
  · cases hstep
    exact KeepsHall.of_same s.tick_hall.1 s.tick_hall.2
  · next x rest hp =>
    obtain ⟨hr, hb, hf⟩ := exec_keepsHall x { s with pending := rest } t hstep
    exact ⟨hr, hb, fun c hc => hf c (fun hx => hc ⟨x, rest, hp, hx⟩)⟩

/-- Settles O57: by what every command keeps, with the commands of R35's exceptions told apart. -/
theorem stepKeepsRostersAndBindings : Obligations.StepKeepsRostersAndBindings := by
  intro s t hstep
  obtain ⟨hrosters, hbindings, hfrozen⟩ := step_keepsHall hstep
  refine ⟨hrosters, hbindings, fun c hf hp hnot => hfrozen c ?_ hf hp⟩
  rintro ⟨x, rest, hpend, hx⟩
  obtain ⟨hna, hnr, hnot⟩ := hnot x rest hpend
  unfold unfreezes at hx
  split at hx
  · exact hna rfl
  · exact hnr rfl
  · exact (hnot _ _ _).1 rfl
  · exact (hnot _ _ _).2 rfl hx
  · exact hx

end Sys2Proof.Machine
end

section
/-! PROOFS. The field checks of the orders that carry a record (O12), and Define Layout and Delete Layout by their outcomes
(O13 to O15). -/

set_option Elab.async false

namespace Sys2Proof.Machine

/-! ### Field checks (R6, R20) -/

theorem refOk_iff (f : RefForm) :
    refOk f = true ↔ f.present = 0 ∨ f.present = 1 ∧ f.handle ≤ 16383 ∧ f.generation ≤ 15 := by
  simp [refOk, and_assoc]

theorem layoutFieldsOk_iff (f : LayoutForm) :
    layoutFieldsOk f = true ↔
      f.number ≤ 63 ∧ 512 ≤ f.w ∧ f.w ≤ 8192 ∧ 512 ≤ f.h ∧ f.h ≤ 8192 ∧ 1 ≤ f.c ∧ f.c ≤ 16 ∧ 1 ≤ f.r ∧ f.r ≤ 16
        ∧ (f.captionScale = 1 ∨ f.captionScale = 2) ∧ f.t ≤ 1023
        ∧ (f.titleScale = 1 ∨ f.titleScale = 2 ∨ f.titleScale = 4) ∧ f.alignment ≤ 1 ∧ f.ellipsis ≤ 4094
        ∧ (f.placeholder.present = 0 ∨ f.placeholder.present = 1 ∧ f.placeholder.handle ≤ 16383
            ∧ f.placeholder.generation ≤ 15) := by
  simp only [layoutFieldsOk, Bool.and_eq_true, Bool.or_eq_true, decide_eq_true_eq, refOk_iff, and_assoc, or_assoc]

theorem captionOk_iff (count : Nat) (codes : List Nat) :
    captionOk count codes = true ↔
      1 ≤ count ∧ count ≤ 40 ∧ (∀ code ∈ codes, code ≤ 4095) ∧ codes.count 4095 ≤ 1 ∧ codes.head? ≠ some 4095
        ∧ codes.getLast? ≠ some 4095 := by
  simp only [captionOk, Bool.and_eq_true, decide_eq_true_eq, List.all_eq_true, and_assoc]

theorem subjectFieldsOk_iff (f : SubjectForm) :
    subjectFieldsOk f = true ↔ f.role ≤ 1 ∧ captionOk f.count (captionOf f) = true
      ∧ (f.ref.present = 0 ∨ f.ref.present = 1 ∧ f.ref.handle ≤ 16383 ∧ f.ref.generation ≤ 15) := by
  simp only [subjectFieldsOk, Bool.and_eq_true, decide_eq_true_eq, refOk_iff, and_assoc]

/-- A caption is refused by its count, by a code out of range, or by its break marks (R20). -/
theorem captionOk_eq_false_iff (count : Nat) (codes : List Nat) :
    captionOk count codes = false ↔
      count = 0 ∨ 40 < count ∨ (∃ code ∈ codes, 4095 < code) ∨ 1 < codes.count 4095 ∨ codes.head? = some 4095
        ∨ codes.getLast? = some 4095 := by
  rw [← Bool.not_eq_true, captionOk_iff]
  simp only [not_and_or, not_le, not_forall, not_not, exists_prop, Nat.lt_one_iff]

/-- Settles O12: the negations of what the two checks ask, field by field. -/
theorem recordFieldChecks : Obligations.RecordFieldChecks := by
  intro p
  constructor
  · rw [← Bool.not_eq_true, layoutFieldsOk_iff]
    simp only [readLayout]
    omega
  · intro caption
    have hcaption : captionOf (readSubject p) = caption := rfl
    rw [← Bool.not_eq_true, subjectFieldsOk_iff, hcaption, not_and_or, not_and_or, Bool.not_eq_true,
      captionOk_eq_false_iff]
    have href : ¬ (byteAt p 10 = 0 ∨ byteAt p 10 = 1 ∧ word16At p 11 ≤ 16383 ∧ byteAt p 13 ≤ 15)
        ↔ 1 < byteAt p 10 ∨ byteAt p 10 = 1 ∧ (16383 < word16At p 11 ∨ 15 < byteAt p 13) := by omega
    simp only [readSubject, not_le, href, or_assoc]

/-! ### The geometry check (R8) -/

/-- A span's quotient over n cells is below 32 exactly when the span is below 32 n, for a span of either sign. -/
theorem ediv_lt_iff_lt_mul_cells {span : Int} {n : Int} (hn : 1 ≤ n) : span / n < 32 ↔ span < 32 * n :=
  Int.ediv_lt_iff_lt_mul (by omega)

/-- The check without subtraction says R8's condition: no numerator is below 32 C or 32 R. -/
theorem geometryOk_eq_false_iff (f : LayoutForm) (hc : 1 ≤ f.c) (hr : 1 ≤ f.r) :
    geometryOk f = false ↔
      (f.w : Int) - ((f.c : Int) - 1) * f.g < 32 * f.c
        ∨ (f.h : Int) - f.t - f.r * f.cap - ((f.r : Int) - 1) * f.v < 32 * f.r := by
  have hcols : (((f.c - 1) * f.g : Nat) : Int) = ((f.c : Int) - 1) * f.g := by push_cast [Nat.cast_sub hc]; rfl
  have hrows : (((f.r - 1) * f.v : Nat) : Int) = ((f.r : Int) - 1) * f.v := by push_cast [Nat.cast_sub hr]; rfl
  have hcaps : ((f.r * f.cap : Nat) : Int) = (f.r : Int) * f.cap := by push_cast; rfl
  rw [← Bool.not_eq_true, ← hcols, ← hrows, ← hcaps]
  simp only [geometryOk, Bool.and_eq_true, decide_eq_true_eq, not_and_or]
  omega

/-! ### Define Layout (R5 to R9) -/

/-- The ratio clamp changes a ratio exactly when it is out of 32 to 224 (R7). -/
theorem clampRatio_eq_iff (n : Nat) : clampRatio n = n ↔ ¬ (n < 32 ∨ 224 < n) := by
  simp only [clampRatio]
  omega

theorem clampIndication_eq (f : LayoutForm) :
    clampIndication f = (if f.headRatio < 32 ∨ 224 < f.headRatio then 1 else 0)
      + (if f.eyeRatio < 32 ∨ 224 < f.eyeRatio then 2 else 0) := by
  simp only [clampIndication, clampRatio_eq_iff, ite_not]

section DefineLayout

variable (s : State) (from_ : Sender) (f : LayoutForm)

theorem State.defineLayout_badField (hf : layoutFieldsOk f = false) :
    s.defineLayout from_ f = s.refuse from_ .badField := by
  simp [State.defineLayout, hf]

theorem State.defineLayout_badGeometry (hf : layoutFieldsOk f = true) (hg : geometryOk f = false) :
    s.defineLayout from_ f = s.refuse from_ .badGeometry := by
  simp [State.defineLayout, hf, hg]

theorem State.defineLayout_inUse (hf : layoutFieldsOk f = true) (hg : geometryOk f = true)
    (hb : 0 < (s.layout f.number).bindings) : s.defineLayout from_ f = s.refuse from_ .inUse := by
  simp [State.defineLayout, hf, hg, hb]

/-- An accepted Define Layout stores the record, and an unbound layout's readiness is reported to no class (R9, R12). -/
theorem State.defineLayout_accepted (hf : layoutFieldsOk f = true) (hg : geometryOk f = true)
    (hb : (s.layout f.number).bindings = 0) :
    s.defineLayout from_ f = (s.ok from_ (bytes1 (clampIndication f))).setLayout f.number
      { fields := some (storedLayout f), bindings := 0 } := by
  simp [State.defineLayout, hf, hg, hb, State.reportReady, State.layout_setLayout]

end DefineLayout

/-- Settles O14: one clause for each outcome of the order, an accepted one by the record it stores. -/
theorem defineLayoutOutcome : Obligations.DefineLayoutOutcome := by
  intro s port tag p hadm
  refine ⟨_, exec_defineLayout hadm tag, fun hf => ?_, fun hf hg => ?_, fun hf hg hb => ?_, fun hf hg hb => ?_⟩
  · rw [State.defineLayout_badField _ _ _ hf]
    exact Refused.intro _ _ _ _ _
  · rw [State.defineLayout_badGeometry _ _ _ hf hg]
    exact Refused.intro _ _ _ _ _
  · rw [State.defineLayout_inUse _ _ _ hf hg (by rw [State.layout_arrival]; exact hb)]
    exact Refused.intro _ _ _ _ _
  · rw [State.defineLayout_accepted _ _ _ hf hg (by rw [State.layout_arrival]; exact hb), clampIndication_eq]
    refine ⟨Accepted.intro rfl (State.touches_setLayout _ _ _).2, ?_, fun n hn => ?_⟩
    · simp [State.layout_setLayout, readLayout, storedLayout, clampRatio, refOf, rgbAt]
    · have hne : n ≠ (readLayout p).number := hn
      simp [State.layout_setLayout, hne]

/-! ### What was answered -/

/-- An order answered in its turn is not refused with another status: the frame that joins its port tells. -/
theorem not_refused_of_answer {o : Order} {p : Port} {tag : Byte} {status other : Status} {fields : Bytes} {s t : State}
    (hup : (s.port p).up = true) (ht : PortsGain (some p) (onPort p [replyFrame o tag other fields]) s t)
    (hne : status.code ≠ other.code) : ¬ Refused o p tag status s t := by
  rintro ⟨hr, -⟩
  have hwaiting : (s.port p).waiting ++ [replyFrame o tag status []]
      = (s.port p).waiting ++ [replyFrame o tag other fields] := by
    have h1 := congrArg PortState.waiting (hr p)
    have h2 := congrArg PortState.waiting (ht p)
    simpa [hup, onPort] using h1.symm.trans h2
  have hframe := List.append_cancel_left hwaiting
  simp only [List.cons.injEq, and_true, replyFrame, Frame.mk.injEq] at hframe
  obtain ⟨-, -, -, hcode, -⟩ := hframe
  exact hne hcode

/-- With its fields in range an order is answered BAD_GEOMETRY exactly when the geometry check fails. -/
theorem defineLayout_refused_badGeometry_iff {s : State} {port : Port} {tag : Byte} {p : Bytes}
    (hadm : Admitted .defineLayout port p s) (hf : layoutFieldsOk (readLayout p) = true) :
    (∃ t, exec (.defineLayout port tag p) s = .next t ∧ Refused .defineLayout port tag .badGeometry s t)
      ↔ geometryOk (readLayout p) = false := by
  obtain ⟨t, ht, -, hgeometry, hinUse, haccepted⟩ := defineLayoutOutcome s port tag p hadm
  constructor
  · rintro ⟨u, hu, hrefused⟩
    obtain rfl : t = u := by simpa using ht.symm.trans hu
    by_contra hg
    rw [Bool.not_eq_false] at hg
    obtain ⟨hup, -⟩ := hadm
    rcases Nat.eq_zero_or_pos (s.layout (byteAt p 0)).bindings with hb | hb
    · exact not_refused_of_answer hup (haccepted hf hg hb).1.1 (by decide) hrefused
    · exact not_refused_of_answer hup (hinUse hf hg hb).1 (by decide) hrefused
  · exact fun hg => ⟨t, ht, hgeometry hf hg⟩

/-- Settles O13: the order is refused when the geometry check fails, and the check is R8's on the numerators, hence on the
cells. -/
theorem geometryCheckIsOnCells : Obligations.GeometryCheckIsOnCells := by
  intro s port tag p hadm hf w h c r g v cap t refused
  obtain ⟨-, -, -, -, -, hc, -, hr, -⟩ := (layoutFieldsOk_iff _).mp hf
  have hnumerators : refused ↔ w - (c - 1) * g < 32 * c ∨ h - t - r * cap - (r - 1) * v < 32 * r :=
    (defineLayout_refused_badGeometry_iff hadm hf).trans (geometryOk_eq_false_iff _ hc hr)
  have hc' : 1 ≤ c := Int.ofNat_le.mpr hc
  have hr' : 1 ≤ r := Int.ofNat_le.mpr hr
  refine ⟨?_, hnumerators⟩
  rw [ediv_lt_iff_lt_mul_cells hc', ediv_lt_iff_lt_mul_cells hr']
  exact hnumerators

/-! ### Delete Layout (R10) -/

section DeleteLayout

variable (s : State) (from_ : Sender) (n : Nat)

theorem State.deleteLayout_badField (hn : 63 < n) : s.deleteLayout from_ n = s.refuse from_ .badField := by
  simp [State.deleteLayout, hn]

theorem State.deleteLayout_notFound (hn : n ≤ 63) (hf : (s.layout n).fields = none) :
    s.deleteLayout from_ n = s.refuse from_ .notFound := by
  simp [State.deleteLayout, hn, hf]

theorem State.deleteLayout_inUse (hn : n ≤ 63) (hf : (s.layout n).fields ≠ none) (hb : 0 < (s.layout n).bindings) :
    s.deleteLayout from_ n = s.refuse from_ .inUse := by
  simp [State.deleteLayout, hn, hf, hb]

theorem State.deleteLayout_accepted (hn : n ≤ 63) (hf : (s.layout n).fields ≠ none)
    (hb : (s.layout n).bindings = 0) :
    s.deleteLayout from_ n = (s.ok from_ []).setLayout n { fields := none, bindings := 0 } := by
  simp [State.deleteLayout, hn, hf, hb]

end DeleteLayout

/-- Settles O15: one clause for each outcome of the order. -/
theorem deleteLayoutOutcome : Obligations.DeleteLayoutOutcome := by
  intro s port tag p hadm
  refine ⟨_, exec_deleteLayout hadm tag, fun hn => ?_, fun hn hf => ?_, fun hn hf hb => ?_, fun hn hf hb => ?_⟩
  · rw [State.deleteLayout_badField _ _ _ hn]
    exact Refused.intro _ _ _ _ _
  · rw [State.deleteLayout_notFound _ _ _ hn (by simpa using hf)]
    exact Refused.intro _ _ _ _ _
  · rw [State.deleteLayout_inUse _ _ _ hn (by simpa using hf) (by simpa using hb)]
    exact Refused.intro _ _ _ _ _
  · rw [State.deleteLayout_accepted _ _ _ hn (by simpa using hf) (by simpa using hb)]
    refine ⟨Accepted.intro rfl (State.touches_setLayout _ _ _).2, ?_, fun m hm => ?_⟩
    · simp [State.layout_setLayout]
    · simp [State.layout_setLayout, hm]

end Sys2Proof.Machine
end

section
/-! PROOFS. Readiness of a layout, and Rebind Class by its outcomes (O21). -/

set_option Elab.async false

namespace Sys2Proof.Machine

/-! ### Readiness (R11) -/

theorem State.live_iff (s : State) (r : PortraitRef) :
    s.live r = true ↔ (s.entry r.handle).generation = r.generation ∧ (s.entry r.handle).state = .ready := by
  simp [State.live]

/-- A layout is ready when it is DEFINED and its placeholder, if it has one, is live. -/
theorem State.layoutReady_iff (s : State) (n : Nat) :
    s.layoutReady n = true ↔
      ∃ f, (s.layout n).fields = some f ∧ ∀ ref, f.placeholder = some ref →
        (s.entry ref.handle).generation = ref.generation ∧ (s.entry ref.handle).state = .ready := by
  unfold State.layoutReady
  cases hf : (s.layout n).fields with
  | none => simp
  | some f => cases hp : f.placeholder <;> simp [hp, State.live_iff]

/-! ### The class after a rebind (R29, R30) -/

section Awaiting

variable (s : State) (c n : Nat)

theorem State.touches_awaiting : Touches [.lt, .ru] s (s.awaiting c n) :=
  ((s.touches_setLayout n _).mono.trans (State.touches_release? _ _).mono).trans (State.touches_setClass _ c _).mono

theorem State.classAt_awaiting (d : Nat) :
    (s.awaiting c n).classAt d = if d = c then { s.classAt c with pending := some n } else s.classAt d := by
  simp [State.awaiting, State.classAt_setClass]

theorem State.layout_awaiting (m : Nat) :
    (s.awaiting c n).layout m = { s.layout m with
      bindings := (s.layout m).bindings + (if m = n then 1 else 0)
        - (if (s.classAt c).pending = some m then 1 else 0) } := by
  simp [State.awaiting, State.layout_release?, State.layout_bind]

theorem State.awaiting_liu : (s.awaiting c n).liu = s.liu := by simp [State.awaiting]

theorem State.poolFree_awaiting : (s.awaiting c n).ru.poolFree = s.ru.poolFree := by simp [State.awaiting]

theorem State.layoutReady_awaiting (m : Nat) : (s.awaiting c n).layoutReady m = s.layoutReady m :=
  State.layoutReady_congr m (by rw [State.layout_awaiting]) (by simp [State.awaiting])

theorem State.layout_clearPending (m : Nat) :
    (s.clearPending c).layout m = { s.layout m with
      bindings := (s.layout m).bindings - (if (s.classAt c).pending = some m then 1 else 0) } := by
  simp [State.clearPending, State.layout_release?]

theorem State.classAt_clearPending (d : Nat) :
    (s.clearPending c).classAt d = if d = c then { s.classAt c with pending := none } else s.classAt d := by
  simp [State.clearPending, State.classAt_setClass]

end Awaiting

/-- A class whose pending layout is not ready, or with a page in flight, does not switch (R30). -/
theorem State.evalSwitch_waits (s : State) {c n : Nat} (hp : (s.classAt c).pending = some n)
    (hw : ¬ ((s.classAt c).inFlight = 0 ∧ s.layoutReady n = true)) : s.evalSwitch c = s := by
  simp only [State.evalSwitch, hp]
  exact if_neg hw

/-- The switch (R30): the pending layout becomes the bound one, the old one is released, and Rebind Done is sent. -/
theorem State.evalSwitch_switches (s : State) {c n : Nat} (hp : (s.classAt c).pending = some n)
    (hw : (s.classAt c).inFlight = 0 ∧ s.layoutReady n = true) :
    s.evalSwitch c = ((s.setClass c { s.classAt c with bound := some n, pending := none }).release?
      (s.classAt c).bound).send .l (noticeFrame .rebindDone (bytes2 c ++ bytes1 n)) := by
  simp only [State.evalSwitch, hp, if_pos hw, State.notice_eq]

/-! ### Rebind Class (R29) -/

section RebindClass

variable (s : State) (from_ : Sender) {c n : Nat}

theorem State.rebindClass_badField (hn : 63 < n) : s.rebindClass from_ c n = s.refuse from_ .badField := by
  simp [State.rebindClass, hn]

theorem State.rebindClass_redundant (hc : c ≤ 511) (hn : n ≤ 63) (hopen : (s.classAt c).state = .opened)
    (hb : (s.classAt c).bound = some n) : s.rebindClass from_ c n = (s.ok from_ []).clearPending c := by
  simp [State.rebindClass, State.inOpenClass, not_lt.mpr hc, not_lt.mpr hn, hopen, hb]

theorem State.rebindClass_notFound (hc : c ≤ 511) (hn : n ≤ 63) (hopen : (s.classAt c).state = .opened)
    (hb : (s.classAt c).bound ≠ some n) (hf : (s.layout n).fields = none) :
    s.rebindClass from_ c n = s.refuse from_ .notFound := by
  simp [State.rebindClass, State.inOpenClass, not_lt.mpr hc, not_lt.mpr hn, hopen, hb, hf]

/-- A Rebind Class to another DEFINED layout makes it the pending one and evaluates the switch condition. -/
theorem State.rebindClass_evalSwitch (hc : c ≤ 511) (hn : n ≤ 63) (hopen : (s.classAt c).state = .opened)
    (hb : (s.classAt c).bound ≠ some n) (hf : (s.layout n).fields ≠ none) :
    s.rebindClass from_ c n = ((s.ok from_ []).awaiting c n).evalSwitch c := by
  have hsame : (s.ok from_ []).classAt c = s.classAt c := (s.touches_ok from_ []).classAt c
  simp [State.rebindClass, State.inOpenClass, State.awaiting, not_lt.mpr hc, not_lt.mpr hn, hopen, hb, hf, hsame]

end RebindClass

/-- Settles O21: readiness, and one clause for each outcome of the order; the switch is evaluated in the class that awaits
its new layout. -/
theorem rebindClassOutcome : Obligations.RebindClassOutcome := by
  refine ⟨State.layoutReady_iff, fun s port tag p hadm => ?_⟩
  intro c n r switches
  have hclass d : (s.arrival port).classAt d = s.classAt d := by simp
  have hlayout m : (s.arrival port).layout m = s.layout m := by simp
  refine ⟨_, exec_rebindClass hadm tag, fun hn => ?_, fun hc hn hopen hb => ?_, fun hc hn hopen hb hf => ?_,
    fun hc hn hopen hb hf hwait => ?_, fun hc hn hopen hb hf hswitch => ?_⟩
  · rw [State.rebindClass_badField _ _ hn]
    exact Refused.intro _ _ _ _ _
  · rw [State.rebindClass_redundant _ _ hc hn (by rwa [hclass]) (by rwa [hclass])]
    refine ⟨Accepted.intro (by simp [State.clearPending]) (State.touches_clearPending _ c).2, ?_, fun d hd => ?_, ?_,
      fun m => ?_⟩
    · simp [State.classAt_clearPending, r, c]
    · simp [State.classAt_clearPending, hd]
    · simp [State.clearPending]
    · simp [State.layout_clearPending, r, c]
  · rw [State.rebindClass_notFound _ _ hc hn (by rwa [hclass]) (by rwa [hclass]) (by rwa [hlayout])]
    exact Refused.intro _ _ _ _ _
  all_goals
    rw [State.rebindClass_evalSwitch _ _ hc hn (by rwa [hclass]) (by rwa [hclass]) (by rwa [hlayout])]
    set u := (s.arrival port).ok ⟨port, tag, Order.code .rebindClass⟩ [] with hu
    have huclass d : u.classAt d = s.classAt d := by simp [hu]
    have hulayout m : u.layout m = s.layout m := by simp [hu]
    have hupool : u.ru.poolFree = s.ru.poolFree := by simp [hu]
    have huready : (u.awaiting c n).layoutReady n = s.layoutReady n :=
      (u.layoutReady_awaiting c n n).trans (State.layoutReady_congr n (by rw [hulayout]) (by simp [hu]))
    have hawaits : (u.awaiting c n).classAt c = { r with pending := some n } := by
      rw [State.classAt_awaiting, if_pos rfl, huclass]
  · rw [State.evalSwitch_waits _ (by rw [hawaits]) (by rwa [hawaits, huready])]
    refine ⟨Accepted.intro (u.awaiting_liu c n) (u.touches_awaiting c n).2, hawaits, fun d hd => ?_, ?_, fun m => ?_⟩
    · rw [State.classAt_awaiting, if_neg hd, huclass]
    · rw [State.poolFree_awaiting, hupool]
    · rw [State.layout_awaiting, hulayout, huclass]
  · rw [State.evalSwitch_switches _ (by rw [hawaits]) (by rwa [hawaits, huready]), hawaits]
    have hsent : Touches [.lt, .ru] u ((((u.awaiting c n).setClass c { r with bound := some n, pending := none }).release?
        r.bound).send .l (noticeFrame .rebindDone (bytes2 c ++ bytes1 n))) :=
      (((u.touches_awaiting c n).trans (State.touches_setClass _ c _).mono).trans (State.touches_release? _ _).mono).trans
        (State.touches_send _ _ _).mono
    refine ⟨AcceptedWith.intro ?_ hsent.2, ?_, fun d hd => ?_, ?_, fun m => ?_⟩
    · refine ((PortsGain.of_liu (s := u) ?_).send .l _).sent (fun q => by simp [andThen])
      simp [State.awaiting_liu]
    · simp [State.classAt_setClass]
    · simp [State.classAt_setClass, hd, State.classAt_awaiting, huclass]
    · simp [State.poolFree_awaiting, hupool]
    · simp [State.layout_release?, State.layout_awaiting, hulayout, huclass, r]

end Sys2Proof.Machine
end

section
/-! PROOFS. The queries and Clear Error Log, with the bytes of their records (O53). -/

set_option Elab.async false

namespace Sys2Proof.Machine

/-! ### Items of a record -/

@[simp] theorem length_bytes1 (n : Nat) : (bytes1 n).length = 1 := rfl
@[simp] theorem length_bytes2 (n : Nat) : (bytes2 n).length = 2 := rfl
@[simp] theorem length_bytes4 (n : Nat) : (bytes4 n).length = 4 := rfl
@[simp] theorem length_bytesBool (b : Bool) : (bytesBool b).length = 1 := rfl
@[simp] theorem length_zeros (n : Nat) : (zeros n).length = n := List.length_replicate

theorem length_flatMap_bytes4 (l : List Nat) : (l.flatMap bytes4).length = 4 * l.length := by
  induction l with
  | nil => rfl
  | cons n rest ih => simp only [List.flatMap_cons, List.length_append, length_bytes4, List.length_cons, ih]; omega

/-- A yes/no item is 1 or 0 (R210). -/
theorem bytesBool_eq (b : Bool) : bytesBool b = [if b then 1 else 0] := by cases b <;> rfl

/-! ### The records of notices (R165, R187) -/

theorem length_bytesPageDone (d : PageDone) : (bytesPageDone d).length = 37 := by
  unfold bytesPageDone
  simp only [List.length_append, length_bytes1, length_bytes2, length_bytesBool]

/-- The error log record, with 0 after the presence byte of an item it does not hold (R187, R212). -/
theorem bytesLogRecord_eq (r : LogRecord) :
    bytesLogRecord r = bytes1 r.kind.code ++ bytes4 r.cluster ++ bytes2 r.offset ++ [r.syndrome]
      ++ (match r.owner with | none => [0, 0, 0] | some h => bytes1 1 ++ bytes2 h)
      ++ (match r.channel with | none => [0, 0] | some k => bytes1 1 ++ bytes1 k.val) := by
  unfold bytesLogRecord
  cases r.owner <;> cases r.channel <;> rfl

theorem length_bytesLogRecord (r : LogRecord) : (bytesLogRecord r).length = 13 := by
  cases ho : r.owner <;> cases hc : r.channel <;> simp [bytesLogRecord, ho, hc]

/-! ### Portraits and glyphs (R65, R139) -/

/-- An image record's size, face box and box-clamped item (R53). -/
def bytesBox (r : ImageRecord) : Bytes :=
  bytes2 r.width ++ bytes2 r.height ++ bytes2 r.faceCentre ++ bytes2 r.eyeRow ++ bytes2 r.faceHeight
    ++ bytesBool r.boxClamped

theorem State.bytesPortraitReply_eq (s : State) (h : Nat) :
    s.bytesPortraitReply h =
      bytes1 (s.entry h).state.code ++ bytes1 (s.entry h).generation ++ bytes1 (s.entry h).pins
        ++ (match (s.entry h).upload with
          | none => [0, 0]
          | some (k, .new) => bytes1 1 ++ bytes1 k.val
          | some (k, .replace) => bytes1 2 ++ bytes1 k.val)
        ++ (match (s.entry h).image with
          | none => zeros 21
          | some r => bytesBox r ++ bytes4 r.first ++ bytes1 r.clusters ++ bytes4 r.crc.toNat
              ++ bytes1 (s.markedIn r.first))
        ++ (match (s.entry h).replacement with
          | none => zeros 17
          | some r => bytes1 1 ++ bytesBox r ++ bytes1 r.clusters ++ bytes4 r.crc.toNat) := by
  unfold State.bytesPortraitReply
  obtain ⟨state, generation, upload, image, pins, replacement⟩ := s.entry h
  rcases upload with _ | ⟨k, _ | _⟩ <;> rfl

theorem State.length_bytesPortraitReply (s : State) (h : Nat) : (s.bytesPortraitReply h).length = 43 := by
  have hbox r : (bytesBox r).length = 11 := by
    unfold bytesBox
    simp only [List.length_append, length_bytes2, length_bytesBool]
  rw [State.bytesPortraitReply_eq]
  obtain ⟨state, generation, upload, image, pins, replacement⟩ := s.entry h
  rcases upload with _ | ⟨k, _ | _⟩ <;> cases image <;> cases replacement <;>
    simp only [List.length_append, List.length_cons, List.length_nil, length_bytes1, length_bytes4, length_zeros, hbox]

theorem State.length_bytesStoreReply (s : State) (h : s.sel.rescrub.length ≤ 8) : s.bytesStoreReply.length = 71 := by
  have hlist : (s.sel.rescrub.map bytes4).flatten.length = 4 * s.sel.rescrub.length :=
    length_flatMap_bytes4 s.sel.rescrub
  unfold State.bytesStoreReply
  cases s.sel.log <;>
    simp only [List.length_append, length_bytes1, length_bytes2, length_bytes4, length_bytesBool, length_zeros, hlist,
      length_bytesLogRecord] <;>
    omega

theorem State.bytesGlyphReply_eq (s : State) (code : Nat) :
    s.bytesGlyphReply code =
      bytes1 s.gs.window.code ++ bytes1 s.gs.inFlight ++ bytes2 s.gs.glyphs.length
        ++ (if code = 4095 then bytes1 2 ++ zeros 129 else match s.glyph code with
          | none => zeros 130
          | some g => bytes1 1 ++ bytes1 g.advance ++ bytesQuadrant g.mask.upperLeft ++ bytesQuadrant g.mask.upperRight
              ++ bytesQuadrant g.mask.lowerLeft ++ bytesQuadrant g.mask.lowerRight) := by
  unfold State.bytesGlyphReply
  cases s.glyph code with
  | none => rfl
  | some g => simp only [bytesMask, List.append_assoc]; rfl

/-! ### Jobs and their figures (R105, R171) -/

/-- The cells that do not show their subject's own portrait are those of the four reasons (R95, R106). -/
theorem placeholder_counts (cells : List Cell) :
    countCells cells (fun x => decide (x.placeholder = some .noPortrait))
        + countCells cells (fun x => decide (x.placeholder = some .stale))
        + countCells cells (fun x => decide (x.placeholder = some .notReady))
        + countCells cells (fun x => decide (x.placeholder = some .damaged))
      = (cells.filter (fun x => x.placeholder.isSome)).length := by
  induction cells with
  | nil => rfl
  | cons x rest ih =>
    simp only [countCells] at ih ⊢
    cases hx : x.placeholder with
    | none => simpa [List.filter_cons, hx] using ih
    | some reason => cases reason <;> simp [hx] <;> omega

/-- The figures of a plan (R105): of its cells, the number that shows no own portrait and the number with each flag. -/
def bytesPlanFigures (q : Plan) : Bytes :=
  let n (test : Cell → Bool) : Bytes := bytes2 (countCells q.cells test)
  bytes2 q.snap.seq ++ bytes2 q.cells.length ++ bytes2 q.snap.pinned.length ++ n (fun x => x.placeholder.isSome)
    ++ n (fun x => x.fitting.any Fitting.scaleClamped) ++ n (fun x => x.fitting.any Fitting.shifted)
    ++ n (fun x => x.fitting.any Fitting.short) ++ n Cell.truncated ++ n Cell.glyphMissing ++ n Cell.captionOmitted
    ++ n Cell.damagedMidpage

theorem bytesFigures_eq (j : Job) :
    bytesFigures j = match j.stage with
      | .planned q => bytesPlanFigures q
      | .rendering q => bytesPlanFigures q
      | _ => zeros 22 := by
  have hplan (q : Plan) (hq : j.plan? = some q) : bytesFigures j = bytesPlanFigures q := by
    simp only [bytesFigures, hq, bytesPlanFigures, flagCounts, placeholder_counts]
    rfl
  cases hs : j.stage with
  | queued => simp only [bytesFigures, Job.plan?, hs]
  | planning snap => simp only [bytesFigures, Job.plan?, hs]
  | planned q => exact hplan q (by simp only [Job.plan?, hs])
  | rendering q => exact hplan q (by simp only [Job.plan?, hs])

/-- The candidate's wait as two bytes (R112, R171; log 23). -/
theorem State.bytesWait_wait (s : State) (k : Fin 4) :
    bytesWait (s.wait k) = match (s.channel k).candidate with
      | none => [0, 0]
      | some j =>
        if (s.channel k).enabled = false then [1, 1]
        else if s.gs.window ≠ .closed then [1, 2]
        else if (s.classAt j.classNo).pending ≠ none then [1, 3]
        else if s.eligible k = true ∧ ∃ other, s.pln.planning = some other ∧ other ≠ k then [1, 4]
        else [0, 0] := by
  have hplanner : s.pln.planning.any (fun other => decide (other ≠ k)) = true
      ↔ ∃ other, s.pln.planning = some other ∧ other ≠ k := by simp [Option.any_eq_true]
  cases hc : (s.channel k).candidate with
  | none => simp only [State.wait, hc]; rfl
  | some j =>
    simp only [State.wait, hc, Bool.not_eq_true, Option.isSome_iff_ne_none, hplanner]
    split_ifs <;> rfl

/-! ### An arrival changes no record -/

/-- An arrival changes the LIU alone. -/
theorem State.arrival_eq (s : State) (p : Port) : s.arrival p = { s with liu := (s.arrival p).liu } := by
  cases p <;> rfl

section Arrival

variable (s : State) (p : Port)

theorem State.bytesLayoutReply_arrival (n : Nat) : (s.arrival p).bytesLayoutReply n = s.bytesLayoutReply n := by
  rw [State.arrival_eq]; rfl

theorem State.bytesClassReply_arrival (c position : Nat) :
    (s.arrival p).bytesClassReply c position = s.bytesClassReply c position := by
  rw [State.arrival_eq]; rfl

theorem State.bytesPortraitReply_arrival (h : Nat) :
    (s.arrival p).bytesPortraitReply h = s.bytesPortraitReply h := by
  rw [State.arrival_eq]; rfl

theorem State.bytesStoreReply_arrival : (s.arrival p).bytesStoreReply = s.bytesStoreReply := by
  rw [State.arrival_eq]; rfl

theorem State.bytesGlyphReply_arrival (code : Nat) : (s.arrival p).bytesGlyphReply code = s.bytesGlyphReply code := by
  rw [State.arrival_eq]; rfl

theorem State.bytesChannelReply_arrival (k : Fin 4) :
    (s.arrival p).bytesChannelReply k = s.bytesChannelReply k := by
  rw [State.arrival_eq]; rfl

theorem State.bytesLinkReply_arrival (q : Port) : (s.arrival p).bytesLinkReply q = s.bytesLinkReply q := by
  have hport r : ((s.arrival p).port r).up = (s.port r).up
      ∧ ((s.arrival p).port r).frameFault = (s.port r).frameFault := by
    rw [State.port_arrival]
    split <;> exact ⟨rfl, rfl⟩
  simp only [State.bytesLinkReply, hport]

end Arrival

/-! ### Queries answered and refused -/

/-- A query of a number in range is answered with its record and changes nothing; out of range it is refused BAD_FIELD. -/
theorem query_outcome {o : Order} {port : Port} {tag : Byte} {s t : State} {fields : Bytes} {bad : Prop} [Decidable bad]
    (ht : t = if bad then (s.arrival port).refuse ⟨port, tag, o.code⟩ .badField
      else (s.arrival port).ok ⟨port, tag, o.code⟩ fields) :
    (¬ bad → Accepted o port tag fields [] s t) ∧ (bad → Refused o port tag .badField s t) := by
  subst ht
  refine ⟨fun h => ?_, fun h => ?_⟩
  · rw [if_neg h]; exact Accepted.plain _ _ _ _ _ _
  · rw [if_pos h]; exact Refused.intro _ _ _ _ _

section Queries

variable {port : Port} {p : Bytes} {s : State}

theorem queryLayout_outcome (hadm : Admitted .queryLayout port p s) (tag : Byte) :
    ∃ t, exec (.queryLayout port tag p) s = .next t
      ∧ (byteAt p 0 ≤ 63 → Accepted .queryLayout port tag (s.bytesLayoutReply (byteAt p 0)) [] s t)
      ∧ (63 < byteAt p 0 → Refused .queryLayout port tag .badField s t) := by
  refine ⟨_, exec_queryLayout hadm tag, ?_⟩
  rw [← s.bytesLayoutReply_arrival port, ← not_lt]
  exact query_outcome rfl

theorem queryClass_outcome (hadm : Admitted .queryClass port p s) (tag : Byte) :
    ∃ t, exec (.queryClass port tag p) s = .next t
      ∧ (word16At p 0 ≤ 511 →
          Accepted .queryClass port tag (s.bytesClassReply (word16At p 0) (byteAt p 2)) [] s t)
      ∧ (511 < word16At p 0 → Refused .queryClass port tag .badField s t) := by
  refine ⟨_, exec_queryClass hadm tag, ?_⟩
  have hposition : ¬ 255 < byteAt p 2 := not_lt.mpr (Nat.le_of_lt_succ (BitVec.isLt _))
  rw [← s.bytesClassReply_arrival port, ← not_lt, ← or_iff_left (a := 511 < word16At p 0) hposition]
  exact query_outcome rfl

theorem queryPortrait_outcome (hadm : Admitted .queryPortrait port p s) (tag : Byte) :
    ∃ t, exec (.queryPortrait port tag p) s = .next t
      ∧ (word16At p 0 ≤ 16383 → Accepted .queryPortrait port tag (s.bytesPortraitReply (word16At p 0)) [] s t)
      ∧ (16383 < word16At p 0 → Refused .queryPortrait port tag .badField s t) := by
  refine ⟨_, exec_queryPortrait hadm tag, ?_⟩
  rw [← s.bytesPortraitReply_arrival port, ← not_lt]
  exact query_outcome rfl

theorem queryStore_outcome (hadm : Admitted .queryStore port p s) (tag : Byte) :
    ∃ t, exec (.queryStore port tag p) s = .next t ∧ Accepted .queryStore port tag s.bytesStoreReply [] s t := by
  refine ⟨_, exec_queryStore hadm tag, ?_⟩
  rw [← s.bytesStoreReply_arrival port]
  exact Accepted.plain _ _ _ _ _ _

theorem queryGlyph_outcome (hadm : Admitted .queryGlyph port p s) (tag : Byte) :
    ∃ t, exec (.queryGlyph port tag p) s = .next t
      ∧ (word16At p 0 ≤ 4095 → Accepted .queryGlyph port tag (s.bytesGlyphReply (word16At p 0)) [] s t)
      ∧ (4095 < word16At p 0 → Refused .queryGlyph port tag .badField s t) := by
  refine ⟨_, exec_queryGlyph hadm tag, ?_⟩
  rw [← s.bytesGlyphReply_arrival port, ← not_lt]
  exact query_outcome rfl

theorem queryChannel_outcome (hadm : Admitted .queryChannel port p s) (tag : Byte) :
    ∃ t, exec (.queryChannel port tag p) s = .next t
      ∧ (∀ k : Fin 4, k.val = byteAt p 0 → Accepted .queryChannel port tag (s.bytesChannelReply k) [] s t)
      ∧ (3 < byteAt p 0 → Refused .queryChannel port tag .badField s t) := by
  rw [exec_queryChannel hadm tag]
  by_cases h : byteAt p 0 < 4
  · have hfour : four? (byteAt p 0) = some ⟨byteAt p 0, h⟩ := dif_pos h
    simp only [hfour]
    refine ⟨_, rfl, fun k hk => ?_, fun hbad => absurd h (by omega)⟩
    obtain rfl : k = ⟨byteAt p 0, h⟩ := Fin.ext hk
    rw [← s.bytesChannelReply_arrival port]
    exact Accepted.plain _ _ _ _ _ _
  · have hfour : four? (byteAt p 0) = none := dif_neg h
    simp only [hfour]
    exact ⟨_, rfl, fun k hk => absurd (hk ▸ k.isLt) h, fun _ => Refused.intro _ _ _ _ _⟩

/-- Query Link answers with the flags as they stood and clears the asking port's (R194, R201). -/
theorem queryLink_outcome (hadm : Admitted .queryLink port p s) (tag : Byte) :
    ∃ t, exec (.queryLink port tag p) s = .next t ∧ OnlyChanges [.liu] s t
      ∧ (t.port port).frameFault = false
      ∧ (t.port port).waiting = (s.port port).waiting ++ [replyFrame .queryLink tag .ok (s.bytesLinkReply port)]
      ∧ (t.port port).up = true ∧ (t.port port).silence = some 100 ∧ ∀ q, q ≠ port → t.port q = s.port q := by
  refine ⟨_, exec_queryLink hadm tag, ?_⟩
  obtain ⟨hup, -⟩ := hadm
  simp only [State.ok_eq, State.bytesLinkReply_arrival]
  refine ⟨⟨by simp, by simp, by simp, fun b hb => by cases b <;> simp_all [Block.same]⟩, by simp, ?_, ?_, ?_,
    fun q hq => ?_⟩
  · simp [State.port_send, State.port_arrival, hup]
  · simp [State.port_send, State.port_arrival, hup]
  · simp [State.port_send, State.port_arrival]
  · simp [State.port_setPort, State.port_send, State.port_arrival, hq]

theorem clearErrorLog_outcome (hadm : Admitted .clearErrorLog port p s) (tag : Byte) :
    ∃ t, exec (.clearErrorLog port tag p) s = .next t ∧ Accepted .clearErrorLog port tag [] [.sel] s t
      ∧ t.sel = { s.sel with log := none, overflow := false } :=
  ⟨_, exec_clearErrorLog hadm tag, Accepted.intro rfl (State.touches_sel _ _).2, by simp⟩

end Queries

/-! ### The statement -/

/-- Settles O53: the statement's own byte forms are the model's, record by record; each query then has its outcome. -/
theorem queriesAndClearErrorLog : Obligations.QueriesAndClearErrorLog := by
  intro s port tag p one two four yes rgb reference text box quadrant logRecord stage sequence pageDone figures
    layoutReply classReply portraitReply storeReply glyphReply channelReply
  have hyes : yes = bytesBool := funext fun b => (bytesBool_eq b).symm
  have href : reference = bytesRef := funext fun r => by cases r <;> rfl
  have htext size codes : text size codes = bytesString size codes := rfl
  have hbox : box = bytesBox := funext fun r => by simp only [box, hyes]; rfl
  have hlog r : bytesLogRecord r = logRecord r := bytesLogRecord_eq r
  have hpage d : bytesPageDone d = pageDone d := by
    simp only [pageDone, hyes]
    rfl
  have hseq (j : Job) : (match j.snap? with | some snap => snap.seq | none => 0) = sequence j := by
    simp only [sequence, Job.snap?]
    cases j.stage <;> rfl
  have hlayout n : s.bytesLayoutReply n = layoutReply n := by
    simp only [layoutReply, hyes, href, State.bytesLayoutReply]
    cases (s.layout n).fields with
    | none => rfl
    | some f =>
      simp only [bytesLayout, List.append_assoc]
      rfl
  have hclass n position : s.bytesClassReply n position = classReply n position := by
    simp only [classReply, href, htext, State.bytesClassReply]
    rfl
  have hportrait h : s.bytesPortraitReply h = portraitReply h := by
    simp only [portraitReply, hbox]
    exact s.bytesPortraitReply_eq h
  have hstore : s.bytesStoreReply = storeReply := by
    simp only [storeReply, hyes, ← hlog]
    rfl
  have hglyph code : s.bytesGlyphReply code = glyphReply code := s.bytesGlyphReply_eq code
  have hfigures : bytesFigures = fun j => match j.stage with
      | .planned q => figures q
      | .rendering q => figures q
      | _ => zeros 22 := funext bytesFigures_eq
  have hjob : bytesJob = fun j =>
      two j.classNo ++ one j.page ++ one j.copies ++ one (stage j) ++ two (sequence j) := by
    funext j
    rw [← hseq]
    rfl
  have hchannel k : s.bytesChannelReply k = channelReply k := by
    simp only [channelReply, hyes, ← hpage]
    unfold State.bytesChannelReply
    extract_lets c
    rw [← List.flatMap_def, ← List.flatMap_def, hjob, hfigures, State.bytesWait_wait]
    cases c.stallTimer <;> rfl
  rw [← hstore]
  simp only [← hlayout, ← hclass, ← hportrait, ← hglyph, ← hchannel]
  refine ⟨fun h => queryLayout_outcome h tag, fun h => queryClass_outcome h tag, fun h => queryPortrait_outcome h tag,
    fun h => queryStore_outcome h tag, fun h => queryGlyph_outcome h tag, fun h => queryChannel_outcome h tag,
    fun h => ?_, fun h => clearErrorLog_outcome h tag, fun d => ⟨hpage d, hpage d ▸ length_bytesPageDone d⟩,
    fun r => ⟨hlog r, hlog r ▸ length_bytesLogRecord r⟩, fun k j cause => ?_, fun h => ?_, fun h => ?_, fun q => rfl⟩
  · rw [hyes]
    exact queryLink_outcome h tag
  · rw [← hseq]
    rfl
  · rw [State.length_bytesPortraitReply]
  · rw [State.length_bytesStoreReply s h]

end Sys2Proof.Machine
end

section
/-! PROOFS. The ledger of the plans in flight: the handles they pin, their classes and their number, and how each
operation of the part keeps or changes it (R18, R60, R133). -/

set_option Elab.async false

namespace Sys2Proof.Machine

/-! ### The ledger and what keeps it -/

/-- What plans in flight hold, plan by plan: the handles they pin, their classes, and their number. -/
structure Ledger where
  pins : List Nat
  classes : List Nat
  pages : Nat

/-- The ledger of a list of plans. -/
def ledgerOf (plans : List Snapshot) : Ledger :=
  { pins := plans.flatMap Snapshot.handles, classes := plans.map Snapshot.classNo, pages := plans.length }

/-- Every pin count is the number of times its handle is held, and a FREE or FILLING entry has none (R53, R60). -/
def State.PinsAre (s : State) (held : List Nat) : Prop :=
  ∀ h, (s.entry h).pins = held.count h
    ∧ ((s.entry h).state = .free ∨ (s.entry h).state = .filling → (s.entry h).pins = 0)

/-- Every class's in-flight count is the number of times the class is held, and an EMPTY class holds nothing (R18). -/
def State.ClassesAre (s : State) (held : List Nat) : Prop :=
  ∀ c, ((s.classAt c).state = .empty → s.classAt c = emptyClass) ∧ (s.classAt c).inFlight = held.count c

/-- A change takes the counts from one ledger to another, keeps the window sound, and keeps the glyph records, unless it
may `reload` them. -/
structure KeepsLedger (reload : Prop) (b b' : Ledger) (s t : State) : Prop where
  pins : s.PinsAre b.pins → t.PinsAre b'.pins
  classes : s.ClassesAre b.classes → t.ClassesAre b'.classes
  pages : s.gs.inFlight = b.pages → t.gs.inFlight = b'.pages
  window : s.windowSound → t.windowSound
  glyphs : ¬ reload → t.gs.glyphs = s.gs.glyphs

variable {reload : Prop} {b b' b'' : Ledger} {s t u : State}

theorem KeepsLedger.trans (h1 : KeepsLedger reload b b' s t) (h2 : KeepsLedger reload b' b'' t u) :
    KeepsLedger reload b b'' s u :=
  ⟨h2.pins ∘ h1.pins, h2.classes ∘ h1.classes, h2.pages ∘ h1.pages, h2.window ∘ h1.window,
    fun hr => (h2.glyphs hr).trans (h1.glyphs hr)⟩

theorem State.PinsAre.congr {held held' : List Nat} (h : s.PinsAre held) (he : ∀ n, t.entry n = s.entry n)
    (hp : held.Perm held') : t.PinsAre held' := fun n => by
  rw [he, ← hp.count_eq]; exact h n

theorem State.ClassesAre.congr {held held' : List Nat} (h : s.ClassesAre held) (hc : ∀ n, t.classAt n = s.classAt n)
    (hp : held.Perm held') : t.ClassesAre held' := fun n => by
  rw [hc, ← hp.count_eq]; exact h n

/-- A change of the directory alone. -/
theorem KeepsLedger.of_pins {held held' classes : List Nat} {pages : Nat} (hru : t.ru = s.ru) (hgs : t.gs = s.gs)
    (hpins : s.PinsAre held → t.PinsAre held') :
    KeepsLedger reload ⟨held, classes, pages⟩ ⟨held', classes, pages⟩ s t where
  pins := hpins
  classes h := h.congr (fun n => State.classAt_congr _ _ n hru) (.refl _)
  pages h := by rw [hgs]; exact h
  window h := by simpa only [State.windowSound, hgs] using h
  glyphs _ := by rw [hgs]

/-- A change of the Roster Unit, and of blocks that hold no count. -/
theorem KeepsLedger.of_classes {pins held held' : List Nat} {pages : Nat} (hpdir : t.pdir = s.pdir) (hgs : t.gs = s.gs)
    (hclasses : s.ClassesAre held → t.ClassesAre held') :
    KeepsLedger reload ⟨pins, held, pages⟩ ⟨pins, held', pages⟩ s t where
  pins h := h.congr (fun n => State.entry_congr _ _ n hpdir) (.refl _)
  classes := hclasses
  pages h := by rw [hgs]; exact h
  window h := by simpa only [State.windowSound, hgs] using h
  glyphs _ := by rw [hgs]

/-- A change of the Glyph Store alone. -/
theorem KeepsLedger.of_glyphStore {pins classes : List Nat} {pages pages' : Nat} (hpdir : t.pdir = s.pdir)
    (hru : t.ru = s.ru) (hpages : s.gs.inFlight = pages → t.gs.inFlight = pages')
    (hwindow : s.windowSound → t.windowSound) (hglyphs : ¬ reload → t.gs.glyphs = s.gs.glyphs) :
    KeepsLedger reload ⟨pins, classes, pages⟩ ⟨pins, classes, pages'⟩ s t where
  pins h := h.congr (fun n => State.entry_congr _ _ n hpdir) (.refl _)
  classes h := h.congr (fun n => State.classAt_congr _ _ n hru) (.refl _)
  pages := hpages
  window := hwindow
  glyphs := hglyphs

/-- A change of blocks that hold no count. -/
theorem KeepsLedger.of_same (hpdir : t.pdir = s.pdir) (hru : t.ru = s.ru) (hgs : t.gs = s.gs) :
    KeepsLedger reload b b s t :=
  KeepsLedger.of_pins hru hgs (fun h => h.congr (fun n => State.entry_congr _ _ n hpdir) (.refl _))

/-- The order in which a ledger names handles and classes says nothing. -/
theorem KeepsLedger.reorder (hp : b.pins.Perm b'.pins) (hc : b.classes.Perm b'.classes) (hn : b.pages = b'.pages) :
    KeepsLedger reload b b' s s :=
  ⟨fun h => h.congr (fun _ => rfl) hp, fun h => h.congr (fun _ => rfl) hc, fun h => h.trans hn, id, fun _ => rfl⟩

theorem KeepsLedger.of_perm {before after : List Snapshot} (h : before.Perm after) :
    KeepsLedger reload (ledgerOf before) (ledgerOf after) s s :=
  KeepsLedger.reorder (h.flatMap_right _) (h.map _) h.length_eq

/-! ### The statements' invariants by the ledger -/

theorem count_classNo (plans : List Snapshot) (c : Nat) :
    (plans.map Snapshot.classNo).count c = (plans.filter (fun p => decide (p.classNo = c))).length := by
  rw [List.count_eq_countP, List.countP_map, List.countP_eq_length_filter]
  rfl

/-- With no handle twice in a plan, a handle is held once by each plan that pins it. -/
theorem count_handles {plans : List Snapshot} (hnd : ∀ p ∈ plans, p.handles.Nodup) (h : Nat) :
    (plans.flatMap Snapshot.handles).count h = (plans.filter (fun p => decide (h ∈ p.handles))).length := by
  induction plans with
  | nil => rfl
  | cons p rest ih =>
    have hp : p.handles.count h = if h ∈ p.handles then 1 else 0 := (hnd p List.mem_cons_self).count
    rw [List.flatMap_cons, List.count_append, hp, ih (fun q hq => hnd q (List.mem_cons_of_mem _ hq))]
    by_cases hm : h ∈ p.handles
    · simp [hm, Nat.add_comm]
    · simp [hm]

theorem State.inFlightSound_iff (s : State) :
    s.inFlightSound ↔ s.ClassesAre (ledgerOf s.plansInFlight).classes
      ∧ s.gs.inFlight = (ledgerOf s.plansInFlight).pages := by
  simp only [State.inFlightSound, State.ClassesAre, ledgerOf, count_classNo, forall_and]
  tauto

theorem State.pinsSound_iff (s : State) :
    s.pinsSound ↔ (∀ p ∈ s.plansInFlight, p.handles.Nodup) ∧ s.PinsAre (ledgerOf s.plansInFlight).pins := by
  refine and_congr_right fun hnd => ?_
  simp only [State.PinsAre, ledgerOf, count_handles hnd, forall_and]

end Sys2Proof.Machine
end

section
/-! PROOFS. The operations that leave the plans in flight and every count as they are. -/

set_option Elab.async false

namespace Sys2Proof.Machine

variable {reload : Prop} {b : Ledger} {s t u : State}

/-! ### Blocks that are not touched -/

theorem Touches.pdir {blocks : List Block} (h : Touches blocks s t) (hp : .pdir ∉ blocks := by decide) :
    t.pdir = s.pdir := by
  obtain ⟨-, -, -, -, hsame⟩ := h
  exact hsame .pdir (by simpa using hp)

theorem Touches.gs {blocks : List Block} (h : Touches blocks s t) (hg : .gs ∉ blocks := by decide) : t.gs = s.gs := by
  obtain ⟨-, -, -, -, hsame⟩ := h
  exact hsame .gs (by simpa using hg)

theorem Touches.pch {blocks : List Block} (h : Touches blocks s t) (hp : .pch ∉ blocks := by decide) :
    t.pch = s.pch := by
  obtain ⟨-, -, -, -, hsame⟩ := h
  exact hsame .pch (by simpa using hp)

theorem Touches.entry {blocks : List Block} (h : Touches blocks s t) (n : Nat) (hp : .pdir ∉ blocks := by decide) :
    t.entry n = s.entry n := State.entry_congr _ _ n (h.pdir hp)

/-! ### The plans of a channel (R18, R152) -/

/-- The plans in flight of a channel. -/
def Channel.plans (c : Channel) : List Snapshot := c.jobs.filterMap Job.snap?

theorem State.plansInFlight_eq (s : State) : s.plansInFlight = fours.flatMap (fun k => (s.channel k).plans) := rfl

theorem State.plansInFlight_congr (h : ∀ k, (t.channel k).plans = (s.channel k).plans) :
    t.plansInFlight = s.plansInFlight := by
  simp only [State.plansInFlight_eq, h]

theorem State.plansInFlight_of_pch (h : t.pch = s.pch) : t.plansInFlight = s.plansInFlight :=
  State.plansInFlight_congr (fun k => by rw [State.channel_congr _ _ k h])

/-- The plans of one channel are those it then has and some more: so it is with the plans in flight. -/
theorem State.plansInFlight_perm {k : Fin 4} {more : List Snapshot}
    (hk : (s.channel k).plans.Perm (more ++ (t.channel k).plans))
    (hj : ∀ j, j ≠ k → (t.channel j).plans = (s.channel j).plans) :
    s.plansInFlight.Perm (more ++ t.plansInFlight) := by
  rw [List.perm_iff_count] at hk ⊢
  intro p
  have hp := hk p
  rw [List.count_append] at hp ⊢
  simp only [State.plansInFlight_eq, fours, List.flatMap_cons, List.flatMap_nil, List.count_append, List.count_nil]
  fin_cases k
  · rw [hj 1 (by decide), hj 2 (by decide), hj 3 (by decide)]; simp at hp ⊢; omega
  · rw [hj 0 (by decide), hj 2 (by decide), hj 3 (by decide)]; simp at hp ⊢; omega
  · rw [hj 0 (by decide), hj 1 (by decide), hj 3 (by decide)]; simp at hp ⊢; omega
  · rw [hj 0 (by decide), hj 1 (by decide), hj 2 (by decide)]; simp at hp ⊢; omega

theorem Job.snap?_of_queued {j : Job} (h : j.queued = true) : j.snap? = none := by
  unfold Job.queued at h
  unfold Job.snap?
  split at h <;> simp_all

/-- A removal of a job without a plan. -/
theorem filterMap_snap?_removeFirst {test : Job → Bool} (h : ∀ j, test j = true → j.snap? = none) (jobs : List Job) :
    (removeFirst test jobs).filterMap Job.snap? = jobs.filterMap Job.snap? := by
  induction jobs with
  | nil => rfl
  | cons j rest ih =>
    unfold removeFirst
    split
    · next hj => rw [List.filterMap_cons_none (h j hj)]
    · simp only [List.filterMap_cons, ih]

theorem filterMap_snap?_removeLast {test : Job → Bool} (h : ∀ j, test j = true → j.snap? = none) (jobs : List Job) :
    (removeLast test jobs).filterMap Job.snap? = jobs.filterMap Job.snap? := by
  rw [removeLast, List.filterMap_reverse, filterMap_snap?_removeFirst h, List.filterMap_reverse, List.reverse_reverse]

/-- A removal of every job of some kind that has no plan. -/
theorem filterMap_snap?_filter {test : Job → Bool} (h : ∀ j, test j = false → j.snap? = none) (jobs : List Job) :
    (jobs.filter test).filterMap Job.snap? = jobs.filterMap Job.snap? := by
  induction jobs with
  | nil => rfl
  | cons j rest ih =>
    by_cases hj : test j = true
    · rw [List.filter_cons_of_pos hj]; simp only [List.filterMap_cons, ih]
    · rw [List.filter_cons_of_neg hj, ih, List.filterMap_cons_none (h j (by simpa using hj))]

/-- The PLANNED job of a channel is the first of its list. -/
theorem Channel.plannedPlan?_eq_some {c : Channel} {p : Plan} (h : c.plannedPlan? = some p) :
    ∃ j rest, c.jobs = j :: rest ∧ j.stage = .planned p := by
  unfold Channel.plannedPlan? at h
  cases hjobs : c.jobs with
  | nil => simp [hjobs] at h
  | cons j rest =>
    refine ⟨j, rest, rfl, ?_⟩
    simp only [hjobs, List.head?_cons, Option.bind_some, Job.plannedPlan?] at h
    split at h
    · next hs => rw [hs, Option.some.inj h]
    · cases h

/-- The RENDERING job of a channel is the first of its list. -/
theorem Channel.renderingPlan?_eq_some {c : Channel} {p : Plan} (h : c.renderingPlan? = some p) :
    ∃ j rest, c.jobs = j :: rest ∧ j.stage = .rendering p := by
  unfold Channel.renderingPlan? at h
  cases hjobs : c.jobs with
  | nil => simp [hjobs] at h
  | cons j rest =>
    refine ⟨j, rest, rfl, ?_⟩
    simp only [hjobs, List.head?_cons, Option.bind_some, Job.renderingPlan?] at h
    split at h
    · next hs => rw [hs, Option.some.inj h]
    · cases h

/-! ### Steady changes -/

/-- A change that leaves the plans in flight and every count as they are. -/
structure Steady (reload : Prop) (s t : State) : Prop where
  plans : t.plansInFlight = s.plansInFlight
  ledger : ∀ b, KeepsLedger reload b b s t

theorem Steady.of_same (hpdir : t.pdir = s.pdir) (hru : t.ru = s.ru) (hgs : t.gs = s.gs) (hpch : t.pch = s.pch) :
    Steady reload s t := ⟨State.plansInFlight_of_pch hpch, fun _ => KeepsLedger.of_same hpdir hru hgs⟩

theorem Steady.refl (s : State) : Steady reload s s := Steady.of_same rfl rfl rfl rfl

theorem Steady.trans (h1 : Steady reload s t) (h2 : Steady reload t u) : Steady reload s u :=
  ⟨h2.plans.trans h1.plans, fun b => (h1.ledger b).trans (h2.ledger b)⟩

theorem Steady.foldl {α : Type} {f : State → α → State} (h : ∀ s a, Steady reload s (f s a)) (l : List α) (s : State) :
    Steady reload s (l.foldl f s) := by
  induction l generalizing s with
  | nil => exact Steady.refl s
  | cons a rest ih => exact (h s a).trans (ih _)

/-- An operation that touches neither channels nor counts. -/
theorem Touches.steady {blocks : List Block} (h : Touches blocks s t) (hpdir : .pdir ∉ blocks := by decide)
    (hru : .ru ∉ blocks := by decide) (hgs : .gs ∉ blocks := by decide) (hpch : .pch ∉ blocks := by decide) :
    Steady reload s t := Steady.of_same (h.pdir hpdir) (h.ru hru) (h.gs hgs) (h.pch hpch)

theorem State.steady_setPort (s : State) (p : Port) (v : PortState) : Steady reload s (s.setPort p v) :=
  Steady.of_same (by simp) (by simp) (by simp) (by simp)

/-- An entry takes a record with the pins it had, and with none when the record is FREE or FILLING. -/
theorem State.steady_setEntry (s : State) (h : Nat) (v : DirEntry)
    (hv : ((s.entry h).state = .free ∨ (s.entry h).state = .filling → (s.entry h).pins = 0) →
      v.pins = (s.entry h).pins ∧ (v.state = .free ∨ v.state = .filling → v.pins = 0)) :
    Steady reload s (s.setEntry h v) := by
  refine ⟨State.plansInFlight_of_pch rfl, fun b => KeepsLedger.of_pins rfl rfl fun hpins n => ?_⟩
  rw [State.entry_setEntry]
  split
  · next hn =>
    subst hn
    obtain ⟨heq, hnone⟩ := hv (hpins n).2
    exact ⟨heq.trans (hpins n).1, hnone⟩
  · exact hpins n

/-- A class takes a record with the in-flight count it had, which holds nothing when it is EMPTY. -/
theorem State.steady_setClass (s : State) (c : Nat) (r : ClassRecord)
    (hr : ((s.classAt c).state = .empty → s.classAt c = emptyClass) →
      (r.state = .empty → r = emptyClass) ∧ r.inFlight = (s.classAt c).inFlight) :
    Steady reload s (s.setClass c r) := by
  refine ⟨State.plansInFlight_of_pch rfl, fun b => KeepsLedger.of_classes rfl rfl fun hclasses n => ?_⟩
  rw [State.classAt_setClass]
  split
  · next hn =>
    subst hn
    obtain ⟨hempty, hcount⟩ := hr (hclasses n).1
    exact ⟨hempty, hcount.trans (hclasses n).2⟩
  · exact hclasses n

/-- The number of free pool records is no count of the ledger. -/
theorem State.steady_setPool (s : State) (n : Nat) : Steady reload s (s.setPool n) :=
  ⟨State.plansInFlight_of_pch rfl, fun _ => KeepsLedger.of_classes rfl rfl fun h => h.congr (fun _ => rfl) (.refl _)⟩

/-- A channel takes a record with the plans it had. -/
theorem State.steady_setChannel (s : State) (k : Fin 4) (c : Channel) (h : c.plans = (s.channel k).plans) :
    Steady reload s (s.setChannel k c) := by
  refine ⟨State.plansInFlight_congr fun j => ?_, fun b => KeepsLedger.of_same rfl rfl rfl⟩
  rw [State.channel_setChannel]
  split
  · next hj => rw [hj, h]
  · rfl

theorem State.steady_putChannel (s : State) (k : Fin 4) (c : Channel) (h : c.plans = (s.channel k).plans) :
    Steady reload s (s.putChannel k c) := s.steady_setChannel k _ h

/-! ### Classes (R22 to R36) -/

theorem State.steady_evalSwitch (s : State) (c : Nat) : Steady reload s (s.evalSwitch c) := by
  unfold State.evalSwitch
  simp only
  split
  · exact Steady.refl s
  next n hpend =>
  split
  · have hset : Steady reload s (s.setClass c { s.classAt c with bound := some n, pending := none }) := by
      refine s.steady_setClass c _ fun he => ⟨fun hs => ?_, rfl⟩
      rw [he hs] at hpend; cases hpend
    exact (hset.trans (State.touches_release? _ _).steady).trans (State.touches_notice _ _ _ _).steady
  · exact Steady.refl s

theorem State.steady_reportReady (s : State) (n : Nat) : Steady reload s (s.reportReady n) := by
  unfold State.reportReady
  split
  · refine Steady.foldl (fun s c => ?_) _ _
    split
    · exact s.steady_evalSwitch c
    · exact Steady.refl s
  · exact Steady.refl s

theorem State.steady_reportEntry (s : State) (h : Nat) : Steady reload s (s.reportEntry h) := by
  unfold State.reportEntry
  refine Steady.foldl (fun s n => ?_) _ _
  split
  · exact s.steady_reportReady n
  · exact Steady.refl s

/-- In a class that is not EMPTY roster, title, layouts and state may change, as long as it does not become EMPTY. -/
theorem State.steady_setClass_held (s : State) (c : Nat) (r : ClassRecord) (hr : r.state ≠ .empty)
    (hn : r.inFlight = (s.classAt c).inFlight) : Steady reload s (s.setClass c r) :=
  s.steady_setClass c r fun _ => ⟨fun h => absurd h hr, hn⟩

theorem State.steady_clearPending (s : State) (c : Nat) : Steady reload s (s.clearPending c) := by
  refine (State.touches_release? s _).steady.trans (State.steady_setClass _ c _ fun he => ?_)
  rw [State.classAt_release?] at he ⊢
  exact ⟨fun hs => by rw [he hs]; rfl, rfl⟩

theorem State.steady_defineLayout (s : State) (from_ : Sender) (f : LayoutForm) :
    Steady reload s (s.defineLayout from_ f) := by
  unfold State.defineLayout
  split
  · exact (s.touches_refuse _ _).steady
  split
  · exact (s.touches_refuse _ _).steady
  split
  · exact (s.touches_refuse _ _).steady
  · exact ((s.touches_ok _ _).mono.trans (State.touches_setLayout _ _ _)).steady.trans (State.steady_reportReady _ _)

theorem State.steady_deleteLayout (s : State) (from_ : Sender) (n : Nat) :
    Steady reload s (s.deleteLayout from_ n) := by
  unfold State.deleteLayout
  split_ifs
  · exact (s.touches_refuse _ _).steady
  · exact (s.touches_refuse _ _).steady
  · exact (s.touches_refuse _ _).steady
  · exact ((s.touches_ok _ _).mono.trans (State.touches_setLayout _ _ _)).steady

theorem State.steady_openClass (s : State) (from_ : Sender) (c n : Nat) :
    Steady reload s (s.openClass from_ c n) := by
  unfold State.openClass
  split
  · exact (s.touches_refuse _ _).steady
  split
  · exact (s.touches_refuse _ _).steady
  next hstate =>
  split
  · exact (s.touches_refuse _ _).steady
  · have hbound : Touches [.lt] s ((s.ok from_ []).bind n) :=
      (s.touches_ok _ _).mono.trans (State.touches_setLayout _ _ _)
    refine hbound.steady.trans (State.steady_setClass _ c _ fun he => ⟨nofun, ?_⟩)
    rw [he (by rw [hbound.classAt]; exact not_not.mp hstate)]

/-- An order that acts in an OPEN class is as steady as its act there. -/
theorem State.steady_inOpenClass {from_ : Sender} {c : Nat} {act : State}
    (h : (s.classAt c).state = .opened → Steady reload s act) : Steady reload s (s.inOpenClass from_ c act) := by
  unfold State.inOpenClass
  split
  · exact (s.touches_refuse _ _).steady
  · split
    · exact (s.touches_refuse _ _).steady
    · exact (s.touches_refuse _ _).steady
    · next hc => exact h hc

/-- An answered order that gives an OPEN class another record, still OPEN or FROZEN and with its in-flight count. -/
theorem State.steady_ok_setClass (s : State) (from_ : Sender) (fields : Bytes) (c : Nat) (r : ClassRecord)
    (hr : r.state ≠ .empty) (hn : r.inFlight = (s.classAt c).inFlight) :
    Steady reload s ((s.ok from_ fields).setClass c r) :=
  (s.touches_ok from_ fields).steady.trans
    (State.steady_setClass_held _ c r hr (by rw [(s.touches_ok from_ fields).classAt, hn]))

theorem State.steady_ok_setRoster (s : State) (from_ : Sender) (fields : Bytes) (c : Nat) (roster : List Subject)
    (hopen : (s.classAt c).state = .opened) : Steady reload s ((s.ok from_ fields).setRoster c roster) := by
  have hsame := (s.touches_ok from_ fields).classAt c
  exact s.steady_ok_setClass from_ fields c _ (by rw [hsame, hopen]; simp) (by rw [hsame])

theorem State.steady_addSubject (s : State) (from_ : Sender) (f : SubjectForm) :
    Steady reload s (s.addSubject from_ f) := by
  unfold State.addSubject
  simp only
  split
  · exact (s.touches_refuse _ _).steady
  refine State.steady_inOpenClass fun hopen => ?_
  split_ifs
  · exact (s.touches_refuse _ _).steady
  · exact (s.touches_refuse _ _).steady
  · exact (s.touches_refuse _ _).steady
  · exact (s.touches_refuse _ _).steady
  · exact (s.steady_ok_setRoster _ _ _ _ hopen).trans (State.steady_setPool _ _)

theorem State.steady_updateSubject (s : State) (from_ : Sender) (f : SubjectForm) :
    Steady reload s (s.updateSubject from_ f) := by
  unfold State.updateSubject
  simp only
  split
  · exact (s.touches_refuse _ _).steady
  refine State.steady_inOpenClass fun hopen => ?_
  split
  · exact (s.touches_refuse _ _).steady
  split
  · exact (s.touches_refuse _ _).steady
  · exact s.steady_ok_setRoster _ _ _ _ hopen

theorem State.steady_removeSubject (s : State) (from_ : Sender) (c id : Nat) :
    Steady reload s (s.removeSubject from_ c id) := by
  unfold State.removeSubject
  refine State.steady_inOpenClass fun hopen => ?_
  split
  · exact (s.touches_refuse _ _).steady
  · exact (s.steady_ok_setRoster _ _ _ _ hopen).trans (State.steady_setPool _ _)

theorem State.steady_setTitle (s : State) (from_ : Sender) (c count : Nat) (title : List Nat) :
    Steady reload s (s.setTitle from_ c count title) := by
  unfold State.setTitle
  split
  · exact (s.touches_refuse _ _).steady
  · refine State.steady_inOpenClass fun hopen => s.steady_ok_setClass _ _ _ _ ?_ rfl
    rw [hopen]; simp

theorem State.steady_awaiting (s : State) (c n : Nat) (hopen : (s.classAt c).state = .opened) :
    Steady reload s (s.awaiting c n) := by
  have hbound : Touches [.lt] s ((s.bind n).release? (s.classAt c).pending) :=
    (s.touches_setLayout n _).trans (State.touches_release? _ _)
  exact hbound.steady.trans
    (State.steady_setClass_held _ c _ (by simp [hopen]) (by rw [hbound.classAt]))

theorem State.steady_rebindClass (s : State) (from_ : Sender) (c n : Nat) :
    Steady reload s (s.rebindClass from_ c n) := by
  unfold State.rebindClass
  split
  · exact (s.touches_refuse _ _).steady
  refine State.steady_inOpenClass fun hopen => ?_
  have hok : Steady reload s (s.ok from_ []) := (s.touches_ok from_ []).steady
  have hsame := (s.touches_ok from_ []).classAt c
  split_ifs
  · exact hok.trans (State.steady_clearPending _ c)
  · exact (s.touches_refuse _ _).steady
  · have hawaiting : Steady reload (s.ok from_ []) ((s.ok from_ []).awaiting c n) :=
      State.steady_awaiting _ c n (by rw [hsame, hopen])
    rw [State.awaiting, hsame] at hawaiting
    exact hok.trans (hawaiting.trans (State.steady_evalSwitch _ c))

theorem State.steady_freezeClass (s : State) (from_ : Sender) (c : Nat) :
    Steady reload s (s.freezeClass from_ c) := by
  unfold State.freezeClass
  split
  · exact (s.touches_refuse _ _).steady
  split
  · exact (s.touches_refuse _ _).steady
  · exact (s.touches_ok _ _).steady
  · have hfreeze : Steady reload s ((s.ok from_ []).freeze c) :=
      ((s.touches_ok from_ []).steady.trans (State.steady_clearPending _ c)).trans
        (State.steady_setClass_held _ c _ (by simp) rfl)
    simp only
    split
    · exact hfreeze.trans (State.touches_notice _ _ _ _).steady
    · exact hfreeze

theorem State.steady_removeQueued (s : State) (c : Nat) (k : Fin 4) : Steady reload s (s.removeQueued c k) := by
  unfold State.removeQueued
  extract_lets ofClass ch s'
  have hnotices : Touches [] s s' := Touches.foldl (fun s _ => s.touches_notice _ _ _) _ s
  refine hnotices.steady.trans (State.steady_putChannel _ k _ ?_)
  rw [State.channel_congr _ _ k hnotices.pch]
  refine filterMap_snap?_filter (fun j hj => Job.snap?_of_queued ?_) _
  simp only [ofClass, Bool.not_eq_false', Bool.and_eq_true] at hj
  exact hj.1

theorem State.steady_deleteClass (s : State) (from_ : Sender) (c : Nat) :
    Steady reload s (s.deleteClass from_ c) := by
  unfold State.deleteClass
  split_ifs with hnumber hstate hflight
  · exact (s.touches_refuse _ _).steady
  · exact (s.touches_refuse _ _).steady
  · exact (s.touches_refuse _ _).steady
  extract_lets r removed
  have hremoved : Touches [.pch] s removed :=
    (s.touches_ok from_ []).mono.trans (Touches.foldl (fun s k => s.touches_removeQueued c k) _ _)
  have hsteady : Steady reload s removed :=
    (s.touches_ok from_ []).steady.trans (Steady.foldl (fun s k => s.steady_removeQueued c k) _ _)
  have hreleased : Steady reload removed
      (((removed.setPool (removed.ru.poolFree + r.roster.length)).release? r.bound).release? r.pending) :=
    (State.steady_setPool _ _).trans ((State.touches_release? _ _).trans (State.touches_release? _ _)).steady
  refine (hsteady.trans hreleased).trans (State.steady_setClass _ c _ fun _ => ⟨fun _ => rfl, ?_⟩)
  rw [State.classAt_release?, State.classAt_release?, State.classAt_setPool, hremoved.classAt]
  exact (Nat.eq_zero_of_not_pos hflight).symm

end Sys2Proof.Machine
end

section
/-! PROOFS. The directory, the uploads, the faults and the channel orders leave the plans in flight and every count as they
are. -/

set_option Elab.async false

namespace Sys2Proof.Machine

variable {reload : Prop} {s t u : State}

/-! ### Entries and uploads (R54 to R64) -/

/-- An entry takes a record with its pins, which is FREE or FILLING only if the entry was. -/
theorem State.steady_setEntry_held (s : State) (h : Nat) (v : DirEntry) (hp : v.pins = (s.entry h).pins)
    (hs : v.state = .free ∨ v.state = .filling → (s.entry h).state = .free ∨ (s.entry h).state = .filling) :
    Steady reload s (s.setEntry h v) :=
  s.steady_setEntry h v fun hnone => ⟨hp, fun hv => hp.trans (hnone (hs hv))⟩

theorem State.steady_makeReady (s : State) (h : Nat) (e : DirEntry) (image : ImageRecord)
    (he : e.pins = (s.entry h).pins) : Steady reload s (s.makeReady h e image) := by
  have hset : Steady reload s (s.setEntry h { e with state := .ready, image := some image }) :=
    s.steady_setEntry_held h _ he (by simp)
  unfold State.makeReady
  simp only
  split
  · exact hset
  · exact hset.trans (State.steady_reportEntry _ h)

theorem State.steady_swap (s : State) (h : Nat) : Steady reload s (s.swap h) := by
  unfold State.swap
  simp only
  split
  · exact Steady.refl s
  · next new _ =>
    have hchains : Touches [.sc] s ((s.freeImage (s.entry h).image).relabelChain new.first .current) :=
      (s.touches_freeImage _).trans (State.touches_relabelChain _ _ _)
    exact (hchains.steady.trans (State.steady_makeReady _ h _ _ (by rw [hchains.entry]))).trans
      (State.touches_notice _ _ _ _).steady

theorem State.steady_disclaim (s : State) (h : Nat) : Steady reload s (s.disclaim h) := by
  unfold State.disclaim
  simp only
  split
  · next hfilling => exact s.steady_setEntry h _ fun hnone => ⟨(hnone (.inr hfilling)).symm, fun _ => rfl⟩
  · exact s.steady_setEntry_held h _ rfl id

/-- An entry without pins has none after an upload's end is told. -/
theorem State.pins_disclaim (s : State) (h : Nat) {n : Nat} (hp : (s.entry n).pins = 0) :
    ((s.disclaim h).entry n).pins = 0 := by
  unfold State.disclaim
  extract_lets e
  split <;> rw [State.entry_setEntry] <;> split
  · rfl
  · exact hp
  · next hn => subst hn; exact hp
  · exact hp

/-- A clean-up is the return of chain and reservation, the word to the entry, and the closing of the slot (R81). -/
theorem State.cleanUp_eq (s : State) (k : Fin 4) (u : UploadRecord) :
    ∃ v, Touches [.sc] s v ∧ s.cleanUp k u = (v.disclaim u.handle).closeSlot k := by
  refine ⟨_, ?_, rfl⟩
  refine Touches.trans ?_ (State.touches_sc _ _)
  split
  · exact s.touches_freeChain _
  · exact Touches.refl _ s

theorem State.steady_cleanUp (s : State) (k : Fin 4) (u : UploadRecord) : Steady reload s (s.cleanUp k u) := by
  obtain ⟨v, hv, heq⟩ := s.cleanUp_eq k u
  rw [heq]
  exact (hv.steady.trans (State.steady_disclaim _ _)).trans (State.touches_closeSlot _ k).steady

theorem State.pins_cleanUp (s : State) (k : Fin 4) (u : UploadRecord) {n : Nat} (hp : (s.entry n).pins = 0) :
    ((s.cleanUp k u).entry n).pins = 0 := by
  obtain ⟨v, hv, heq⟩ := s.cleanUp_eq k u
  rw [heq, (State.touches_closeSlot _ k).entry]
  exact v.pins_disclaim _ (by rw [hv.entry, hp])

theorem State.steady_failUpload (s : State) (k : Fin 4) (u : UploadRecord) (o : UploadOutcome) :
    Steady reload s (s.failUpload k u o) :=
  (s.steady_cleanUp k u).trans (State.touches_uploadResult _ _ _ _ _).steady

theorem State.steady_abandonUploads (s : State) : Steady reload s s.abandonUploads := by
  unfold State.abandonUploads
  exact Steady.foldl (fun s (ku : Fin 4 × UploadRecord) => s.steady_cleanUp ku.1 ku.2) _ _

theorem State.steady_handOver (s : State) (k : Fin 4) (u : UploadRecord) : Steady reload s (s.handOver k u) := by
  unfold State.handOver
  extract_lets e image closed
  have hclosed : Touches [.sc, .ie] s closed := (s.touches_closeSlot k).mono
  have hrelabelled kind : Touches [.sc, .ie] s (closed.relabelChain image.first kind) :=
    hclosed.trans (State.touches_relabelChain _ _ _).mono
  split
  · exact ((hrelabelled _).steady.trans
      (State.steady_makeReady _ _ _ _ (by rw [(hrelabelled _).entry]))).trans (State.touches_uploadResult _ _ _ _ _).steady
  · split
    · have hfreed : Touches [.sc, .ie] s ((closed.relabelChain image.first .current).freeImage e.image) :=
        (hrelabelled _).trans (State.touches_freeImage _ _).mono
      exact (hfreed.steady.trans (State.steady_makeReady _ _ _ _ (by rw [hfreed.entry]))).trans
        (State.touches_uploadResult _ _ _ _ _).steady
    · refine ((hrelabelled _).steady.trans (State.steady_setEntry_held _ _ _ ?_ ?_)).trans
        (State.touches_uploadResult _ _ _ _ _).steady
      · rw [(hrelabelled _).entry]
      · rw [(hrelabelled _).entry]; exact id

theorem State.steady_endUploadOf (s : State) (k : Fin 4) (u : UploadRecord) :
    Steady reload s (s.endUploadOf k u) := by
  unfold State.endUploadOf
  split
  · exact s.steady_failUpload k u _
  · split
    · exact s.steady_failUpload k u _
    · exact s.steady_handOver k u

theorem State.steady_onSlot {act : State → Fin 4 → UploadRecord → State} (s : State) (from_ : Sender)
    (slot handle : Nat) (ha : ∀ u k r, Steady reload u (act u k r)) :
    Steady reload s (s.onSlot from_ slot handle act) := by
  unfold State.onSlot
  split
  · exact (s.touches_refuse _ _).steady
  · split
    · exact (s.touches_refuse _ _).steady
    · exact (s.touches_ok _ _).steady.trans (ha _ _ _)

/-- A granted claim of a new handle finds its entry FREE. -/
theorem State.steady_claim (s : State) (h : Nat) (k : Fin 4) (mode : UploadMode)
    (hfree : mode = .new → (s.entry h).state = .free) : Steady reload s (s.claim h k mode) := by
  cases mode with
  | new => exact s.steady_setEntry_held h _ rfl fun _ => .inl (hfree rfl)
  | replace => exact s.steady_setEntry_held h _ rfl id

theorem State.entry_free_of_claim {h : Nat} {mode : UploadMode} (hc : s.claimRefused h mode = none)
    (hm : mode = .new) : (s.entry h).state = .free := by
  subst hm
  simpa [State.claimRefused] using hc

theorem State.steady_beginUpload (s : State) (from_ : Sender) (f : UploadForm) :
    Steady reload s (s.beginUpload from_ f) := by
  unfold State.beginUpload
  simp only
  split
  · exact (s.touches_refuse _ _).steady
  split
  · exact (s.touches_refuse _ _).steady
  next hclaim =>
  split
  · exact (s.touches_refuse _ _).steady
  next k _ =>
  split
  · exact (s.touches_refuse _ _).steady
  · have hok := s.touches_ok from_ (bytes1 k.val ++ bytes1 (clustersOf f.width f.height) ++ bytesBool (boxClamped f))
    have hclaimed := State.steady_claim (reload := reload) (s.ok from_ _) f.handle k (modeOf f.mode)
      (fun hm => by rw [hok.entry]; exact State.entry_free_of_claim hclaim hm)
    exact (hok.steady.trans hclaimed).trans
      (((State.touches_sc _ _).mono.trans (State.touches_setSlot _ _ _).mono).trans (State.touches_ie _ _).mono :
        Touches [.sc, .ie] _ _).steady

theorem State.steady_deleteEntry (s : State) (h : Nat) (hp : (s.entry h).pins = 0) :
    Steady reload s (s.deleteEntry h (s.entry h)) := by
  have hfree {u : State} (generation : Nat) (hu : (u.entry h).pins = 0) :
      Steady reload u (u.setEntry h (freeEntry generation)) :=
    u.steady_setEntry h _ fun _ => ⟨hu.symm, fun _ => rfl⟩
  unfold State.deleteEntry
  extract_lets generation
  split
  · next k u _ =>
    have hcleaned : Steady reload s ((s.cleanUp k u).freeImage (s.entry h).image) :=
      (s.steady_cleanUp k u).trans (State.touches_freeImage _ _).steady
    refine (hcleaned.trans (hfree generation ?_)).trans (State.touches_uploadResult _ _ _ _ _).steady
    rw [(State.touches_freeImage _ _).entry]
    exact s.pins_cleanUp k u hp
  · have hfreed := s.touches_freeImage (s.entry h).image
    exact hfreed.steady.trans (hfree generation (by rw [hfreed.entry, hp]))

theorem State.steady_deletePortrait (s : State) (from_ : Sender) (h : Nat) :
    Steady reload s (s.deletePortrait from_ h) := by
  have hok := s.touches_ok from_ []
  have hdelete (hp : ¬ 0 < (s.entry h).pins) : Steady reload s ((s.ok from_ []).deleteEntry h (s.entry h)) := by
    have hsteady := State.steady_deleteEntry (reload := reload) (s.ok from_ []) h
      (by rw [hok.entry]; exact Nat.eq_zero_of_not_pos hp)
    rw [hok.entry] at hsteady
    exact hok.steady.trans hsteady
  unfold State.deletePortrait
  simp only
  split
  · exact (s.touches_refuse _ _).steady
  · split
    · exact (s.touches_refuse _ _).steady
    · exact (s.touches_refuse _ _).steady
    all_goals
      split
      · exact (s.touches_refuse _ _).steady
      · next hp => exact hdelete hp

/-! ### Channels (R150 to R160, R184) -/

/-- A channel order that answers and gives its channel a record with the same plans. -/
theorem State.steady_ok_putChannel (s : State) (from_ : Sender) (fields : Bytes) (k : Fin 4) (c : Channel)
    (h : c.plans = (s.channel k).plans) : Steady reload s ((s.ok from_ fields).putChannel k c) := by
  have hok := s.touches_ok from_ fields
  exact hok.steady.trans (State.steady_putChannel _ k c (by rw [State.channel_congr _ _ k hok.pch, h]))

theorem State.steady_configureChannel (s : State) (from_ : Sender) (k : Fin 4) (payload : Bytes) :
    Steady reload s (s.configureChannel from_ k payload) := by
  unfold State.configureChannel
  simp only
  split
  · exact (s.touches_refuse _ _).steady
  · split
    · exact (s.touches_refuse _ _).steady
    · exact s.steady_ok_putChannel _ _ k _ rfl

theorem State.steady_enableChannel (s : State) (from_ : Sender) (k : Fin 4) :
    Steady reload s (s.enableChannel from_ k) := by
  have hok := s.touches_ok from_ []
  unfold State.enableChannel
  split
  · exact hok.steady
  · exact s.steady_ok_putChannel _ _ k _ (by rw [← State.channel_congr _ _ k hok.pch]; rfl)

theorem State.steady_disableChannel (s : State) (from_ : Sender) (k : Fin 4) :
    Steady reload s (s.disableChannel from_ k) := by
  unfold State.disableChannel
  simp only
  split
  · exact (s.touches_ok _ _).steady
  · split
    · exact s.steady_ok_putChannel _ _ k _ rfl
    · exact (s.touches_refuse _ _).steady
  · exact (s.touches_refuse _ _).steady

theorem State.steady_queuePage (s : State) (from_ : Sender) (k : Fin 4) (classNo page copies : Nat) :
    Steady reload s (s.queuePage from_ k classNo page copies) := by
  unfold State.queuePage
  extract_lets c
  split_ifs
  · exact (s.touches_refuse _ _).steady
  · exact (s.touches_refuse _ _).steady
  · exact (s.touches_refuse _ _).steady
  · exact s.steady_ok_putChannel _ _ k _ (by simp [Channel.plans, Job.snap?, c])

theorem State.steady_cancelPage (s : State) (from_ : Sender) (k : Fin 4) (classNo page : Nat) :
    Steady reload s (s.cancelPage from_ k classNo page) := by
  unfold State.cancelPage
  extract_lets c named target
  have htarget (j : Job) (hj : target j = true) : j.snap? = none := by
    simp only [target, Bool.and_eq_true] at hj
    exact Job.snap?_of_queued hj.2
  split_ifs
  · exact (s.touches_refuse _ _).steady
  · exact s.steady_ok_putChannel _ _ k _ (filterMap_snap?_removeLast htarget _)
  · exact (s.touches_refuse _ _).steady
  · exact (s.touches_refuse _ _).steady

/-- A release leaves every plan with its job: a PLANNED one becomes RENDERING with its snapshot (R157). -/
theorem State.steady_takeRelease (s : State) (k : Fin 4) : Steady reload s (s.takeRelease k) := by
  unfold State.takeRelease
  extract_lets c
  split
  · split
    · split
      · next p hp =>
        obtain ⟨j, rest, hjobs, hstage⟩ := Channel.plannedPlan?_eq_some hp
        refine s.steady_putChannel k _ ?_
        simp only [Channel.plans]
        rw [show (s.channel k).jobs = j :: rest from hjobs]
        simp [hstage, replaceFirst, Job.snap?, Plan.flagDamage]
      · exact Steady.refl s
    · split
      · exact s.steady_putChannel k _ rfl
      · exact Steady.refl s
    · exact Steady.refl s
  · exact Steady.refl s

theorem State.steady_trigger (s : State) (k : Fin 4) : Steady reload s (s.trigger k) :=
  (s.steady_putChannel k _ (by rfl)).trans (State.steady_takeRelease _ k)

theorem State.steady_takeTrigger (s : State) (from_ : Sender) (k : Fin 4) (applies : Bool) :
    Steady reload s (s.takeTrigger from_ k applies) := by
  unfold State.takeTrigger
  simp only
  split
  · exact (s.touches_ok _ _).steady.trans (State.steady_trigger _ k)
  · exact (s.touches_refuse _ _).steady

theorem State.steady_grantBands (s : State) (from_ : Sender) (k : Fin 4) (n : Nat) :
    Steady reload s (s.grantBands from_ k n) := by
  unfold State.grantBands
  simp only
  split
  · exact (s.touches_refuse _ _).steady
  · split
    · exact (s.touches_refuse _ _).steady
    · exact s.steady_ok_putChannel _ _ k _ rfl

theorem State.steady_recordPageDone (s : State) (k : Fin 4) (d : PageDone) :
    Steady reload s (s.recordPageDone k d) := by
  have hnotice := s.touches_notice (.p k) .pageDone (bytesPageDone d)
  exact hnotice.steady.trans (State.steady_putChannel _ k _ (by rw [State.channel_congr _ _ k hnotice.pch]; rfl))

theorem State.steady_chain (s : State) (k : Fin 4) : Steady reload s (s.chain_ k) := by
  unfold State.chain_
  refine Steady.foldl (fun s j => ?_) _ _
  simp only
  split
  · split
    · exact s.steady_putChannel j _ rfl
    · exact (s.steady_putChannel j _ (by rfl)).trans (State.steady_takeRelease _ j)
  · exact Steady.refl s

theorem State.steady_abortRendering (s : State) (k : Fin 4) : Steady reload s (s.abortRendering k) := by
  unfold State.abortRendering
  split
  · exact s.steady_recordPageDone _ _
  · exact Steady.refl s

theorem State.steady_grantEngine (s : State) (k : Fin 4) : Steady reload s (s.grantEngine k) := by
  unfold State.grantEngine
  extract_lets c
  split
  · next p r _ _ =>
    have hserved : Steady reload s { s with ce := some (s.newBand k p r), pch := { s.pch with lastServed := k } } :=
      ⟨State.plansInFlight_congr fun _ => rfl, fun _ => KeepsLedger.of_same rfl rfl rfl⟩
    exact (hserved.trans (State.steady_putChannel _ k _ (by rfl))).trans (State.touches_notice _ _ _ _).steady
  · exact Steady.refl s

/-- The first job in PLANNING keeps its snapshot when its plan is finished. -/
theorem filterMap_snap?_replaceFirst_planning {jobs : List Job} {p : Snapshot} {new : Job}
    (hp : jobs.findSome? Job.planningSnap? = some p) (hnew : new.snap? = some p) :
    (replaceFirst (fun j => (Job.planningSnap? j).isSome) new jobs).filterMap Job.snap? = jobs.filterMap Job.snap? := by
  induction jobs with
  | nil => simp at hp
  | cons j rest ih =>
    unfold replaceFirst
    cases hj : Job.planningSnap? j with
    | none =>
      rw [List.findSome?_cons, hj] at hp
      simp [List.filterMap_cons, ih hp]
    | some q =>
      rw [List.findSome?_cons, hj] at hp
      have hsnap : j.snap? = some p := by
        unfold Job.planningSnap? at hj
        unfold Job.snap?
        split at hj <;> simp_all
      simp [hnew, hsnap]

theorem State.steady_completePlanning (s : State) (k : Fin 4) : Steady reload s (s.completePlanning k) := by
  unfold State.completePlanning
  extract_lets c _ s'
  have hfree : Steady reload s s' := (s.touches_pln _).steady
  split
  · exact hfree
  · next p hp =>
    refine (hfree.trans (State.steady_putChannel s' k _ ?_)).trans (State.steady_takeRelease _ k)
    exact filterMap_snap?_replaceFirst_planning hp rfl

/-! ### Faults and the scrubber (R176 to R186) -/

theorem flagRendering_snap? (test : Nat → Bool) (j : Job) : (flagRendering test j).snap? = j.snap? := by
  unfold flagRendering
  split
  · next hs => simp [Job.snap?, hs, Plan.flagDamage]
  · rfl

theorem State.steady_flagPages (s : State) (h : Nat) : Steady reload s (s.flagPages h) :=
  Steady.foldl (fun s k => s.steady_setChannel k _ (by
    simp only [Channel.plans, List.filterMap_map, Function.comp_def, flagRendering_snap?])) _ _

theorem State.steady_coverReservations (s : State) (fuel : Nat) : Steady reload s (s.coverReservations fuel) := by
  induction fuel generalizing s with
  | zero => exact Steady.refl s
  | succ n ih =>
    unfold State.coverReservations
    split
    · split
      · exact (s.steady_failUpload _ _ _).trans (ih _)
      · exact Steady.refl s
    · exact Steady.refl s

theorem State.steady_currentFault (s : State) (h c : Nat) : Steady reload s (s.currentFault h c) := by
  unfold State.currentFault
  split
  · exact Steady.refl s
  · extract_lets marked e damaged flagged payload
    have hmarked : Steady reload s marked := (s.touches_markCluster c).steady
    have hdamaged : Steady reload marked damaged := by
      simp only [damaged]
      split
      · exact marked.steady_setEntry_held h _ rfl (by simp)
      · exact Steady.refl marked
    exact ((hmarked.trans hdamaged).trans (State.steady_flagPages _ h)).trans
      ((State.touches_notice _ _ _ _).trans (State.touches_notice _ _ _ _)).steady

theorem State.steady_pendingFault (s : State) (h c : Nat) : Steady reload s (s.pendingFault h c) := by
  unfold State.pendingFault
  extract_lets marked e
  have hmarked : Steady reload s marked := (s.touches_markCluster c).steady
  split
  · exact hmarked
  · exact (hmarked.trans (marked.steady_setEntry_held h _ (by rfl) (by exact id))).trans
      ((State.touches_freeChain _ _).trans (State.touches_notice _ _ _ _).mono).steady

theorem State.steady_uploadFault (s : State) (h c : Nat) : Steady reload s (s.uploadFault h c) := by
  unfold State.uploadFault
  extract_lets marked
  have hmarked : Steady reload s marked := (s.touches_markCluster c).steady
  split
  · exact hmarked.trans (State.steady_failUpload _ _ _ _)
  · exact hmarked

theorem State.steady_takeFault (s : State) (kind : FaultKind) (c offset : Nat) (syndrome : BitVec 8)
    (channel : Option (Fin 4)) : Steady reload s (s.takeFault kind c offset syndrome channel) := by
  unfold State.takeFault
  simp only
  refine Steady.trans ?_ (State.touches_offerLog _ _).steady
  split
  · exact s.steady_currentFault _ _
  · exact s.steady_pendingFault _ _
  · exact s.steady_uploadFault _ _
  · split
    · exact (s.touches_retireFree c).steady.trans (State.steady_coverReservations _ _)
    · exact Steady.refl s

theorem State.steady_scrubWord (s : State) (w : Nat) : Steady reload s (s.scrubWord w) := by
  unfold State.scrubWord
  split
  · exact Steady.refl s
  · exact (s.touches_sel _).steady.trans (State.touches_sc _ _).steady
  · exact s.steady_takeFault _ _ _ _ _

theorem State.steady_visit (s : State) (c : Nat) : Steady reload s (s.visit c) :=
  Steady.foldl (fun s w => s.steady_scrubWord w) _ _

theorem State.steady_scrub (s : State) : Steady reload s s.scrub := by
  unfold State.scrub
  split
  · exact (s.touches_sel _).steady.trans (State.steady_visit _ _)
  · simp only
    split
    · exact ((s.touches_sel _).trans (State.touches_sel _ _)).steady.trans (State.steady_visit _ _)
    · exact (s.touches_sel _).steady

/-! ### Rows (R123, R124) -/

theorem State.steady_renderRead (s : State) (k : Fin 4) (w : Nat) : Steady reload s (s.renderRead k w).1 := by
  unfold State.renderRead
  simp only
  split
  · exact Steady.refl s
  · exact ((s.touches_sel _).trans (State.touches_offerRescrub _ _)).steady
  · exact s.steady_takeFault _ _ _ _ _

theorem State.steady_readForCell (s : State) (cell w : Nat) : Steady reload s (s.readForCell cell w) := by
  unfold State.readForCell
  split
  · exact Steady.refl s
  · split
    · exact Steady.refl s
    · exact (s.steady_renderRead _ _).trans (State.touches_ce _ _).steady

theorem State.steady_produceRow (s : State) (b : Band) : Steady reload s (s.produceRow b) := by
  unfold State.produceRow
  simp only
  have hreads : Steady reload s ((rowReads s.sc.map b b.nextRow).foldl (fun s cw => s.readForCell cw.1 cw.2) s) :=
    Steady.foldl (fun s (cw : Nat × Nat) => s.steady_readForCell cw.1 cw.2) _ s
  split
  · exact hreads
  · exact (hreads.trans (State.touches_ce _ _).steady).trans
      (Touches.foldl (fun s payload => s.touches_notice _ _ payload) _ _).steady

/-! ### Idle time (log 2, log 3) -/

theorem State.steady_tick (s : State) : Steady reload s s.tick := by
  have hupsets : Touches [.sc] s.tickTimers ((Config.upsets s.clock).foldl State.upset s.tickTimers) :=
    Touches.foldl (fun s u => s.touches_upset u) _ _
  have htimers : Steady reload s s.tickTimers :=
    ⟨State.plansInFlight_congr fun k => by simp [State.tickTimers, State.channel, Channel.plans],
      fun _ => KeepsLedger.of_same rfl rfl rfl⟩
  exact (htimers.trans hupsets.steady).trans (Steady.of_same rfl rfl rfl rfl)

end Sys2Proof.Machine
end

section
/-! PROOFS. What raises and lowers the counts: the start step of a page, and every end of one (R18, R60, R133). -/

set_option Elab.async false

namespace Sys2Proof.Machine

variable {reload : Prop} {s t u : State}

/-! ### Single counts -/

section Counts

variable {held classes : List Nat} {pages : Nat}

theorem State.keepsLedger_pin (s : State) (h : Nat) (hready : (s.entry h).state = .ready) :
    KeepsLedger reload ⟨held, classes, pages⟩ ⟨h :: held, classes, pages⟩ s (s.pin h) := by
  refine KeepsLedger.of_pins rfl rfl fun hpins n => ?_
  obtain ⟨hcount, hnone⟩ := hpins n
  rw [State.pin, State.entry_setEntry]
  split
  · next hn =>
    subst hn
    exact ⟨by simp [hcount], by simp [hready]⟩
  · next hn => exact ⟨by rw [List.count_cons_of_ne (Ne.symm hn), hcount], hnone⟩

theorem State.keepsLedger_pins (s : State) (l : List Nat) (hready : ∀ h ∈ l, (s.entry h).state = .ready) :
    KeepsLedger reload ⟨held, classes, pages⟩ ⟨l ++ held, classes, pages⟩ s (l.foldl State.pin s) := by
  induction l generalizing s held with
  | nil => exact KeepsLedger.of_same rfl rfl rfl
  | cons h rest ih =>
    have hrest : ∀ n ∈ rest, ((s.pin h).entry n).state = .ready := fun n hn => by
      rw [State.pin, State.entry_setEntry]
      split
      · exact hready h List.mem_cons_self
      · exact hready n (List.mem_cons_of_mem _ hn)
    exact ((s.keepsLedger_pin h (hready h List.mem_cons_self)).trans (ih (s.pin h) hrest)).trans
      (KeepsLedger.reorder List.perm_middle (.refl _) rfl)

/-- An entry loses a pin. -/
theorem State.keepsLedger_setPins_pred (s : State) (h : Nat) :
    KeepsLedger reload ⟨h :: held, classes, pages⟩ ⟨held, classes, pages⟩ s
      (s.setEntry h { s.entry h with pins := (s.entry h).pins - 1 }) := by
  refine KeepsLedger.of_pins rfl rfl fun hpins n => ?_
  obtain ⟨hcount, hnone⟩ := hpins n
  rw [State.entry_setEntry]
  split
  · next hn =>
    subst hn
    exact ⟨by simp [hcount], fun hs => by simp [hnone hs]⟩
  · next hn => exact ⟨by rw [hcount, List.count_cons_of_ne (Ne.symm hn)], hnone⟩

theorem State.keepsLedger_unpin (s : State) (h : Nat) :
    KeepsLedger reload ⟨h :: held, classes, pages⟩ ⟨held, classes, pages⟩ s (s.unpin h) := by
  unfold State.unpin
  simp only
  split
  · exact (s.keepsLedger_setPins_pred h).trans ((State.steady_swap _ h).ledger _)
  · exact s.keepsLedger_setPins_pred h

/-- A list of pins released one by one. -/
theorem KeepsLedger.foldl_pins {f : State → Nat → State}
    (hf : ∀ s h held, KeepsLedger reload ⟨h :: held, classes, pages⟩ ⟨held, classes, pages⟩ s (f s h)) (l : List Nat)
    (s : State) : KeepsLedger reload ⟨l ++ held, classes, pages⟩ ⟨held, classes, pages⟩ s (l.foldl f s) := by
  induction l generalizing s with
  | nil => exact KeepsLedger.of_same rfl rfl rfl
  | cons h rest ih => exact (hf s h _).trans (ih _)

theorem State.keepsLedger_raiseInFlight (s : State) (c : Nat) (hb : (s.classAt c).bound ≠ none) :
    KeepsLedger reload ⟨held, classes, pages⟩ ⟨held, c :: classes, pages⟩ s (s.raiseInFlight c) := by
  refine KeepsLedger.of_classes rfl rfl fun hclasses n => ?_
  obtain ⟨hempty, hcount⟩ := hclasses n
  rw [State.raiseInFlight, State.classAt_setClass]
  split
  · next hn =>
    subst hn
    refine ⟨fun hs => ?_, by simp [hcount]⟩
    rw [hempty hs] at hb
    exact absurd rfl hb
  · next hn => exact ⟨hempty, by rw [List.count_cons_of_ne (Ne.symm hn), hcount]⟩

/-- A class has one page less in flight. -/
theorem State.keepsLedger_lowerInFlightQuietly (s : State) (c : Nat) :
    KeepsLedger reload ⟨held, c :: classes, pages⟩ ⟨held, classes, pages⟩ s (s.lowerInFlightQuietly c) := by
  refine KeepsLedger.of_classes rfl rfl fun hclasses n => ?_
  obtain ⟨hempty, hcount⟩ := hclasses n
  rw [State.lowerInFlightQuietly, State.classAt_setClass]
  split
  · next hn =>
    subst hn
    exact ⟨fun hs => by rw [hempty hs]; rfl, by simp [hcount]⟩
  · next hn => exact ⟨hempty, by rw [hcount, List.count_cons_of_ne (Ne.symm hn)]⟩

theorem State.keepsLedger_lowerInFlight (s : State) (c : Nat) :
    KeepsLedger reload ⟨held, c :: classes, pages⟩ ⟨held, classes, pages⟩ s (s.lowerInFlight c) := by
  unfold State.lowerInFlight
  simp only
  split
  · exact (s.keepsLedger_lowerInFlightQuietly c).trans ((State.steady_evalSwitch _ c).ledger _)
  · exact s.keepsLedger_lowerInFlightQuietly c

theorem State.keepsLedger_raisePages (s : State) (hw : s.gs.window = .closed) :
    KeepsLedger reload ⟨held, classes, pages⟩ ⟨held, classes, pages + 1⟩ s s.raisePages :=
  KeepsLedger.of_glyphStore rfl rfl (fun h => by simp [State.raisePages, h])
    (fun _ => by simp [State.windowSound, State.raisePages, hw]) (fun _ => rfl)

/-- The Glyph Store after a page has left flight: an OPENING window opens with the last page (R133, R135). -/
theorem State.lowerPages_gs (s : State) :
    s.lowerPages.gs = { s.gs with
      inFlight := s.gs.inFlight - 1
      window := if s.gs.inFlight - 1 = 0 ∧ s.gs.window = .opening then .opened else s.gs.window } := by
  unfold State.lowerPages
  simp only
  split
  · simp [State.setWindow]
  · rfl

/-- The window takes a state that is sound with the pages in flight. -/
theorem State.steady_setWindow (s : State) (w : WindowState) (hw : s.windowSound → (s.setWindow w).windowSound) :
    Steady reload s (s.setWindow w) :=
  ⟨State.plansInFlight_of_pch rfl, fun _ => KeepsLedger.of_glyphStore rfl rfl id hw (fun _ => rfl)⟩

theorem State.keepsLedger_lowerPages (s : State) :
    KeepsLedger reload ⟨held, classes, pages + 1⟩ ⟨held, classes, pages⟩ s s.lowerPages := by
  have htouched := s.touches_lowerPages
  refine KeepsLedger.of_glyphStore htouched.pdir htouched.ru (fun h => by simp [State.lowerPages_gs, h]) ?_
    (fun _ => by rw [State.lowerPages_gs])
  rintro ⟨hopened, hopening⟩
  simp only [State.windowSound, State.lowerPages_gs]
  split
  · next h => exact ⟨fun _ => h.1, nofun⟩
  · next h =>
    refine ⟨fun hw => by rw [hopened hw], fun hw => ?_⟩
    have : s.gs.inFlight - 1 ≠ 0 := fun hn => h ⟨hn, hw⟩
    omega

end Counts

/-! ### The return of plans (R18, R61, R133) -/

theorem ledgerOf_cons (p : Snapshot) (rest : List Snapshot) :
    ledgerOf (p :: rest) = ⟨p.handles ++ (ledgerOf rest).pins, p.classNo :: (ledgerOf rest).classes,
      (ledgerOf rest).pages + 1⟩ := rfl

/-- A way to give back what a plan holds: it takes the plan off the ledger and leaves the channels alone. -/
structure GivesBack (giveBack : State → Snapshot → State) : Prop where
  ledger : ∀ reload s p rest, KeepsLedger reload (ledgerOf (p :: rest)) (ledgerOf rest) s (giveBack s p)
  pch : ∀ s p, (giveBack s p).pch = s.pch

theorem givesBack_returnPlan : GivesBack State.returnPlan where
  ledger reload s p rest := by
    rw [ledgerOf_cons]
    exact ((KeepsLedger.foldl_pins (fun s h _ => s.keepsLedger_unpin h) p.handles s).trans
      (State.keepsLedger_lowerInFlight _ p.classNo)).trans (State.keepsLedger_lowerPages _)
  pch s p := (s.touches_returnPlan p).pch

theorem givesBack_returnPlanQuietly : GivesBack State.returnPlanQuietly where
  ledger reload s p rest := by
    rw [ledgerOf_cons]
    exact ((KeepsLedger.foldl_pins (fun s h _ => s.keepsLedger_setPins_pred h) p.handles s).trans
      (State.keepsLedger_lowerInFlightQuietly _ p.classNo)).trans (State.keepsLedger_lowerPages _)
  pch s p := (s.touches_returnPlanQuietly p).pch

theorem GivesBack.foldl {giveBack : State → Snapshot → State} (hg : GivesBack giveBack) (plans rest : List Snapshot)
    (s : State) :
    KeepsLedger reload (ledgerOf (plans ++ rest)) (ledgerOf rest) s (plans.foldl giveBack s)
      ∧ (plans.foldl giveBack s).pch = s.pch := by
  induction plans generalizing s with
  | nil => exact ⟨KeepsLedger.of_same rfl rfl rfl, rfl⟩
  | cons p more ih =>
    obtain ⟨hledger, hpch⟩ := ih (giveBack s p)
    exact ⟨(hg.ledger _ _ _ _).trans hledger, hpch.trans (hg.pch _ _)⟩

/-! ### What a command keeps -/

/-- A command keeps the counts those of the plans in flight, and a plan that enters flight pins no handle twice. -/
structure KeepsFlight (reload : Prop) (s t : State) : Prop where
  ledger : KeepsLedger reload (ledgerOf s.plansInFlight) (ledgerOf t.plansInFlight) s t
  nodup : ∀ p ∈ t.plansInFlight, p ∈ s.plansInFlight ∨ p.handles.Nodup

theorem Steady.keepsFlight (h : Steady reload s t) : KeepsFlight reload s t :=
  ⟨h.plans ▸ h.ledger _, fun _ hp => .inl (h.plans ▸ hp)⟩

theorem KeepsFlight.refl (s : State) : KeepsFlight reload s s := (Steady.refl s).keepsFlight

theorem KeepsFlight.trans (h1 : KeepsFlight reload s t) (h2 : KeepsFlight reload t u) : KeepsFlight reload s u :=
  ⟨h1.ledger.trans h2.ledger, fun p hp => (h2.nodup p hp).elim (h1.nodup p) .inr⟩

/-- Plans are given back and leave their channel: the order of the two does not matter to the ledger. -/
theorem KeepsFlight.of_given {more : List Snapshot} (hplans : s.plansInFlight.Perm (more ++ t.plansInFlight))
    (hledger : KeepsLedger reload (ledgerOf (more ++ t.plansInFlight)) (ledgerOf t.plansInFlight) s t) :
    KeepsFlight reload s t :=
  ⟨(KeepsLedger.of_perm hplans).trans hledger,
    fun _ hp => .inl (hplans.mem_iff.mpr (List.mem_append_right _ hp))⟩

/-! ### Ends of pages (R164 to R168) -/

theorem State.jobs_recordPageDone (s : State) (k : Fin 4) (d : PageDone) (j : Fin 4) :
    ((s.recordPageDone k d).channel j).jobs = (s.channel j).jobs := by
  rw [State.recordPageDone, State.channel_putChannel]
  split
  · next hj => rw [hj]
  · simp

/-- The first job of a list leaves it with its plan. -/
theorem State.plansInFlight_dropFirstJob (s : State) (k : Fin 4) {j : Job} {rest : List Job} {p : Snapshot}
    (hjobs : (s.channel k).jobs = j :: rest) (hj : j.snap? = some p) :
    s.plansInFlight.Perm (p :: (s.dropFirstJob k).plansInFlight) := by
  refine State.plansInFlight_perm (k := k) (more := [p]) ?_ (fun i hi => ?_)
  · simp [State.dropFirstJob, State.channel_putChannel, Channel.plans, hjobs, hj]
  · simp [State.dropFirstJob, State.channel_putChannel, hi]

/-- The end of the first job's page: its plan is given back and the job leaves the list. -/
theorem State.keepsFlight_endPage (s : State) (k : Fin 4) (p : Plan) (d : PageDone) {j : Job} {rest : List Job}
    (hjobs : (s.channel k).jobs = j :: rest) (hj : j.snap? = some p.snap) :
    KeepsFlight reload s (s.endPage k p d) := by
  unfold State.endPage
  extract_lets dropped chained
  have hchained : Steady reload dropped chained := by
    simp only [chained]
    split
    · exact dropped.steady_chain k
    · exact Steady.refl dropped
  refine KeepsFlight.trans ?_ (hchained.trans (chained.steady_takeRelease k)).keepsFlight
  refine (s.steady_recordPageDone k d).keepsFlight.trans ?_
  have hended : ((s.recordPageDone k d).returnPlan p.snap).pch = (s.recordPageDone k d).pch :=
    givesBack_returnPlan.pch _ _
  have hplans := State.plansInFlight_dropFirstJob ((s.recordPageDone k d).returnPlan p.snap) k (j := j) (rest := rest)
    (by rw [State.channel_congr _ _ k hended, State.jobs_recordPageDone, hjobs]) hj
  rw [State.plansInFlight_of_pch hended] at hplans
  refine KeepsFlight.of_given (more := [p.snap]) hplans ((givesBack_returnPlan.ledger _ _ _ _).trans ?_)
  exact KeepsLedger.of_same rfl rfl rfl

theorem State.keepsFlight_endRendering (s : State) (k : Fin 4) (result : PageResult) :
    KeepsFlight reload s (s.endRendering k result) := by
  unfold State.endRendering
  split
  · next p r hp _ =>
    obtain ⟨j, rest, hjobs, hstage⟩ := Channel.renderingPlan?_eq_some hp
    exact s.keepsFlight_endPage k p _ hjobs (by simp [Job.snap?, hstage])
  · exact KeepsFlight.refl s

theorem State.keepsFlight_stall (s : State) (k : Fin 4) : KeepsFlight reload s (s.stall k) := by
  unfold State.stall
  simp only
  split
  · split
    · next p hp =>
      obtain ⟨j, rest, hjobs, hstage⟩ := Channel.plannedPlan?_eq_some hp
      exact s.keepsFlight_endPage k p _ hjobs (by simp [Job.snap?, hstage])
    · exact KeepsFlight.refl s
  · exact s.keepsFlight_endRendering _ _

theorem State.keepsFlight_abortPage (s : State) (from_ : Sender) (k : Fin 4) :
    KeepsFlight reload s (s.abortPage from_ k) := by
  unfold State.abortPage
  extract_lets c answered
  have hanswered : Touches [] s answered := s.touches_ok from_ []
  have hput (c' : Channel) (h : c'.plans = c.plans) : Steady reload answered (answered.putChannel k c') :=
    answered.steady_putChannel k c' (by rw [h, State.channel_congr _ _ k hanswered.pch])
  refine hanswered.steady.keepsFlight.trans ?_
  split
  · split
    · exact (hput _ (by rfl)).keepsFlight
    · exact answered.keepsFlight_endRendering k _
  · exact (hput _ (by rfl)).keepsFlight

theorem State.keepsFlight_afterBand (s : State) (k : Fin 4) : KeepsFlight reload s (s.afterBand k) := by
  unfold State.afterBand
  extract_lets c
  split
  · extract_lets sent
    have hsent : Steady reload s sent := s.steady_putChannel k _ rfl
    refine hsent.keepsFlight.trans ?_
    split
    · exact State.keepsFlight_endRendering _ _ _
    · split
      · split
        · exact State.keepsFlight_endRendering _ _ _
        · exact ((sent.steady_putChannel k _ (by rfl)).trans (State.steady_takeRelease _ k)).keepsFlight
      · split
        · exact (sent.steady_takeRelease k).keepsFlight
        · exact KeepsFlight.refl sent
  · exact KeepsFlight.refl s

theorem State.keepsFlight_endBandIfSent (s : State) : KeepsFlight reload s s.endBandIfSent := by
  unfold State.endBandIfSent
  split
  · split
    · exact (s.touches_ce _).steady.keepsFlight.trans (State.keepsFlight_afterBand _ _)
    · exact KeepsFlight.refl s
  · exact KeepsFlight.refl s

/-- A row handed on, and the end of its band with it. -/
theorem State.keepsFlight_row (s : State) (b : Band) :
    KeepsFlight reload s (if 0 < b.rowsLeft then s.produceRow b else s).endBandIfSent := by
  refine KeepsFlight.trans ?_ (State.keepsFlight_endBandIfSent _)
  split
  · exact (s.steady_produceRow b).keepsFlight
  · exact KeepsFlight.refl s

/-- A channel that is cleared has no plan, and the others keep theirs. -/
theorem State.plans_clearChannel (s : State) (k : Fin 4) (cause : CancelCause) (j : Fin 4) :
    ((s.clearChannel k cause).channel j).plans = if j = k then [] else (s.channel j).plans := by
  unfold State.clearChannel
  extract_lets others cancelled
  rw [State.channel_congr _ _ j (State.touches_freePlanner _ k).pch, State.channel_putChannel]
  split
  · rfl
  · have hcut : (s.cutBand k).channel j = s.channel j := State.channel_congr _ _ j (s.touches_cutBand k).pch
    have hcancelled : cancelled.channel j = ((s.cutBand k).abortRendering k).channel j :=
      State.channel_congr _ _ j (State.touches_cancelNotices _ k others cause).pch
    rw [hcancelled, Channel.plans, Channel.plans, ← hcut, State.abortRendering]
    split
    · rw [State.jobs_recordPageDone]
    · rfl

/-- A Channel Reset gives back every plan of its channel (R168). -/
theorem State.keepsFlight_resetChannel (s : State) (k : Fin 4) (cause : CancelCause)
    {giveBack : State → Snapshot → State} (hg : GivesBack giveBack) :
    KeepsFlight reload s (s.resetChannel k cause giveBack)
      ∧ ∀ j, ((s.resetChannel k cause giveBack).channel j).plans = if j = k then [] else (s.channel j).plans := by
  have hcleared := s.touches_clearChannel k cause
  have hplans : s.plansInFlight.Perm ((s.channel k).plans ++ (s.clearChannel k cause).plansInFlight) := by
    refine State.plansInFlight_perm (k := k) ?_ (fun j hj => ?_)
    · rw [State.plans_clearChannel, if_pos rfl, List.append_nil]
    · rw [State.plans_clearChannel, if_neg hj]
  obtain ⟨hledger, hpch⟩ := hg.foldl (reload := reload) (s.channel k).plans (s.clearChannel k cause).plansInFlight
    (s.clearChannel k cause)
  have hsame : (s.resetChannel k cause giveBack).plansInFlight = (s.clearChannel k cause).plansInFlight :=
    State.plansInFlight_of_pch hpch
  refine ⟨KeepsFlight.of_given (by rwa [hsame]) ?_, fun j => ?_⟩
  · rw [hsame]
    exact (KeepsLedger.of_same hcleared.pdir hcleared.ru hcleared.gs).trans hledger
  · rw [← s.plans_clearChannel k cause j, State.resetChannel]
    exact congrArg Channel.plans (State.channel_congr _ _ j hpch)

theorem State.keepsFlight_linkDown (s : State) (p : Port) : KeepsFlight reload s (s.linkDown p) := by
  unfold State.linkDown
  extract_lets _ down
  have hdown : KeepsFlight reload s down := (s.steady_setPort p _).keepsFlight
  refine hdown.trans ?_
  split
  · exact (down.steady_setWindow .closed fun _ => by simp [State.windowSound, State.setWindow]).keepsFlight
  · exact down.steady_abandonUploads.keepsFlight
  · exact (down.keepsFlight_resetChannel _ _ givesBack_returnPlan).1

end Sys2Proof.Machine
end

section
/-! PROOFS. The start step on the ledger: the handles of a snapshot, and its job's way into the list (R89 to R97). -/

set_option Elab.async false

namespace Sys2Proof.Machine

variable {reload : Prop} {s t u : State}

/-! ### The pinned list (R97) -/

theorem mem_distinct {seen l : List Nat} {n : Nat} : n ∈ distinct seen l ↔ n ∈ l ∧ n ∉ seen := by
  induction l generalizing seen with
  | nil => simp [distinct]
  | cons m rest ih =>
    unfold distinct
    rw [List.mem_cons]
    by_cases hnm : n = m
    · subst hnm
      split
      · next hm => simp [ih, hm]
      · next hm => simp [hm]
    · split
      · simp [ih, hnm]
      · simp [ih, hnm]

theorem nodup_distinct (seen l : List Nat) : (distinct seen l).Nodup := by
  induction l generalizing seen with
  | nil => exact List.nodup_nil
  | cons m rest ih =>
    unfold distinct
    split
    · exact ih seen
    · exact List.nodup_cons.mpr ⟨fun h => (mem_distinct.mp h).2 List.mem_cons_self, ih _⟩

theorem State.handle_pinnedImage (s : State) (h : Nat) : (s.pinnedImage h).handle = h := by
  unfold State.pinnedImage
  split <;> rfl

/-- The handles of a snapshot are those its cells pin. -/
theorem State.handles_snapshot (s : State) (k : Fin 4) (j : Job) (n : Nat) (f : LayoutFields) :
    (s.snapshot k j n f).handles = pinnedHandles (s.snapshot k j n f).cells := by
  simp only [Snapshot.handles, State.snapshot, List.map_map, Function.comp_def, State.handle_pinnedImage, List.map_id']

theorem State.nodup_handles_snapshot (s : State) (k : Fin 4) (j : Job) (n : Nat) (f : LayoutFields) :
    (s.snapshot k j n f).handles.Nodup := by
  rw [State.handles_snapshot]
  exact nodup_distinct _ _

theorem mem_pinnedHandles {cells : List SliceCell} {h : Nat} (hm : h ∈ pinnedHandles cells) :
    ∃ c ∈ cells, c.source = some h := by
  obtain ⟨hm, -⟩ := mem_distinct.mp hm
  rcases List.mem_append.mp hm with hm | hm
  all_goals
    obtain ⟨c, hc, hsource⟩ := List.mem_filterMap.mp hm
    exact ⟨c, (List.mem_filter.mp hc).1, hsource⟩

/-- The placeholder a cell may draw is live (R95). -/
theorem State.ready_of_livePlaceholder {f : LayoutFields} {h : Nat} (hp : s.livePlaceholder f = some h) :
    (s.entry h).state = .ready := by
  unfold State.livePlaceholder at hp
  split at hp
  · split at hp
    · next hlive =>
      obtain rfl := Option.some.inj hp
      exact ((s.live_iff _).mp hlive).2
    · cases hp
  · cases hp

/-- A cell draws its subject's own portrait when that is READY, and else the placeholder (R95). -/
theorem State.source_sliceCell (s : State) (placeholder : Option Nat) (position : Nat) (x : Subject) :
    (s.sliceCell placeholder position x).source = placeholder
      ∨ ∃ h, (s.sliceCell placeholder position x).source = some h ∧ (s.entry h).state = .ready := by
  unfold State.sliceCell
  simp only
  split
  · exact .inl rfl
  · split
    · exact .inl rfl
    · split
      · next hready => exact .inr ⟨_, rfl, hready⟩
      all_goals exact .inl rfl

/-- A snapshot pins entries that are READY (R95, R97). -/
theorem State.ready_of_mem_handles {k : Fin 4} {j : Job} {n : Nat} {f : LayoutFields} {h : Nat}
    (hm : h ∈ (s.snapshot k j n f).handles) : (s.entry h).state = .ready := by
  rw [State.handles_snapshot] at hm
  obtain ⟨c, hc, hsource⟩ := mem_pinnedHandles hm
  obtain ⟨⟨position, x⟩, -, rfl⟩ := List.mem_map.mp hc
  rcases s.source_sliceCell (s.livePlaceholder f) position x with hplace | ⟨m, hm, hready⟩
  · exact State.ready_of_livePlaceholder (hplace.symm.trans hsource)
  · obtain rfl := Option.some.inj (hm.symm.trans hsource)
    exact hready

/-! ### The candidate (R89) -/

theorem Channel.candidate_mem {c : Channel} {j : Job} (h : c.candidate = some j) : j ∈ c.jobs ∧ j.queued = true := by
  obtain ⟨hfirst, hqueued⟩ := Option.filter_eq_some_iff.mp h
  exact ⟨List.mem_of_find?_eq_some hfirst, hqueued⟩

/-- A QUEUED job that enters flight adds its plan to its channel's. -/
theorem filterMap_snap?_replaceFirst_queued {jobs : List Job} {j new : Job} {p : Snapshot} (hj : j ∈ jobs)
    (hq : j.queued = true) (hnew : new.snap? = some p) :
    ((replaceFirst Job.queued new jobs).filterMap Job.snap?).Perm (p :: jobs.filterMap Job.snap?) := by
  induction jobs with
  | nil => cases hj
  | cons i rest ih =>
    unfold replaceFirst
    by_cases hi : i.queued = true
    · rw [if_pos hi, List.filterMap_cons_some hnew, List.filterMap_cons_none (Job.snap?_of_queued hi)]
    · have hmem : j ∈ rest := (List.mem_cons.mp hj).resolve_left fun h => hi (h ▸ hq)
      rw [if_neg hi]
      cases hsnap : i.snap? with
      | none => rw [List.filterMap_cons_none hsnap, List.filterMap_cons_none hsnap]; exact ih hmem
      | some q =>
        rw [List.filterMap_cons_some hsnap, List.filterMap_cons_some hsnap]
        exact ((ih hmem).cons q).trans (List.Perm.swap p q _)

theorem State.window_of_eligible {k : Fin 4} (h : s.eligible k = true) : s.gs.window = .closed := by
  simp only [State.eligible, Bool.and_eq_true, decide_eq_true_eq] at h
  exact h.1.2

theorem State.eligible_of_planningTurn {k : Fin 4} (h : s.planningTurn = some k) : s.eligible k = true := by
  unfold State.planningTurn at h
  split at h
  · cases h
  · exact List.find?_some h

/-! ### The start step (R92, R96) -/

/-- The channel is the last served and its sequence number is used up (R90, R93). -/
def State.numbered (s : State) (k : Fin 4) : State :=
  { s with pln := { s.pln with lastServed := k } }.putChannel k
    { s.channel k with nextSeq := ((s.channel k).nextSeq + 1) % 65536 }

/-- What a plan takes at its start: its pins, and one in flight for its class and for the pages (R97, R18, R133). -/
def State.taken (s : State) (p : Snapshot) : State :=
  ((p.handles.foldl State.pin s).raiseInFlight p.classNo).raisePages

/-- The job enters PLANNING with its snapshot, and the planner is busy with the channel (R92). -/
def State.begun (s : State) (k : Fin 4) (j : Job) (p : Snapshot) : State :=
  let t := s.putChannel k { s.channel k with
    jobs := replaceFirst Job.queued { j with stage := .planning p } (s.channel k).jobs }
  { t with pln := { t.pln with planning := some k } }

/-- The start step of a candidate: the page begins, or it is beyond the last and ends EMPTY_PAGE (R92, R96). -/
theorem State.startStep_eq {k : Fin 4} {j : Job} {n : Nat} {f : LayoutFields}
    (hc : (s.channel k).candidate = some j) (hl : s.boundLayout j.classNo = some (n, f)) :
    s.startStep k =
      (let p := s.snapshot k j n f
       if p.pageCount ≤ p.page then (s.numbered k).endEmptyPage k p else ((s.numbered k).taken p).begun k j p) := by
  simp only [State.startStep, hc, hl]
  rfl

theorem State.touches_numbered (s : State) (k : Fin 4) : Touches [.pln, .pch] s (s.numbered k) :=
  (s.touches_pln _).mono.trans (State.touches_putChannel _ k _).mono

theorem State.channel_numbered (s : State) (k i : Fin 4) :
    (s.numbered k).channel i =
      if i = k then { s.channel k with
        nextSeq := ((s.channel k).nextSeq + 1) % 65536
        stallTimer := settleTimer (s.channel k) { s.channel k with nextSeq := ((s.channel k).nextSeq + 1) % 65536 } }
      else s.channel i := by
  rw [State.numbered, State.channel_putChannel]
  rfl

theorem State.plans_numbered (s : State) (k i : Fin 4) : ((s.numbered k).channel i).plans = (s.channel i).plans := by
  rw [State.channel_numbered]
  split
  · next hi => rw [hi]; rfl
  · rfl

theorem State.touches_taken (s : State) (p : Snapshot) : Touches [.pdir, .ru, .gs] s (s.taken p) :=
  ((Touches.foldl (fun s h => (s.touches_setEntry h _).mono) _ _).trans (State.touches_setClass _ _ _).mono).trans
    (State.touches_gs _ _).mono

theorem State.touches_begun (s : State) (k : Fin 4) (j : Job) (p : Snapshot) :
    Touches [.pln, .pch] s (s.begun k j p) :=
  (s.touches_putChannel k _).mono.trans (State.touches_pln _ _).mono

theorem State.keepsLedger_taken (s : State) (p : Snapshot) (rest : List Snapshot)
    (hready : ∀ h ∈ p.handles, (s.entry h).state = .ready) (hb : (s.classAt p.classNo).bound ≠ none)
    (hw : s.gs.window = .closed) : KeepsLedger reload (ledgerOf rest) (ledgerOf (p :: rest)) s (s.taken p) := by
  have hpins : Touches [.pdir] s (p.handles.foldl State.pin s) := Touches.foldl (fun s h => s.touches_setEntry h _) _ _
  have hwindow : ((p.handles.foldl State.pin s).raiseInFlight p.classNo).gs.window = .closed := by
    rw [State.raiseInFlight, State.setClass_gs, hpins.gs, hw]
  exact ((s.keepsLedger_pins p.handles hready).trans
    (State.keepsLedger_raiseInFlight _ p.classNo (by rwa [hpins.classAt]))).trans (State.keepsLedger_raisePages _ hwindow)

theorem State.channel_begun (s : State) (k : Fin 4) (j : Job) (p : Snapshot) (i : Fin 4) :
    (s.begun k j p).channel i =
      if i = k then
        (let c := { s.channel k with jobs := replaceFirst Job.queued { j with stage := .planning p } (s.channel k).jobs }
         { c with stallTimer := settleTimer (s.channel k) c })
      else s.channel i := s.channel_putChannel k i _

/-- The plan of the job that begins joins those in flight. -/
theorem State.plansInFlight_begun (s : State) (k : Fin 4) {j : Job} (p : Snapshot) (hj : j ∈ (s.channel k).jobs)
    (hq : j.queued = true) : (p :: s.plansInFlight).Perm (s.begun k j p).plansInFlight := by
  have hnew : ({ j with stage := .planning p } : Job).snap? = some p := rfl
  have hjobs := filterMap_snap?_replaceFirst_queued hj hq hnew
  refine (State.plansInFlight_perm (k := k) (more := [p]) ?_ fun i hi => ?_).symm
  · rw [State.channel_begun, if_pos rfl]
    exact hjobs
  · rw [State.channel_begun, if_neg hi]

/-- A page beyond the last enters flight and leaves it in one event. -/
theorem State.keepsFlight_endEmptyPage (s : State) (k : Fin 4) (p : Snapshot) (hw : s.gs.window = .closed)
    (hb : (s.classAt p.classNo).bound ≠ none) : KeepsFlight reload s (s.endEmptyPage k p) := by
  unfold State.endEmptyPage
  extract_lets d _ removed
  have hremoved : Steady reload s removed := by
    refine s.steady_putChannel k _ ?_
    exact filterMap_snap?_removeFirst (fun _ => Job.snap?_of_queued) _
  have hcounts : Steady reload removed
      (((removed.raiseInFlight p.classNo).raisePages.lowerInFlight p.classNo).lowerPages) := by
    have htouched : Touches [.lt, .ru, .gs] removed
        (((removed.raiseInFlight p.classNo).raisePages.lowerInFlight p.classNo).lowerPages) :=
      (((removed.touches_setClass p.classNo _).mono.trans (State.touches_gs _ _).mono).trans
        (State.touches_lowerInFlight _ _).mono).trans (State.touches_lowerPages _).mono
    exact ⟨State.plansInFlight_of_pch htouched.pch, fun b =>
      (((removed.keepsLedger_raiseInFlight p.classNo hb).trans (State.keepsLedger_raisePages _ hw)).trans
        (State.keepsLedger_lowerInFlight _ _)).trans (State.keepsLedger_lowerPages _)⟩
  exact ((hremoved.trans hcounts).trans (State.steady_recordPageDone _ k d)).keepsFlight

theorem State.keepsFlight_startStep (s : State) (k : Fin 4) (hw : s.gs.window = .closed) :
    KeepsFlight reload s (s.startStep k) := by
  cases hc : (s.channel k).candidate with
  | none => simp only [State.startStep, hc]; exact KeepsFlight.refl s
  | some j =>
  cases hl : s.boundLayout j.classNo with
  | none => simp only [State.startStep, hc, hl]; exact KeepsFlight.refl s
  | some nf =>
  obtain ⟨n, f⟩ := nf
  have hb : (s.classAt j.classNo).bound ≠ none := fun h => by simp [State.boundLayout, h] at hl
  obtain ⟨hmem, hqueued⟩ := Channel.candidate_mem hc
  have htouched := s.touches_numbered k
  have hnumbered : Steady reload s (s.numbered k) :=
    ⟨State.plansInFlight_congr (s.plans_numbered k), fun _ => KeepsLedger.of_same htouched.pdir htouched.ru htouched.gs⟩
  rw [State.startStep_eq hc hl]
  extract_lets p
  refine hnumbered.keepsFlight.trans ?_
  split
  · exact State.keepsFlight_endEmptyPage _ k p (by rw [htouched.gs, hw]) (by rwa [htouched.classAt])
  · have hledger : KeepsLedger reload (ledgerOf (s.numbered k).plansInFlight)
        (ledgerOf (p :: (s.numbered k).plansInFlight)) (s.numbered k) ((s.numbered k).taken p) :=
      State.keepsLedger_taken _ p _ (fun h hm => by rw [htouched.entry]; exact State.ready_of_mem_handles hm)
        (by rwa [htouched.classAt]) (by rw [htouched.gs, hw])
    have htaken := (s.numbered k).touches_taken p
    have hbegun := ((s.numbered k).taken p).touches_begun k j p
    have hplans := ((s.numbered k).taken p).plansInFlight_begun k p (j := j)
      (by rw [State.channel_congr _ _ k htaken.pch, State.channel_numbered, if_pos rfl]; exact hmem) hqueued
    rw [State.plansInFlight_of_pch htaken.pch] at hplans
    refine ⟨(hledger.trans (KeepsLedger.of_perm hplans)).trans
      (KeepsLedger.of_same hbegun.pdir hbegun.ru hbegun.gs), fun q hq => ?_⟩
    rcases List.mem_cons.mp (hplans.mem_iff.mpr hq) with rfl | hq
    · exact .inr (s.nodup_handles_snapshot k j n f)
    · exact .inl hq

end Sys2Proof.Machine
end

section
/-! PROOFS. Every command keeps in-flight counts, pin counts and the glyph window those of the plans in flight (O60). -/

set_option Elab.async false

namespace Sys2Proof.Machine

variable {reload : Prop} {s t u : State}

/-! ### Power-on and Hall Clear (R205, R207) -/

/-- With nothing in flight, no entry and no class the counts are those of no plan. -/
theorem KeepsLedger.of_cleared {b : Ledger} (hpdir : t.pdir = []) (hru : t.ru.classes = [])
    (hpages : s.gs.inFlight = b.pages → t.gs.inFlight = 0) (hwindow : s.windowSound → t.windowSound)
    (hglyphs : ¬ reload → t.gs.glyphs = s.gs.glyphs) : KeepsLedger reload b (ledgerOf []) s t where
  pins _ h := by simp [State.entry, hpdir, freeEntry, ledgerOf]
  classes _ c := by simp [State.classAt, hru, emptyClass, ledgerOf]
  pages := hpages
  window := hwindow
  glyphs := hglyphs

theorem plansInFlight_powerOn (phase : Phase) (clock : Nat) (pending : List Instr) :
    (powerOn phase clock pending).plansInFlight = [] := rfl

theorem windowSound_powerOn (phase : Phase) (clock : Nat) (pending : List Instr) :
    (powerOn phase clock pending).windowSound := ⟨nofun, nofun⟩

/-- Power-on leaves nothing in flight, whatever was there, and unloads every glyph. -/
theorem KeepsFlight.of_powerOn (phase : Phase) (clock : Nat) (pending : List Instr) :
    KeepsFlight True s (powerOn phase clock pending) where
  ledger := by
    rw [plansInFlight_powerOn]
    exact KeepsLedger.of_cleared rfl rfl (fun _ => rfl) (fun _ => windowSound_powerOn _ _ _) (fun h => absurd trivial h)
  nodup := by simp [plansInFlight_powerOn]

theorem KeepsFlight.foldl {α : Type} {f : State → α → State} (h : ∀ s a, KeepsFlight reload s (f s a)) (l : List α)
    (s : State) : KeepsFlight reload s (l.foldl f s) := by
  induction l generalizing s with
  | nil => exact KeepsFlight.refl s
  | cons a rest ih => exact (h s a).trans (ih _)

/-- Channels that have been reset have no plans. -/
theorem State.plans_resetChannels (s : State) (ks : List (Fin 4)) (cause : CancelCause) (j : Fin 4) :
    ((ks.foldl (fun s k => s.resetChannel k cause State.returnPlanQuietly) s).channel j).plans =
      if j ∈ ks then [] else (s.channel j).plans := by
  induction ks generalizing s with
  | nil => simp
  | cons k rest ih =>
    rw [List.foldl_cons, ih, (s.keepsFlight_resetChannel (reload := True) k cause givesBack_returnPlanQuietly).2 j]
    by_cases hj : j = k
    · simp [hj]
    · simp [hj]

/-- With every channel reset quietly no plan is in flight. -/
theorem State.keepsFlight_resetChannels (s : State) (cause : CancelCause) :
    KeepsFlight reload s (fours.foldl (fun s k => s.resetChannel k cause State.returnPlanQuietly) s)
      ∧ (fours.foldl (fun s k => s.resetChannel k cause State.returnPlanQuietly) s).plansInFlight = [] := by
  refine ⟨KeepsFlight.foldl (fun s k => (s.keepsFlight_resetChannel k cause givesBack_returnPlanQuietly).1) _ _, ?_⟩
  rw [State.plansInFlight_eq, List.flatMap_eq_nil_iff]
  exact fun j hj => (s.plans_resetChannels fours cause j).trans (if_pos hj)

/-- Directory, classes, pool and layouts emptied while no plan is in flight (R40, R68). -/
theorem State.keepsFlight_emptied (s : State) (h : s.plansInFlight = []) :
    KeepsFlight reload s { s with
      pdir := [], ru := { classes := [], poolFree := Config.poolRecords }, layouts := [] } := by
  have hplans : ({ s with
      pdir := [], ru := { classes := [], poolFree := Config.poolRecords }, layouts := [] } : State).plansInFlight = [] :=
    (State.plansInFlight_of_pch rfl).trans h
  refine ⟨?_, by simp [hplans]⟩
  rw [h, hplans]
  exact KeepsLedger.of_cleared rfl rfl id id (fun _ => rfl)

theorem State.keepsFlight_hallClear (s : State) : KeepsFlight reload s s.hallClear := by
  unfold State.hallClear
  extract_lets reset uploads stored cleared
  obtain ⟨hreset, hnone⟩ := s.keepsFlight_resetChannels (reload := reload) .hallClear
  have hstored : Steady reload reset stored :=
    (Steady.foldl (fun s (ku : Fin 4 × UploadRecord) => s.steady_cleanUp ku.1 ku.2) _ _).trans
      (State.touches_sc _ _).steady
  refine ((hreset.trans hstored.keepsFlight).trans (stored.keepsFlight_emptied (hstored.plans.trans hnone))).trans ?_
  exact (Touches.foldl (fun s (ku : Fin 4 × UploadRecord) =>
    s.touches_uploadResult ku.1 ku.2 _ _) _ _).steady.keepsFlight

/-! ### The glyph window (R134, R136, R137) -/

theorem windowSound_openedWindow (h : s.windowSound) :
    (s.setWindow (openedWindow s.gs.window s.gs.inFlight)).windowSound := by
  obtain ⟨hopened, hopening⟩ := h
  simp only [State.windowSound, State.setWindow]
  cases hw : s.gs.window with
  | closed =>
    by_cases hn : s.gs.inFlight = 0
    · simp [openedWindow, hn]
    · simp [openedWindow, hn, Nat.pos_of_ne_zero hn]
  | opening => exact ⟨nofun, fun _ => hopening hw⟩
  | opened => exact ⟨fun _ => hopened hw, nofun⟩

/-- An Open Glyph Window finds the pages in flight that its reply leaves. -/
theorem State.steady_openGlyphWindow (s : State) (from_ : Sender) (fields : Bytes) :
    Steady reload s ((s.ok from_ fields).setWindow (openedWindow s.gs.window s.gs.inFlight)) := by
  have hok := s.touches_ok from_ fields
  refine hok.steady.trans (State.steady_setWindow _ _ fun h => ?_)
  rw [← hok.gs]
  exact windowSound_openedWindow h

/-- A glyph is loaded with the window OPEN alone. -/
theorem State.steady_loadGlyph (s : State) (from_ : Sender) (payload : Bytes) :
    Steady (s.gs.window = .opened) s (s.loadGlyph from_ payload) := by
  unfold State.loadGlyph
  extract_lets code
  split
  · exact (s.touches_refuse _ _).steady
  split
  · exact (s.touches_refuse _ _).steady
  next hw =>
  refine (s.touches_ok _ _).steady.trans ⟨State.plansInFlight_of_pch rfl, fun _ => ?_⟩
  exact KeepsLedger.of_glyphStore rfl rfl id id (fun h => absurd (not_not.mp hw) h)

/-! ### Every command -/

/-- Whatever next state a result holds has kept the counts. -/
def ResultKeepsFlight (reload : Prop) (s : State) (r : Result) : Prop := ∀ t, r = .next t → KeepsFlight reload s t

theorem ResultKeepsFlight.next (h : KeepsFlight reload s t) : ResultKeepsFlight reload s (.next t) := fun _ hu => by
  cases hu; exact h

theorem Steady.result (h : Steady reload s t) : ResultKeepsFlight reload s (.next t) := .next h.keepsFlight

/-- An order keeps what its block keeps after the arrival. -/
theorem takeOrder_keepsFlight_at {o : Order} {p : Port} {tag : Byte} {payload : Bytes} {block : State → Result}
    (hb : ResultKeepsFlight reload (s.arrival p) (block (s.arrival p))) :
    ResultKeepsFlight reload s (takeOrder o p tag payload s block) := by
  have harrival : Steady reload s (s.arrival p) := s.steady_setPort p _
  unfold takeOrder
  split
  · exact (Steady.refl s).result
  · exact (harrival.trans (State.steady_setPort _ p _)).result
  · exact (harrival.trans (State.touches_send _ _ _).steady).result
  · exact fun t ht => harrival.keepsFlight.trans (hb t ht)

theorem takeOrder_keepsFlight {o : Order} {p : Port} {tag : Byte} {payload : Bytes} {block : State → Result}
    (hb : ∀ u, ResultKeepsFlight reload u (block u)) :
    ResultKeepsFlight reload s (takeOrder o p tag payload s block) := takeOrder_keepsFlight_at (hb _)

theorem takePressOrder_keepsFlight {o : Order} {p : Port} {tag : Byte} {payload : Bytes}
    {act : State → Sender → Fin 4 → State} (ha : ∀ u f k, KeepsFlight reload u (act u f k)) :
    ResultKeepsFlight reload s (takePressOrder o p tag payload s act) := by
  refine takeOrder_keepsFlight fun u => ?_
  split
  · exact .next (ha _ _ _)
  · exact .next (KeepsFlight.refl u)

/-- A command that may change a glyph record: PORST, and a Load Glyph with the window OPEN (R137, R138). -/
def reloads (x : Instr) (s : State) : Prop :=
  match x with
  | .porstAsserted | .porstReleased => True
  | .loadGlyph _ _ _ => s.gs.window = .opened
  | _ => False

/-- Every command keeps the counts those of the plans in flight, and the glyph records but for the commands that may reload
them. -/
theorem exec_keepsFlight (x : Instr) (s : State) : ResultKeepsFlight (reloads x s) s (exec x s) := by
  cases x with
  | porstAsserted => exact .next (KeepsFlight.of_powerOn _ _ _)
  | porstReleased => exact .next (KeepsFlight.of_powerOn _ _ _)
  | storeInitialisationEnd =>
    simp only [exec, execStoreInitialisationEnd]
    split
    · exact Steady.result (Steady.of_same rfl rfl rfl rfl)
    · exact (Steady.refl s).result
  | linkUp p =>
    simp only [exec, execLinkUp]
    split
    · exact (Steady.refl s).result
    · exact (s.steady_setPort p _).result
  | idleFill p =>
    simp only [exec, execIdleFill]
    split
    · exact (s.steady_setPort p _).result
    · exact (Steady.refl s).result
  | silenceTimerExpiry p =>
    simp only [exec, execSilenceTimerExpiry]
    split
    · exact .next (s.keepsFlight_linkDown p)
    · exact (Steady.refl s).result
  | lineLoss p =>
    simp only [exec, execLineLoss]
    split
    · exact .next (s.keepsFlight_linkDown p)
    · exact (Steady.refl s).result
  | frameDropped p frame =>
    simp only [exec, execFrameDropped]
    split
    · exact (Steady.refl s).result
    split
    · exact (Steady.refl s).result
    · exact ((s.steady_setPort p _).trans (State.steady_setPort _ p _)).result
  | frameDeparture p =>
    simp only [exec, execFrameDeparture]
    split
    · exact (s.steady_setPort p _).result
    · exact (Steady.refl s).result
  | unknownOrder p tag code payload =>
    simp only [exec, execUnknownOrder]
    split
    · exact (Steady.refl s).result
    split
    · exact ((s.steady_setPort p _).trans (State.steady_setPort _ p _)).result
    split
    · exact (Steady.refl s).result
    · exact ((s.steady_setPort p _).trans (State.touches_send _ _ _).steady).result
  | defineLayout => exact takeOrder_keepsFlight fun u => (u.steady_defineLayout _ _).result
  | deleteLayout => exact takeOrder_keepsFlight fun u => (u.steady_deleteLayout _ _).result
  | queryLayout => exact takeOrder_keepsFlight fun u => (u.touches_queryLayout _ _).steady.result
  | openClass => exact takeOrder_keepsFlight fun u => (u.steady_openClass _ _ _).result
  | addSubject => exact takeOrder_keepsFlight fun u => (u.steady_addSubject _ _).result
  | updateSubject => exact takeOrder_keepsFlight fun u => (u.steady_updateSubject _ _).result
  | removeSubject => exact takeOrder_keepsFlight fun u => (u.steady_removeSubject _ _ _).result
  | setTitle => exact takeOrder_keepsFlight fun u => (u.steady_setTitle _ _ _ _).result
  | rebindClass => exact takeOrder_keepsFlight fun u => (u.steady_rebindClass _ _ _).result
  | withdrawRebind =>
    exact takeOrder_keepsFlight fun u => (State.steady_inOpenClass fun _ =>
      (u.touches_ok _ _).steady.trans (State.steady_clearPending _ _)).result
  | freezeClass => exact takeOrder_keepsFlight fun u => (u.steady_freezeClass _ _).result
  | deleteClass => exact takeOrder_keepsFlight fun u => (u.steady_deleteClass _ _).result
  | queryClass => exact takeOrder_keepsFlight fun u => (u.touches_queryClass _ _ _).steady.result
  | beginUpload => exact takeOrder_keepsFlight fun u => (u.steady_beginUpload _ _).result
  | putPixels => exact takeOrder_keepsFlight fun _ _ ht => (State.touches_putPixels ht).steady.keepsFlight
  | endUpload => exact takeOrder_keepsFlight fun u => (u.steady_onSlot _ _ _ State.steady_endUploadOf).result
  | cancelUpload =>
    exact takeOrder_keepsFlight fun u => (u.steady_onSlot _ _ _ fun v k r => v.steady_failUpload k r _).result
  | idleTimerExpiry slot =>
    simp only [exec, execIdleTimerExpiry]
    split
    · split
      · exact (s.steady_failUpload _ _ _).result
      · exact (Steady.refl s).result
    · exact (Steady.refl s).result
  | deletePortrait => exact takeOrder_keepsFlight fun u => (u.steady_deletePortrait _ _).result
  | queryPortrait => exact takeOrder_keepsFlight fun u => (u.touches_queryPortrait _ _).steady.result
  | queryStore => exact takeOrder_keepsFlight fun u => (u.touches_ok _ _).steady.result
  | openGlyphWindow => exact takeOrder_keepsFlight fun u => (u.steady_openGlyphWindow _ _).result
  | closeGlyphWindow =>
    exact takeOrder_keepsFlight fun u => ((u.touches_ok _ _).steady.trans
      (State.steady_setWindow _ .closed fun _ => ⟨nofun, nofun⟩)).result
  | loadGlyph p =>
    simp only [exec, execLoadGlyph]
    refine takeOrder_keepsFlight_at ?_
    have hload := State.steady_loadGlyph (s.arrival p)
    rw [State.arrival_gs] at hload
    exact (hload _ _).result
  | queryGlyph =>
    simp only [exec, execQueryGlyph]
    exact takeOrder_keepsFlight fun u => (u.touches_ite_refuse_ok _ _ _ _).steady.result
  | planningStartStep =>
    simp only [exec, execPlanningStartStep]
    split
    · next k hk =>
      exact .next (s.keepsFlight_startStep k (State.window_of_eligible (State.eligible_of_planningTurn hk)))
    · exact (Steady.refl s).result
  | planningCompletion =>
    simp only [exec, execPlanningCompletion]
    split
    · exact (s.steady_completePlanning _).result
    · exact (Steady.refl s).result
  | configureChannel =>
    exact takePressOrder_keepsFlight fun u f k => (u.steady_configureChannel f k _).keepsFlight
  | enableChannel => exact takePressOrder_keepsFlight fun u f k => (u.steady_enableChannel f k).keepsFlight
  | disableChannel => exact takePressOrder_keepsFlight fun u f k => (u.steady_disableChannel f k).keepsFlight
  | queuePage => exact takePressOrder_keepsFlight fun u f k => (u.steady_queuePage f k _ _ _).keepsFlight
  | cancelPage => exact takePressOrder_keepsFlight fun u f k => (u.steady_cancelPage f k _ _).keepsFlight
  | sheetReady =>
    simp only [exec, execSheetReady]
    exact takePressOrder_keepsFlight fun u f k => (u.steady_takeTrigger f k _).keepsFlight
  | start =>
    simp only [exec, execStart]
    refine takeOrder_keepsFlight fun u => ?_
    split
    · exact (u.touches_refuse _ _).steady.result
    · exact (u.steady_takeTrigger _ _ _).result
  | grantBands => exact takePressOrder_keepsFlight fun u f k => (u.steady_grantBands f k _).keepsFlight
  | abortPage => exact takePressOrder_keepsFlight fun u f k => u.keepsFlight_abortPage f k
  | channelReset =>
    exact takePressOrder_keepsFlight fun u f k =>
      (u.touches_ok f []).steady.keepsFlight.trans (State.keepsFlight_resetChannel _ k _ givesBack_returnPlan).1
  | queryChannel =>
    simp only [exec, execQueryChannel]
    refine takeOrder_keepsFlight fun u => ?_
    split
    · exact (u.touches_refuse _ _).steady.result
    · exact (u.touches_ok _ _).steady.result
  | engineGrant =>
    simp only [exec, execEngineGrant]
    split
    · exact (s.steady_grantEngine _).result
    · exact (Steady.refl s).result
  | rowData =>
    simp only [exec, execRowData]
    split
    · exact .next (s.keepsFlight_row _)
    · exact (Steady.refl s).result
  | bandEnd =>
    simp only [exec, execBandEnd]
    split
    · split
      · exact (Steady.refl s).result
      · exact .next (s.keepsFlight_row _)
    · exact (Steady.refl s).result
  | stallTimerExpiry k =>
    simp only [exec, execStallTimerExpiry]
    split
    · exact .next (s.keepsFlight_stall k)
    · exact (Steady.refl s).result
  | scrubTimerExpiry =>
    simp only [exec, execScrubTimerExpiry]
    split
    · exact ((s.touches_sel _).steady.trans (State.steady_scrub _)).result
    · exact (Steady.refl s).result
  | clearErrorLog =>
    exact takeOrder_keepsFlight fun u => ((u.touches_ok _ _).mono.trans (State.touches_sel _ _)).steady.result
  | hallClear =>
    simp only [exec, execHallClear]
    exact takeOrder_keepsFlight fun u =>
      .next ((u.touches_ok _ _).steady.keepsFlight.trans (State.keepsFlight_hallClear _))
  | queryLink =>
    exact takeOrder_keepsFlight fun u => ((u.touches_ok _ _).steady.trans (State.steady_setPort _ _ _)).result

/-! ### The statement -/

/-- A step keeps the counts too: the front command, with the queue's rest, or an idle millisecond. -/
theorem step_keepsFlight (hstep : step s = .next t) :
    KeepsFlight (∃ x rest, s.pending = x :: rest ∧ reloads x s) s t := by
  unfold step at hstep
  split at hstep
  · cases hstep
    exact s.steady_tick.keepsFlight
  · next x rest hp =>
    obtain ⟨⟨hpins, hclasses, hpages, hwindow, hglyphs⟩, hnodup⟩ := exec_keepsFlight x { s with pending := rest } t hstep
    exact ⟨⟨hpins, hclasses, hpages, hwindow, fun hr => hglyphs fun hx => hr ⟨x, rest, hp, hx⟩⟩, hnodup⟩

theorem pinsSound_reset : State.reset.pinsSound := by
  rw [State.pinsSound_iff, State.reset, plansInFlight_powerOn]
  exact ⟨nofun, fun h => by simp [State.entry, powerOn, freeEntry, ledgerOf]⟩

/-- Settles O60: by what every command keeps of the ledger; a glyph record changes only with the window OPEN, hence with no
page in flight. -/
theorem stepKeepsInFlightCounts : Obligations.StepKeepsInFlightCounts := by
  refine ⟨fun s t hstep => ?_, pinsSound_reset, windowSound_powerOn _ _ _⟩
  obtain ⟨⟨hpins, hclasses, hpages, hwindow, hglyphs⟩, hnodup⟩ := step_keepsFlight hstep
  refine ⟨fun h => ?_, fun h => ?_, hwindow, fun hw hflight hpending => hglyphs ?_⟩
  · rw [State.inFlightSound_iff] at h ⊢
    exact ⟨hclasses h.1, hpages h.2⟩
  · rw [State.pinsSound_iff] at h ⊢
    exact ⟨fun p hp => (hnodup p hp).elim (h.1 p) id, hpins h.2⟩
  · rintro ⟨x, rest, hp, hx⟩
    obtain ⟨hasserted, hreleased⟩ := hpending x rest hp
    unfold reloads at hx
    split at hx
    · exact hasserted rfl
    · exact hreleased rfl
    · exact hflight.ne' (hw.1 hx)
    · exact hx

end Sys2Proof.Machine
end

section
/-! PROOFS. The class orders by their outcomes: Open Class, the checks the edit orders share, the roster orders, Set Title,
Withdraw Rebind and Freeze Class (O16 to O20, O22). -/

set_option Elab.async false

namespace Sys2Proof.Machine

variable {s t : State}

/-! ### Open Class (R22) -/

section OpenClass

variable (s : State) (from_ : Sender) {c n : Nat}

theorem State.openClass_badField (h : 511 < c ∨ 63 < n) : s.openClass from_ c n = s.refuse from_ .badField := by
  simp [State.openClass, h]

theorem State.openClass_inUse (hc : c ≤ 511) (hn : n ≤ 63) (hs : (s.classAt c).state ≠ .empty) :
    s.openClass from_ c n = s.refuse from_ .inUse := by
  simp [State.openClass, not_lt.mpr hc, not_lt.mpr hn, hs]

theorem State.openClass_notFound (hc : c ≤ 511) (hn : n ≤ 63) (hs : (s.classAt c).state = .empty)
    (hf : (s.layout n).fields = none) : s.openClass from_ c n = s.refuse from_ .notFound := by
  simp [State.openClass, not_lt.mpr hc, not_lt.mpr hn, hs, hf]

/-- An accepted Open Class binds the layout and gives the class its record (R13, R22). -/
theorem State.openClass_accepted (hc : c ≤ 511) (hn : n ≤ 63) (hs : (s.classAt c).state = .empty)
    (hf : (s.layout n).fields ≠ none) :
    s.openClass from_ c n = ((s.ok from_ []).bind n).setClass c
      { state := .opened, bound := some n, pending := none, title := [], roster := [], inFlight := 0 } := by
  simp [State.openClass, not_lt.mpr hc, not_lt.mpr hn, hs, hf, emptyClass]

end OpenClass

/-- Settles O16: one clause for each outcome of the order. -/
theorem openClassOutcome : Obligations.OpenClassOutcome := by
  intro s port tag p hadm c n
  have hclass d : (s.arrival port).classAt d = s.classAt d := by simp
  have hlayout m : (s.arrival port).layout m = s.layout m := by simp
  refine ⟨_, exec_openClass hadm tag, fun h => ?_, fun hc hn hs => ?_, fun hc hn hs hf => ?_, fun hc hn hs hf => ?_⟩
  · rw [State.openClass_badField _ _ h]
    exact Refused.intro _ _ _ _ _
  · rw [State.openClass_inUse _ _ hc hn (by rwa [hclass])]
    exact Refused.intro _ _ _ _ _
  · rw [State.openClass_notFound _ _ hc hn (by rwa [hclass]) (by rwa [hlayout])]
    exact Refused.intro _ _ _ _ _
  · rw [State.openClass_accepted _ _ hc hn (by rwa [hclass]) (by rwa [hlayout])]
    refine ⟨Accepted.intro rfl ((State.touches_setLayout _ n _).mono.trans (State.touches_setClass _ c _).mono).2, ?_,
      fun d hd => ?_, ?_, ?_, fun m hm => ?_⟩
    · simp [State.classAt_setClass, c, n]
    · simp [State.classAt_setClass, hd, c]
    · simp
    · simp [State.layout_bind, n]
    · simp [State.layout_bind, hm, n]

/-! ### The checks of the edit orders (R20, R23, R29, R33) -/

section InOpenClass

variable (s : State) (from_ : Sender) {c : Nat} (act : State)

theorem State.inOpenClass_badField (hc : 511 < c) : s.inOpenClass from_ c act = s.refuse from_ .badField := by
  simp [State.inOpenClass, hc]

theorem State.inOpenClass_notFound (hc : c ≤ 511) (hs : (s.classAt c).state = .empty) :
    s.inOpenClass from_ c act = s.refuse from_ .notFound := by
  simp [State.inOpenClass, not_lt.mpr hc, hs]

theorem State.inOpenClass_frozen (hc : c ≤ 511) (hs : (s.classAt c).state = .frozen) :
    s.inOpenClass from_ c act = s.refuse from_ .frozen := by
  simp [State.inOpenClass, not_lt.mpr hc, hs]

theorem State.inOpenClass_opened (hc : c ≤ 511) (hs : (s.classAt c).state = .opened) :
    s.inOpenClass from_ c act = act := by
  simp [State.inOpenClass, not_lt.mpr hc, hs]

end InOpenClass

theorem State.addSubject_badField (s : State) (from_ : Sender) {f : SubjectForm} (hf : subjectFieldsOk f = false) :
    s.addSubject from_ f = s.refuse from_ .badField := by
  simp [State.addSubject, hf]

theorem State.updateSubject_badField (s : State) (from_ : Sender) {f : SubjectForm} (hf : subjectFieldsOk f = false) :
    s.updateSubject from_ f = s.refuse from_ .badField := by
  simp [State.updateSubject, hf]

/-- An edit order whose own fields are in range: what is left to check is its class (R23, R29, R33). -/
def EditInRange (o : Order) (p : Bytes) : Prop :=
  (o = .addSubject ∨ o = .updateSubject) ∧ subjectFieldsOk (readSubject p) = true
    ∨ o = .removeSubject ∨ o = .withdrawRebind
    ∨ o = .setTitle ∧ titleOk (byteAt p 2) (readTitle p) = true ∨ o = .rebindClass ∧ byteAt p 2 ≤ 63

/-- Such an order acts in an OPEN class alone. -/
theorem exec_edit {o : Order} {port : Port} {p : Bytes} (hadm : Admitted o port p s) (tag : Byte)
    (ho : EditInRange o p) :
    ∃ act, exec (o.command port tag p) s =
      .next ((s.arrival port).inOpenClass ⟨port, tag, o.code⟩ (word16At p 0) act) := by
  rcases ho with ⟨rfl | rfl, hf⟩ | rfl | rfl | ⟨rfl, ht⟩ | ⟨rfl, hn⟩
  · exact ⟨_, (exec_addSubject hadm tag).trans (congrArg _ (if_neg (not_not.mpr hf)))⟩
  · exact ⟨_, (exec_updateSubject hadm tag).trans (congrArg _ (if_neg (not_not.mpr hf)))⟩
  · exact ⟨_, exec_removeSubject hadm tag⟩
  · exact ⟨_, exec_withdrawRebind hadm tag⟩
  · exact ⟨_, (exec_setTitle hadm tag).trans (congrArg _ (if_neg (not_not.mpr ht)))⟩
  · exact ⟨_, (exec_rebindClass hadm tag).trans (congrArg _ (if_neg (not_lt.mpr hn)))⟩

/-- Settles O17: the field checks of the two subject orders, and the class checks that all edit orders share. -/
theorem classChecksOfEdits : Obligations.ClassChecksOfEdits := by
  intro o s port tag p hadm c
  have hclass : (s.arrival port).classAt c = s.classAt c := by simp
  refine ⟨fun ho hf => ?_, fun ho => ?_⟩
  · rcases ho with rfl | rfl
    · refine ⟨_, exec_addSubject hadm tag, ?_⟩
      rw [State.addSubject_badField _ _ hf]
      exact Refused.intro _ _ _ _ _
    · refine ⟨_, exec_updateSubject hadm tag, ?_⟩
      rw [State.updateSubject_badField _ _ hf]
      exact Refused.intro _ _ _ _ _
  · obtain ⟨act, hexec⟩ := exec_edit hadm tag ho
    refine ⟨fun hc => ⟨_, hexec, ?_⟩, fun hc hs => ⟨_, hexec, ?_⟩, fun hc hs => ⟨_, hexec, ?_⟩⟩
    · rw [State.inOpenClass_badField _ _ _ hc]
      exact Refused.intro _ _ _ _ _
    · rw [State.inOpenClass_notFound _ _ _ hc (by rwa [hclass])]
      exact Refused.intro _ _ _ _ _
    · rw [State.inOpenClass_frozen _ _ _ hc (by rwa [hclass])]
      exact Refused.intro _ _ _ _ _

/-! ### Rosters (R21, R24, R25) -/

/-- In an ordered roster a record goes behind those that stand before it. -/
theorem insertSubject_eq {roster : List Subject} (x : Subject)
    (hp : roster.Pairwise (fun a b => standsBefore a b = true)) :
    insertSubject roster x = roster.take (positionIn roster x) ++ x :: roster.drop (positionIn roster x) := by
  induction roster with
  | nil => rfl
  | cons y rest ih =>
    obtain ⟨hy, hrest⟩ := List.pairwise_cons.mp hp
    by_cases hyx : standsBefore y x = true
    · have hpos : positionIn (y :: rest) x = positionIn rest x + 1 := by
        rw [positionIn, List.filter_cons_of_pos (p := fun y => standsBefore y x) hyx]; rfl
      rw [hpos]
      simp [insertSubject, hyx, ih hrest]
    · have hpos : positionIn (y :: rest) x = 0 := by
        rw [positionIn, List.filter_cons_of_neg (p := fun y => standsBefore y x) hyx, List.length_eq_zero_iff, List.filter_eq_nil_iff]
        exact fun z hz hzx => hyx (standsBefore_trans (hy z hz) hzx)
      rw [hpos]
      simp [insertSubject, hyx]

theorem RosterOrdered.pairwise {roster : List Subject} (h : RosterOrdered roster) :
    roster.Pairwise (fun a b => standsBefore a b = true) := by
  obtain ⟨hpair, -, -, -⟩ := h
  exact hpair

theorem holdsId_iff_exists (roster : List Subject) (id : Nat) : holdsId roster id = true ↔ ∃ y ∈ roster, y.id = id := by
  simp [holdsId]

theorem holdsId_eq_false (roster : List Subject) (id : Nat) : holdsId roster id = false ↔ ∀ y ∈ roster, y.id ≠ id := by
  simp [holdsId]

theorem namesHandle_iff (roster : List Subject) (ref : Option PortraitRef) :
    namesHandle roster ref = true ↔ ∃ y ∈ roster, ∃ q r, y.ref = some q ∧ ref = some r ∧ q.handle = r.handle := by
  cases ref with
  | none => simp [namesHandle]
  | some r => simp [namesHandle, Option.any_eq_true]

/-- What an accepted roster order does: one class has another roster, and the pool another number of free records. -/
theorem State.setRoster_outcome (s : State) (o : Order) (port : Port) (tag : Byte) (fields : Bytes) (c : Nat)
    (roster : List Subject) (free : Nat) :
    let t := (((s.arrival port).send port (replyFrame o tag .ok fields)).setRoster c roster).setPool free
    Accepted o port tag fields [.ru] s t ∧ t.classAt c = { s.classAt c with roster := roster }
      ∧ (∀ d, d ≠ c → t.classAt d = s.classAt d) ∧ t.ru.poolFree = free := by
  refine ⟨Accepted.intro rfl ((State.touches_setClass _ c _).trans (State.touches_setPool _ _)).2, ?_, fun d hd => ?_, rfl⟩
  · simp [State.setRoster, State.classAt_setClass]
  · simp [State.setRoster, State.classAt_setClass, hd]

/-! ### Add Subject (R24) -/

section AddSubject

variable (s : State) (from_ : Sender) {f : SubjectForm} (hf : subjectFieldsOk f = true) (hc : f.classNo ≤ 511)
  (hs : (s.classAt f.classNo).state = .opened)

include hf hc hs

theorem State.addSubject_duplicate (h : holdsId (s.classAt f.classNo).roster (subjectOf f).id = true
      ∨ namesHandle (s.classAt f.classNo).roster (subjectOf f).ref = true) :
    s.addSubject from_ f = s.refuse from_ .duplicate := by
  simp only [State.addSubject, hf, State.inOpenClass_opened _ _ _ hc hs]
  rcases h with h | h <;> simp [h]

theorem State.addSubject_rosterFull (hid : holdsId (s.classAt f.classNo).roster (subjectOf f).id = false)
    (href : namesHandle (s.classAt f.classNo).roster (subjectOf f).ref = false)
    (hfull : 256 ≤ (s.classAt f.classNo).roster.length) : s.addSubject from_ f = s.refuse from_ .rosterFull := by
  simp [State.addSubject, hf, State.inOpenClass_opened _ _ _ hc hs, hid, href, hfull]

theorem State.addSubject_poolFull (hid : holdsId (s.classAt f.classNo).roster (subjectOf f).id = false)
    (href : namesHandle (s.classAt f.classNo).roster (subjectOf f).ref = false)
    (hfull : (s.classAt f.classNo).roster.length < 256) (hpool : s.ru.poolFree = 0) :
    s.addSubject from_ f = s.refuse from_ .poolFull := by
  simp [State.addSubject, hf, State.inOpenClass_opened _ _ _ hc hs, hid, href, not_le.mpr hfull, hpool]

theorem State.addSubject_accepted (hid : holdsId (s.classAt f.classNo).roster (subjectOf f).id = false)
    (href : namesHandle (s.classAt f.classNo).roster (subjectOf f).ref = false)
    (hfull : (s.classAt f.classNo).roster.length < 256) (hpool : 0 < s.ru.poolFree) :
    s.addSubject from_ f =
      ((s.ok from_ (bytes1 (positionIn (s.classAt f.classNo).roster (subjectOf f)))).setRoster f.classNo
        (insertSubject (s.classAt f.classNo).roster (subjectOf f))).setPool (s.ru.poolFree - 1) := by
  simp [State.addSubject, hf, State.inOpenClass_opened _ _ _ hc hs, hid, href, not_le.mpr hfull, hpool.ne']

end AddSubject

/-- Settles O18: one clause for each outcome of the order; the record goes behind those that stand before it. -/
theorem addSubjectOutcome : Obligations.AddSubjectOutcome := by
  intro s port tag p hadm hf c x roster twice pos hc hs hord
  have hclass d : (s.arrival port).classAt d = s.classAt d := by simp
  have hpool : (s.arrival port).ru = s.ru := by simp
  have htwice : twice ↔ holdsId roster x.id = true ∨ namesHandle roster x.ref = true := by
    rw [holdsId_iff_exists, namesHandle_iff]
  have honce (h : ¬ twice) : holdsId roster x.id = false ∧ namesHandle roster x.ref = false := by
    simpa [htwice] using h
  have hopen : ((s.arrival port).classAt (readSubject p).classNo).state = .opened := by rw [hclass]; exact hs
  have hroster : ((s.arrival port).classAt (readSubject p).classNo).roster = roster := by rw [hclass]; rfl
  refine ⟨_, exec_addSubject hadm tag, fun h => ?_, fun h hlen => ?_, fun h hlen hfree => ?_, fun h hlen hfree => ?_⟩
  · rw [State.addSubject_duplicate _ _ hf hc hopen (by rw [hroster]; exact htwice.mp h)]
    exact Refused.intro _ _ _ _ _
  · rw [State.addSubject_rosterFull _ _ hf hc hopen (by rw [hroster]; exact (honce h).1)
      (by rw [hroster]; exact (honce h).2) (by rw [hroster]; exact hlen.ge)]
    exact Refused.intro _ _ _ _ _
  · rw [State.addSubject_poolFull _ _ hf hc hopen (by rw [hroster]; exact (honce h).1)
      (by rw [hroster]; exact (honce h).2) (by rwa [hroster]) (by rwa [hpool])]
    exact Refused.intro _ _ _ _ _
  · rw [State.addSubject_accepted _ _ hf hc hopen (by rw [hroster]; exact (honce h).1)
      (by rw [hroster]; exact (honce h).2) (by rwa [hroster]) (by rwa [hpool]), hroster, hpool]
    obtain ⟨haccepted, hplaced, hothers, hleft⟩ :=
      s.setRoster_outcome .addSubject port tag (bytes1 pos) c (insertSubject roster x) (s.ru.poolFree - 1)
    refine ⟨haccepted, ?_, hothers, ?_⟩
    · exact hplaced.trans (by rw [insertSubject_eq x hord.pairwise]; rfl)
    · exact (congrArg (· + 1) hleft).trans (Nat.sub_add_cancel hfree)

/-! ### Update Subject (R25) -/

section UpdateSubject

variable (s : State) (from_ : Sender) {f : SubjectForm} (hf : subjectFieldsOk f = true) (hc : f.classNo ≤ 511)
  (hs : (s.classAt f.classNo).state = .opened)

include hf hc hs

theorem State.updateSubject_notFound (hid : holdsId (s.classAt f.classNo).roster (subjectOf f).id = false) :
    s.updateSubject from_ f = s.refuse from_ .notFound := by
  simp [State.updateSubject, hf, State.inOpenClass_opened _ _ _ hc hs, hid]

theorem State.updateSubject_duplicate (hid : holdsId (s.classAt f.classNo).roster (subjectOf f).id = true)
    (href : namesHandle (withoutSubject (s.classAt f.classNo).roster (subjectOf f).id) (subjectOf f).ref = true) :
    s.updateSubject from_ f = s.refuse from_ .duplicate := by
  simp [State.updateSubject, hf, State.inOpenClass_opened _ _ _ hc hs, hid, href]

theorem State.updateSubject_accepted (hid : holdsId (s.classAt f.classNo).roster (subjectOf f).id = true)
    (href : namesHandle (withoutSubject (s.classAt f.classNo).roster (subjectOf f).id) (subjectOf f).ref = false) :
    s.updateSubject from_ f =
      (s.ok from_ (bytes1 (positionIn (withoutSubject (s.classAt f.classNo).roster (subjectOf f).id)
        (subjectOf f)))).setRoster f.classNo
          (insertSubject (withoutSubject (s.classAt f.classNo).roster (subjectOf f).id) (subjectOf f)) := by
  simp [State.updateSubject, hf, State.inOpenClass_opened _ _ _ hc hs, hid, href]

end UpdateSubject

/-- Settles O19: one clause for each outcome of the order; the record leaves its place and goes behind those of the others
that stand before it. -/
theorem updateSubjectOutcome : Obligations.UpdateSubjectOutcome := by
  intro s port tag p hadm hf c x roster others twice pos hc hs hord
  have hclass d : (s.arrival port).classAt d = s.classAt d := by simp
  have htwice : twice ↔ namesHandle others x.ref = true := (namesHandle_iff _ _).symm
  have hopen : ((s.arrival port).classAt (readSubject p).classNo).state = .opened := by rw [hclass]; exact hs
  have hroster : ((s.arrival port).classAt (readSubject p).classNo).roster = roster := by rw [hclass]; rfl
  refine ⟨_, exec_updateSubject hadm tag, fun h => ?_, fun h hdup => ?_, fun h hdup => ?_⟩
  · rw [State.updateSubject_notFound _ _ hf hc hopen (by rw [hroster]; exact (holdsId_eq_false _ _).mpr h)]
    exact Refused.intro _ _ _ _ _
  · rw [State.updateSubject_duplicate _ _ hf hc hopen (by rw [hroster]; exact (holdsId_iff_exists _ _).mpr h)
      (by rw [hroster]; exact htwice.mp hdup)]
    exact Refused.intro _ _ _ _ _
  · rw [State.updateSubject_accepted _ _ hf hc hopen (by rw [hroster]; exact (holdsId_iff_exists _ _).mpr h)
      (by rw [hroster]; exact Bool.eq_false_iff.mpr (mt htwice.mpr hdup)), hroster]
    obtain ⟨haccepted, hplaced, hothers, hleft⟩ :=
      s.setRoster_outcome .updateSubject port tag (bytes1 pos) c (insertSubject others x)
        ((s.arrival port).send port (replyFrame .updateSubject tag .ok (bytes1 pos))).ru.poolFree
    refine ⟨haccepted, ?_, hothers, hleft.trans (by simp)⟩
    have hpair : others.Pairwise (fun a b => standsBefore a b = true) := (hord.without x.id).pairwise
    exact hplaced.trans (by rw [insertSubject_eq x hpair]; rfl)

/-! ### Remove Subject and Set Title (R26, R27) -/

section RemoveSubject

variable (s : State) (from_ : Sender) {c : Nat} (id : Nat) (hc : c ≤ 511) (hs : (s.classAt c).state = .opened)

include hc hs

theorem State.removeSubject_notFound (hid : holdsId (s.classAt c).roster id = false) :
    s.removeSubject from_ c id = s.refuse from_ .notFound := by
  simp [State.removeSubject, State.inOpenClass_opened _ _ _ hc hs, hid]

theorem State.removeSubject_accepted (hid : holdsId (s.classAt c).roster id = true) :
    s.removeSubject from_ c id =
      ((s.ok from_ []).setRoster c (withoutSubject (s.classAt c).roster id)).setPool (s.ru.poolFree + 1) := by
  simp [State.removeSubject, State.inOpenClass_opened _ _ _ hc hs, hid]

end RemoveSubject

theorem titleOk_iff (count : Nat) (codes : List Nat) :
    titleOk count codes = true ↔ count ≤ 64 ∧ ∀ code ∈ codes, code ≤ 4094 := by
  simp [titleOk]

theorem State.setTitle_badField (s : State) (from_ : Sender) (c : Nat) {count : Nat} {title : List Nat}
    (ht : ¬ titleOk count title = true) : s.setTitle from_ c count title = s.refuse from_ .badField := by
  simp [State.setTitle, ht]

theorem State.setTitle_accepted (s : State) (from_ : Sender) {c count : Nat} {title : List Nat}
    (ht : titleOk count title = true) (hc : c ≤ 511) (hs : (s.classAt c).state = .opened) :
    s.setTitle from_ c count title = (s.ok from_ []).setClass c { s.classAt c with title } := by
  simp [State.setTitle, ht, State.inOpenClass_opened _ _ _ hc hs]

/-- Remove Subject in an OPEN class by its outcomes. -/
theorem removeSubject_outcome {port : Port} {p : Bytes} (hadm : Admitted .removeSubject port p s) (tag : Byte)
    (hc : word16At p 0 ≤ 511) (hs : (s.classAt (word16At p 0)).state = .opened) :
    let roster := (s.classAt (word16At p 0)).roster
    ∃ t, exec (.removeSubject port tag p) s = .next t
      ∧ ((∀ y ∈ roster, y.id ≠ word24At p 2) → Refused .removeSubject port tag .notFound s t)
      ∧ ((∃ y ∈ roster, y.id = word24At p 2) →
          Accepted .removeSubject port tag [] [.ru] s t
            ∧ t.classAt (word16At p 0) =
              { s.classAt (word16At p 0) with roster := roster.filter (fun y => decide (y.id ≠ word24At p 2)) }
            ∧ (∀ d, d ≠ word16At p 0 → t.classAt d = s.classAt d) ∧ t.ru.poolFree = s.ru.poolFree + 1) := by
  have hclass : (s.arrival port).classAt (word16At p 0) = s.classAt (word16At p 0) := by simp
  have hpool : (s.arrival port).ru = s.ru := by simp
  refine ⟨_, exec_removeSubject hadm tag, fun h => ?_, fun h => ?_⟩
  · rw [State.removeSubject_notFound _ _ _ hc (by rwa [hclass]) (by rw [hclass]; exact (holdsId_eq_false _ _).mpr h)]
    exact Refused.intro _ _ _ _ _
  · rw [State.removeSubject_accepted _ _ _ hc (by rwa [hclass])
      (by rw [hclass]; exact (holdsId_iff_exists _ _).mpr h), hclass, hpool]
    exact s.setRoster_outcome .removeSubject port tag [] _ _ _

/-- Set Title by its outcomes. -/
theorem setTitle_outcome {port : Port} {p : Bytes} (hadm : Admitted .setTitle port p s) (tag : Byte) :
    ∃ t, exec (.setTitle port tag p) s = .next t
      ∧ (¬ titleOk (byteAt p 2) (readTitle p) = true → Refused .setTitle port tag .badField s t)
      ∧ (titleOk (byteAt p 2) (readTitle p) = true → word16At p 0 ≤ 511 →
          (s.classAt (word16At p 0)).state = .opened →
          Accepted .setTitle port tag [] [.ru] s t
            ∧ t.classAt (word16At p 0) = { s.classAt (word16At p 0) with title := readTitle p }
            ∧ (∀ d, d ≠ word16At p 0 → t.classAt d = s.classAt d) ∧ t.ru.poolFree = s.ru.poolFree) := by
  have hclass : (s.arrival port).classAt (word16At p 0) = s.classAt (word16At p 0) := by simp
  refine ⟨_, exec_setTitle hadm tag, fun ht => ?_, fun ht hc hs => ?_⟩
  · rw [State.setTitle_badField _ _ _ ht]
    exact Refused.intro _ _ _ _ _
  · rw [State.setTitle_accepted _ _ ht hc (by rwa [hclass]), hclass]
    refine ⟨Accepted.intro rfl (State.touches_setClass _ _ _).2, ?_, fun d hd => ?_, by simp⟩
    · simp [State.classAt_setClass]
    · simp [State.classAt_setClass, hd]

/-- Settles O20: the two orders by their outcomes. -/
theorem removeSubjectAndSetTitle : Obligations.RemoveSubjectAndSetTitle := by
  intro s port tag p c id roster title
  refine ⟨fun hadm hc hs => removeSubject_outcome hadm tag hc hs, fun hadm => ?_⟩
  obtain ⟨t, hexec, hrefused, haccepted⟩ := setTitle_outcome hadm tag
  refine ⟨t, hexec, fun h => hrefused fun ht => ?_, fun hcount hcodes => haccepted ?_⟩
  · obtain ⟨hcount, hcodes⟩ := (titleOk_iff _ _).mp ht
    rcases h with h | ⟨code, hcode, h⟩
    · exact absurd hcount (not_le.mpr h)
    · exact absurd (hcodes code hcode) (not_le.mpr h)
  · exact (titleOk_iff _ _).mpr ⟨hcount, hcodes⟩

/-! ### Withdraw Rebind and Freeze Class (R33, R34) -/

theorem State.clearPending_liu (s : State) (c : Nat) : (s.clearPending c).liu = s.liu := by
  simp [State.clearPending]

theorem State.poolFree_clearPending (s : State) (c : Nat) : (s.clearPending c).ru.poolFree = s.ru.poolFree := by
  simp [State.clearPending]

section FreezeClass

variable (s : State) (from_ : Sender) {c : Nat}

theorem State.freezeClass_badField (hc : 511 < c) : s.freezeClass from_ c = s.refuse from_ .badField := by
  simp [State.freezeClass, hc]

theorem State.freezeClass_notFound (hc : c ≤ 511) (hs : (s.classAt c).state = .empty) :
    s.freezeClass from_ c = s.refuse from_ .notFound := by
  simp [State.freezeClass, not_lt.mpr hc, hs]

theorem State.freezeClass_frozen (hc : c ≤ 511) (hs : (s.classAt c).state = .frozen) :
    s.freezeClass from_ c = s.ok from_ [] := by
  simp [State.freezeClass, not_lt.mpr hc, hs]

theorem State.freezeClass_settled (hc : c ≤ 511) (hs : (s.classAt c).state = .opened)
    (hp : (s.classAt c).pending = none) : s.freezeClass from_ c = (s.ok from_ []).freeze c := by
  simp [State.freezeClass, not_lt.mpr hc, hs, hp, State.freeze]

theorem State.freezeClass_pending (hc : c ≤ 511) (hs : (s.classAt c).state = .opened) {n : Nat}
    (hp : (s.classAt c).pending = some n) :
    s.freezeClass from_ c =
      ((s.ok from_ []).freeze c).send .l (noticeFrame .rebindWithdrawn (bytes2 c ++ bytes1 n)) := by
  simp [State.freezeClass, not_lt.mpr hc, hs, hp, State.freeze]

theorem State.classAt_freeze (d : Nat) :
    (s.freeze c).classAt d =
      if d = c then { s.classAt c with state := .frozen, pending := none } else s.classAt d := by
  simp only [State.freeze, State.classAt_setClass, State.classAt_clearPending, if_true]
  split <;> rfl

theorem State.layout_freeze (m : Nat) :
    (s.freeze c).layout m = { s.layout m with
      bindings := (s.layout m).bindings - (if (s.classAt c).pending = some m then 1 else 0) } :=
  s.layout_clearPending c m

theorem State.touches_freeze : Touches [.lt, .ru] s (s.freeze c) :=
  (s.touches_clearPending c).trans (State.touches_setClass _ c _).mono

theorem State.freeze_liu : (s.freeze c).liu = s.liu := by simp [State.freeze, State.clearPending]

theorem State.poolFree_freeze : (s.freeze c).ru.poolFree = s.ru.poolFree := by simp [State.freeze, State.clearPending]

end FreezeClass

/-- Withdraw Rebind in an OPEN class. -/
theorem withdrawRebind_outcome {port : Port} {p : Bytes} (hadm : Admitted .withdrawRebind port p s) (tag : Byte)
    (hc : word16At p 0 ≤ 511) (hs : (s.classAt (word16At p 0)).state = .opened) :
    ∃ t, exec (.withdrawRebind port tag p) s = .next t ∧ Accepted .withdrawRebind port tag [] [.lt, .ru] s t
      ∧ t.classAt (word16At p 0) = { s.classAt (word16At p 0) with pending := none }
      ∧ (∀ d, d ≠ word16At p 0 → t.classAt d = s.classAt d) ∧ t.ru.poolFree = s.ru.poolFree
      ∧ ∀ m, t.layout m = { s.layout m with
          bindings := (s.layout m).bindings - (if (s.classAt (word16At p 0)).pending = some m then 1 else 0) } := by
  refine ⟨_, exec_withdrawRebind hadm tag, ?_⟩
  rw [State.withdrawRebind, State.inOpenClass_opened _ _ _ hc (by simpa using hs)]
  refine ⟨Accepted.intro (State.clearPending_liu _ _) (State.touches_clearPending _ _).2, ?_, fun d hd => ?_, ?_,
    fun m => ?_⟩
  · simp [State.classAt_clearPending]
  · simp [State.classAt_clearPending, hd]
  · simp [State.poolFree_clearPending]
  · simp [State.layout_clearPending]

/-- Freeze Class in an OPEN class: the notice follows the reply, and reads the pending layout that was cleared. -/
theorem freezeClass_outcome {port : Port} {c : Nat} (tag : Byte) (hc : c ≤ 511) (hs : (s.classAt c).state = .opened) :
    let t := (s.arrival port).freezeClass ⟨port, tag, Order.code .freezeClass⟩ c
    AcceptedWith .freezeClass port tag []
        (onPort .l (match (s.classAt c).pending with
          | some n => [noticeFrame .rebindWithdrawn (bytes2 c ++ bytes1 n)]
          | none => [])) [.lt, .ru] s t
      ∧ t.classAt c = { s.classAt c with state := .frozen, pending := none }
      ∧ (∀ d, d ≠ c → t.classAt d = s.classAt d) ∧ t.ru.poolFree = s.ru.poolFree
      ∧ ∀ m, t.layout m = { s.layout m with
          bindings := (s.layout m).bindings - (if (s.classAt c).pending = some m then 1 else 0) } := by
  intro t
  obtain ⟨u, hu⟩ : ∃ u, u = (s.arrival port).ok ⟨port, tag, Order.code .freezeClass⟩ [] := ⟨_, rfl⟩
  have huclass d : u.classAt d = s.classAt d := by simp [hu]
  have hulayout m : u.layout m = s.layout m := by simp [hu]
  have hupool : u.ru.poolFree = s.ru.poolFree := by simp [hu]
  have hnotice : PortsGain none (onPort .l (match (s.classAt c).pending with
        | some n => [noticeFrame .rebindWithdrawn (bytes2 c ++ bytes1 n)]
        | none => [])) u t
      ∧ Touches [.lt, .ru] u t ∧ t.ru = (u.freeze c).ru ∧ t.layouts = (u.freeze c).layouts := by
    cases hp : (s.classAt c).pending with
    | none =>
      have ht : t = u.freeze c := hu ▸ State.freezeClass_settled _ _ hc (by simpa using hs) (by simpa using hp)
      rw [ht]
      exact ⟨(PortsGain.of_liu u.freeze_liu).sent fun q => by simp [onPort], u.touches_freeze, rfl, rfl⟩
    | some n =>
      have ht : t = (u.freeze c).send .l (noticeFrame .rebindWithdrawn (bytes2 c ++ bytes1 n)) :=
        hu ▸ State.freezeClass_pending _ _ hc (by simpa using hs) (by simpa using hp)
      rw [ht]
      exact ⟨((PortsGain.of_liu u.freeze_liu).send .l _).sent fun q => by simp [andThen],
        u.touches_freeze.trans (State.touches_send _ _ _).mono, by simp, by simp⟩
  obtain ⟨hsent, htouches, hru, hlayouts⟩ := hnotice
  refine ⟨AcceptedWith.intro (by subst hu; exact hsent) (by subst hu; exact htouches.2), ?_, fun d hd => ?_, ?_,
    fun m => ?_⟩
  · rw [State.classAt_congr _ _ c hru, State.classAt_freeze, if_pos rfl, huclass]
  · rw [State.classAt_congr _ _ d hru, State.classAt_freeze, if_neg hd, huclass]
  · rw [hru, State.poolFree_freeze, hupool]
  · rw [State.layout_congr _ _ m hlayouts, State.layout_freeze, hulayout, huclass]

/-- Settles O22: the two orders by their outcomes. -/
theorem withdrawAndFreeze : Obligations.WithdrawAndFreeze := by
  intro s port tag p c r released
  refine ⟨fun hadm hc hs => withdrawRebind_outcome hadm tag hc hs, fun hadm => ⟨_, exec_freezeClass hadm tag,
    fun hc => ?_, fun hc hs => ?_, fun hc hs => ?_, fun hc hs => freezeClass_outcome tag hc hs⟩⟩
  · rw [State.freezeClass_badField _ _ hc]
    exact Refused.intro _ _ _ _ _
  · rw [State.freezeClass_notFound _ _ hc (by simpa using hs)]
    exact Refused.intro _ _ _ _ _
  · rw [State.freezeClass_frozen _ _ hc (by simpa using hs)]
    exact Accepted.plain _ _ _ _ _ _

end Sys2Proof.Machine
end

section
/-! PROOFS. Delete Class by its outcomes (O23): what the removal of QUEUED jobs does to each channel and sends on its port. -/

set_option Elab.async false

namespace Sys2Proof.Machine

variable {s t : State}

/-! ### QUEUED jobs removed from the channels (R36, step 1) -/

/-- A QUEUED job of a class. -/
def Job.queuedOf (c : Nat) (j : Job) : Bool := j.queued && decide (j.classNo = c)

/-- A channel's record once the QUEUED jobs of a class are out of its list. -/
def Channel.withoutQueued (c : Nat) (ch : Channel) : Channel :=
  { ch with jobs := ch.jobs.filter (fun j => !j.queuedOf c) }

/-- The Job Cancelled notices for the QUEUED jobs of a class on channel `k`, in list order. -/
def State.deletionNotices (s : State) (c : Nat) (k : Fin 4) : List Frame :=
  ((s.channel k).jobs.filter (Job.queuedOf c)).map
    (fun j => noticeFrame .jobCancelled (bytesJobCancelled k j .classDeleted))

/-- Those of the channels of `ks`, each on its channel's port. -/
def State.deletionFrames (s : State) (c : Nat) (ks : List (Fin 4)) : Port → List Frame
  | .p k => if k ∈ ks then s.deletionNotices c k else []
  | _ => []

/-- Notices sent one after the other on one port. -/
theorem PortsGain.foldl_notice {α : Type} (p : Port) (n : Notice) (payload : α → Bytes) (l : List α) (s : State) :
    PortsGain none (onPort p (l.map fun a => noticeFrame n (payload a))) s
      (l.foldl (fun s a => s.notice p n (payload a)) s) := by
  induction l generalizing s with
  | nil => exact (PortsGain.of_liu rfl).sent fun q => by simp [onPort]
  | cons a rest ih =>
    refine (((PortsGain.of_liu rfl).send p _).trans (ih _)).sent fun q => ?_
    by_cases hq : q = p <;> simp [andThen, onPort, hq, noticeFrame]

theorem State.removeQueued_eq (s : State) (c : Nat) (k : Fin 4) :
    s.removeQueued c k =
      (((s.channel k).jobs.filter (Job.queuedOf c)).foldl
        (fun s j => s.notice (.p k) .jobCancelled (bytesJobCancelled k j .classDeleted)) s).putChannel k
          ((s.channel k).withoutQueued c) := rfl

theorem State.portsGain_removeQueued (s : State) (c : Nat) (k : Fin 4) :
    PortsGain none (onPort (.p k) (s.deletionNotices c k)) s (s.removeQueued c k) :=
  (PortsGain.foldl_notice _ _ _ _ _).congr rfl

theorem State.touches_deletionNotices (s : State) (c : Nat) (k : Fin 4) :
    Touches [] s (((s.channel k).jobs.filter (Job.queuedOf c)).foldl
      (fun s j => s.notice (.p k) .jobCancelled (bytesJobCancelled k j .classDeleted)) s) :=
  Touches.foldl (fun s j => s.touches_notice (.p k) .jobCancelled (bytesJobCancelled k j .classDeleted)) _ s

/-- The list of one channel changes, and its stall timer is settled (R167). -/
theorem State.channel_removeQueued (s : State) (c : Nat) (k j : Fin 4) :
    (s.removeQueued c k).channel j =
      if j = k then
        { (s.channel k).withoutQueued c with stallTimer := settleTimer (s.channel k) ((s.channel k).withoutQueued c) }
      else s.channel j := by
  have hnotices := (s.touches_deletionNotices c k).pch
  rw [State.removeQueued_eq, State.channel_putChannel, State.channel_congr _ _ k hnotices,
    State.channel_congr _ _ j hnotices]

theorem State.lastServed_putChannel (s : State) (k : Fin 4) (ch : Channel) :
    (s.putChannel k ch).pch.lastServed = s.pch.lastServed := rfl

theorem State.lastServed_removeQueued (s : State) (c : Nat) (k : Fin 4) :
    (s.removeQueued c k).pch.lastServed = s.pch.lastServed := by
  have hnotices := (s.touches_deletionNotices c k).pch
  rw [State.removeQueued_eq, State.lastServed_putChannel, hnotices]

/-- The removal over distinct channels: each of them takes its new list and sends its notices, and the others are as they
were. -/
theorem State.removeQueued_channels (c : Nat) {ks : List (Fin 4)} (hks : ks.Nodup) (s : State) :
    let t := ks.foldl (fun s k => s.removeQueued c k) s
    PortsGain none (s.deletionFrames c ks) s t ∧ t.pch.lastServed = s.pch.lastServed
      ∧ (∀ j ∈ ks, ChannelTakes j ((s.channel j).withoutQueued c) s t) ∧ ∀ j, j ∉ ks → t.channel j = s.channel j := by
  induction ks generalizing s with
  | nil => exact ⟨(PortsGain.of_liu rfl).sent fun q => by cases q <;> rfl, rfl, nofun, fun _ _ => rfl⟩
  | cons k ks ih =>
    obtain ⟨hk, hnodup⟩ := List.nodup_cons.mp hks
    obtain ⟨hports, hserved, htakes, hothers⟩ := ih hnodup (s.removeQueued c k)
    have hsame {j : Fin 4} (hj : j ≠ k) : (s.removeQueued c k).channel j = s.channel j := by
      rw [State.channel_removeQueued, if_neg hj]
    refine ⟨((s.portsGain_removeQueued c k).trans hports).sent fun q => ?_,
      hserved.trans (s.lastServed_removeQueued c k), fun j hj => ?_, fun j hj => ?_⟩
    · cases q with
      | p j =>
        by_cases hj : j = k
        · simp [andThen, onPort, State.deletionFrames, hj, hk]
        · simp [andThen, onPort, State.deletionFrames, State.deletionNotices, hj, hsame hj]
      | _ => rfl
    · rcases List.mem_cons.mp hj with rfl | hj
      · rw [ChannelTakes, List.foldl_cons, hothers j hk, State.channel_removeQueued, if_pos rfl]
      · have hne : j ≠ k := fun h => hk (h ▸ hj)
        have htake := htakes j hj
        rw [ChannelTakes, hsame hne] at htake
        exact htake
    · obtain ⟨hne, hj⟩ := not_or.mp (mt List.mem_cons.mpr hj)
      exact (hothers j hj).trans (hsame hne)

/-! ### Delete Class (R36) -/

/-- The rest of an accepted Delete Class (R36, R17, R14): the records go back to the pool, the layouts are released and the
class is EMPTY. -/
def State.emptied (s : State) (c : Nat) : State :=
  (((s.setPool (s.ru.poolFree + (s.classAt c).roster.length)).release? (s.classAt c).bound).release?
    (s.classAt c).pending).setClass c emptyClass

section DeleteClass

variable (s : State) (from_ : Sender) {c : Nat}

theorem State.deleteClass_badField (hc : 511 < c) : s.deleteClass from_ c = s.refuse from_ .badField := by
  simp [State.deleteClass, hc]

theorem State.deleteClass_notFound (hc : c ≤ 511) (hs : (s.classAt c).state = .empty) :
    s.deleteClass from_ c = s.refuse from_ .notFound := by
  simp [State.deleteClass, not_lt.mpr hc, hs]

theorem State.deleteClass_busy (hc : c ≤ 511) (hs : (s.classAt c).state ≠ .empty) (hf : 0 < (s.classAt c).inFlight) :
    s.deleteClass from_ c = s.refuse from_ .busy := by
  simp [State.deleteClass, not_lt.mpr hc, hs, hf]

theorem State.deleteClass_accepted (hc : c ≤ 511) (hs : (s.classAt c).state ≠ .empty)
    (hf : (s.classAt c).inFlight = 0) :
    s.deleteClass from_ c = (fours.foldl (fun s k => s.removeQueued c k) (s.ok from_ [])).emptied c := by
  have hremoved := Touches.foldl (fun s k => s.touches_removeQueued c k) fours (s.ok from_ [])
  rw [State.deleteClass, if_neg (not_lt.mpr hc), if_neg hs, if_neg hf.not_gt, State.emptied, hremoved.classAt,
    (s.touches_ok from_ []).classAt c]

theorem State.touches_emptied : Touches [.lt, .ru] s (s.emptied c) :=
  ((((s.touches_setPool _).mono.trans (State.touches_release? _ _).mono)).trans (State.touches_release? _ _).mono).trans
    (State.touches_setClass _ _ _).mono

theorem State.emptied_liu : (s.emptied c).liu = s.liu := by simp [State.emptied]

theorem State.poolFree_emptied : (s.emptied c).ru.poolFree = s.ru.poolFree + (s.classAt c).roster.length := by
  simp [State.emptied]

theorem State.classAt_emptied (d : Nat) : (s.emptied c).classAt d = if d = c then emptyClass else s.classAt d := by
  simp [State.emptied, State.classAt_setClass]

theorem State.layout_emptied (m : Nat) :
    (s.emptied c).layout m = { s.layout m with
      bindings := (s.layout m).bindings - (if (s.classAt c).bound = some m then 1 else 0)
        - (if (s.classAt c).pending = some m then 1 else 0) } := by
  simp [State.emptied, State.layout_release?]

end DeleteClass

/-- An accepted Delete Class: the answer, the removal on the four channels, and the class emptied. -/
theorem deleteClass_outcome {port : Port} {c : Nat} (tag : Byte) (hc : c ≤ 511) (hs : (s.classAt c).state ≠ .empty)
    (hf : (s.classAt c).inFlight = 0) :
    let t := (s.arrival port).deleteClass ⟨port, tag, Order.code .deleteClass⟩ c
    AcceptedWith .deleteClass port tag [] (s.deletionFrames c fours) [.lt, .ru, .pch] s t
      ∧ t.classAt c = emptyClass ∧ (∀ d, d ≠ c → t.classAt d = s.classAt d)
      ∧ t.ru.poolFree = s.ru.poolFree + (s.classAt c).roster.length
      ∧ (∀ m, t.layout m = { s.layout m with
          bindings := (s.layout m).bindings - (if (s.classAt c).bound = some m then 1 else 0)
            - (if (s.classAt c).pending = some m then 1 else 0) })
      ∧ (∀ k, ChannelTakes k ((s.channel k).withoutQueued c) s t) ∧ t.pch.lastServed = s.pch.lastServed := by
  intro t
  obtain ⟨u, hu⟩ : ∃ u, u = (s.arrival port).ok ⟨port, tag, Order.code .deleteClass⟩ [] := ⟨_, rfl⟩
  have huclass d : u.classAt d = s.classAt d := by simp [hu]
  have hulayout m : u.layout m = s.layout m := by simp [hu]
  have hupool : u.ru.poolFree = s.ru.poolFree := by simp [hu]
  have huchannel k : u.channel k = s.channel k := by simp [hu]
  have huserved : u.pch.lastServed = s.pch.lastServed := by simp [hu]
  obtain ⟨v, hv⟩ : ∃ v, v = fours.foldl (fun s k => s.removeQueued c k) u := ⟨_, rfl⟩
  have hremoved : Touches [.pch] u v := hv ▸ Touches.foldl (fun s k => s.touches_removeQueued c k) fours u
  have hfours : ∀ k : Fin 4, k ∈ fours := by decide
  have ht : t = v.emptied c := by
    rw [hv, hu]
    exact State.deleteClass_accepted _ _ hc (by simpa using hs) (by simpa using hf)
  obtain ⟨hports, hserved, htakes, -⟩ := State.removeQueued_channels c (by decide : fours.Nodup) u
  rw [← hv] at hports hserved htakes
  have hframes q : u.deletionFrames c fours q = s.deletionFrames c fours q := by
    cases q <;> simp [State.deletionFrames, State.deletionNotices, huchannel]
  have hemptied : Touches [.lt, .ru] v (v.emptied c) := v.touches_emptied
  have hall : Touches [.lt, .ru, .pch] u t := ht ▸ hremoved.mono.trans hemptied.mono
  refine ⟨AcceptedWith.intro (by subst hu; exact (hports.congr (by rw [ht, State.emptied_liu])).sent hframes)
    (by subst hu; exact hall.2), ?_, fun d hd => ?_, ?_, fun m => ?_, fun k => ?_, ?_⟩
  · rw [ht, State.classAt_emptied, if_pos rfl]
  · rw [ht, State.classAt_emptied, if_neg hd, hremoved.classAt, huclass]
  · rw [ht, State.poolFree_emptied, hremoved.ru, hremoved.classAt, hupool, huclass]
  · rw [ht, State.layout_emptied, State.layout_congr _ _ m hremoved.layouts, hremoved.classAt, hulayout, huclass]
  · rw [ht, ChannelTakes, State.channel_congr _ _ k hemptied.pch, htakes k (hfours k), huchannel]
  · rw [ht, hemptied.pch, hserved, huserved]

/-- Settles O23: one clause for each outcome of the order. -/
theorem deleteClassOutcome : Obligations.DeleteClassOutcome := by
  intro s port tag p hadm c r removed
  refine ⟨_, exec_deleteClass hadm tag, fun hc => ?_, fun hc hs => ?_, fun hc hs hf => ?_, fun hc hs hf => ?_⟩
  · rw [State.deleteClass_badField _ _ hc]
    exact Refused.intro _ _ _ _ _
  · rw [State.deleteClass_notFound _ _ hc (by simpa using hs)]
    exact Refused.intro _ _ _ _ _
  · rw [State.deleteClass_busy _ _ hc (by simpa using hs) (by simpa using hf)]
    exact Refused.intro _ _ _ _ _
  · obtain ⟨⟨hports, honly⟩, hrest⟩ := deleteClass_outcome (port := port) tag hc hs hf
    refine ⟨⟨hports.sent fun q => congrArg (onPort port [replyFrame .deleteClass tag .ok []] q ++ ·) ?_, honly⟩, hrest⟩
    cases q with
    | p k => exact if_pos ((by decide : ∀ k : Fin 4, k ∈ fours) k)
    | _ => rfl

end Sys2Proof.Machine
end

section
/-! PROOFS. The planner's turn and the start step (O35): which channel is eligible, when the step is due, and what it does with
the candidate. -/

set_option Elab.async false

namespace Sys2Proof.Machine

variable {s t u : State} {k : Fin 4}

/-! ### Eligibility (R32, R89) -/

theorem Job.queued_iff {j : Job} : j.queued = true ↔ j.stage = .queued := by
  cases hs : j.stage <;> simp [Job.queued, hs]

theorem Job.isSome_renderingPlan? {j : Job} : (Job.renderingPlan? j).isSome = true ↔ ∃ p, j.stage = .rendering p := by
  cases hs : j.stage <;> simp [Job.renderingPlan?, hs]

/-- A job that the planner has not begun, or has handed over to the engine. -/
theorem Job.notInPlan_iff {j : Job} :
    (j.queued || (Job.renderingPlan? j).isSome) = true ↔ (∀ p, j.stage ≠ .planning p) ∧ ∀ p, j.stage ≠ .planned p := by
  cases hs : j.stage <;> simp [Job.queued, Job.renderingPlan?, hs]

theorem State.mayPlan_iff {n : Nat} :
    s.mayPlan n = true ↔ (s.classAt n).state ≠ .empty ∧ (s.classAt n).pending = none := by
  simp [State.mayPlan]

theorem State.eligible_iff :
    s.eligible k = true ↔ (s.channel k).enabled = true
      ∧ (∀ j ∈ (s.channel k).jobs, (j.queued || (Job.renderingPlan? j).isSome) = true) ∧ s.gs.window = .closed
      ∧ ∃ j, (s.channel k).candidate = some j ∧ s.mayPlan j.classNo = true := by
  simp only [State.eligible, Bool.and_eq_true, List.all_eq_true, decide_eq_true_eq, and_assoc]
  cases hc : (s.channel k).candidate with
  | none => simp
  | some j => simp

/-- The candidate stands behind RENDERING jobs alone. -/
theorem Channel.candidate_eq_some_iff {c : Channel} {j : Job} :
    c.candidate = some j ↔
      ∃ a b, c.jobs = a ++ j :: b ∧ (∀ x ∈ a, (Job.renderingPlan? x).isSome = true) ∧ j.stage = .queued := by
  rw [Channel.candidate, Option.filter_eq_some_iff, firstNotRendering, List.find?_eq_some_iff_append]
  constructor
  · rintro ⟨⟨-, a, b, hjobs, ha⟩, hq⟩
    exact ⟨a, b, hjobs, fun x hx => by simpa using ha x hx, Job.queued_iff.mp hq⟩
  · rintro ⟨a, b, hjobs, ha, hq⟩
    exact ⟨⟨by simp [Job.renderingPlan?, hq], a, b, hjobs, fun x hx => by simpa using ha x hx⟩, Job.queued_iff.mpr hq⟩

/-- A candidate's class has no rebind pending. -/
theorem State.pending_of_eligible {j : Job} (h : s.eligible k = true) (hc : (s.channel k).candidate = some j) :
    (s.classAt j.classNo).pending = none := by
  obtain ⟨-, -, -, i, hi, hmay⟩ := State.eligible_iff.mp h
  obtain rfl : i = j := Option.some.inj (hi.symm.trans hc)
  exact (State.mayPlan_iff.mp hmay).2

/-! ### The planner's turn (R90) -/

theorem rotation_eq (last : Fin 4) : rotation last = fours.map (fun m => last + 1 + m) := by
  revert last; decide

/-- With the planner busy, or no channel eligible, it is no channel's turn. -/
theorem State.planningTurn_none (h : s.pln.planning ≠ none ∨ ∀ k, s.eligible k = false) : s.planningTurn = none := by
  unfold State.planningTurn
  cases hp : s.pln.planning with
  | some k => rfl
  | none =>
    refine List.find?_eq_none.mpr fun k _ => ?_
    simp [h.resolve_left (not_not.mpr hp) k]

/-- It is the turn of the first eligible channel in rotation. -/
theorem State.planningTurn_some {n : Fin 4} (hp : s.pln.planning = none)
    (he : s.eligible (s.pln.lastServed + 1 + n) = true)
    (hfirst : ∀ m : Fin 4, m < n → s.eligible (s.pln.lastServed + 1 + m) = false) :
    s.planningTurn = some (s.pln.lastServed + 1 + n) := by
  have hsplit : fours = fours.take n ++ n :: fours.drop (n + 1) :=
    (by decide : ∀ n : Fin 4, fours = fours.take n ++ n :: fours.drop (n + 1)) n
  have hbefore : ∀ m ∈ fours.take n, m < n := (by decide : ∀ n : Fin 4, ∀ m ∈ fours.take n, m < n) n
  have hturn : s.planningTurn = (rotation s.pln.lastServed).find? s.eligible := by simp only [State.planningTurn, hp]
  rw [hturn, rotation_eq, List.find?_map, hsplit, List.find?_append, List.find?_eq_none.mpr, List.find?_cons_of_pos]
  · rfl
  · exact he
  · intro m hm
    simp [hfirst m (hbefore m hm)]

/-! ### The candidate in its list -/

theorem replaceFirst_append {test : Job → Bool} {a b : List Job} {j new : Job} (ha : ∀ x ∈ a, test x = false)
    (hj : test j = true) : replaceFirst test new (a ++ j :: b) = a ++ new :: b := by
  induction a with
  | nil => simp [replaceFirst, hj]
  | cons x a ih =>
    obtain ⟨hx, ha⟩ := List.forall_mem_cons.mp ha
    simp [replaceFirst, hx, ih ha]

theorem removeFirst_append {test : Job → Bool} {a b : List Job} {j : Job} (ha : ∀ x ∈ a, test x = false)
    (hj : test j = true) : removeFirst test (a ++ j :: b) = a ++ b := by
  induction a with
  | nil => simp [removeFirst, hj]
  | cons x a ih =>
    obtain ⟨hx, ha⟩ := List.forall_mem_cons.mp ha
    simp [removeFirst, hx, ih ha]

theorem Job.queued_of_rendering {j : Job} (h : (Job.renderingPlan? j).isSome = true) : j.queued = false := by
  obtain ⟨p, hp⟩ := Job.isSome_renderingPlan?.mp h
  simp [Job.queued, hp]

/-! ### One channel's record (R149, R167) -/

theorem State.channelTakes_putChannel (s : State) (k : Fin 4) (c : Channel) : ChannelTakes k c s (s.putChannel k c) := by
  rw [ChannelTakes, State.channel_putChannel, if_pos rfl]

theorem State.othersSame_putChannel (s : State) (k : Fin 4) (c : Channel) : OthersSame k s (s.putChannel k c) :=
  ⟨fun j hj => by rw [State.channel_putChannel, if_neg hj], rfl⟩

theorem OthersSame.of_pch (h : t.pch = s.pch) : OthersSame k s t :=
  ⟨fun j _ => State.channel_congr _ _ j h, by rw [h]⟩

theorem OthersSame.trans (h : OthersSame k s t) (h2 : OthersSame k t u) : OthersSame k s u := by
  obtain ⟨hothers, hserved⟩ := h
  obtain ⟨hothers2, hserved2⟩ := h2
  exact ⟨fun j hj => (hothers2 j hj).trans (hothers j hj), hserved2.trans hserved⟩

theorem settleTimer_of_wait {c c' : Channel} {w : PressWait} (hw : c'.pressWait = some w) :
    settleTimer c c' =
      if c'.stallWindow = 0 then none
      else if c.pressWait = some w then c.stallTimer else some (c'.stallWindow * 1000) := by
  simp only [settleTimer, hw]

theorem settleTimer_of_no_wait {c c' : Channel} (hw : c'.pressWait = none) : settleTimer c c' = none := by
  simp only [settleTimer, hw]

/-- Two settlements of the stall timer make one when one of the two changes leaves the wait on the press as it is: `now` is
the record `c'` with its timer settled. -/
theorem settleTimer_settled {c c' now c'' : Channel} (hwindow : c'.stallWindow = c''.stallWindow)
    (hsame : c'.pressWait = c.pressWait ∨ c''.pressWait = c'.pressWait) (hnow : now.pressWait = c'.pressWait)
    (htimer : now.stallTimer = settleTimer c c') : settleTimer now c'' = settleTimer c c'' := by
  cases hw : c''.pressWait with
  | none => rw [settleTimer_of_no_wait hw, settleTimer_of_no_wait hw]
  | some w =>
    rw [settleTimer_of_wait hw, settleTimer_of_wait hw, hnow, htimer]
    by_cases hz : c''.stallWindow = 0
    · rw [if_pos hz, if_pos hz]
    by_cases hw' : c'.pressWait = some w
    · rw [if_neg hz, if_neg hz, if_pos hw', settleTimer_of_wait hw', hwindow, if_neg hz]
    · have hc : c.pressWait ≠ some w := by
        rcases hsame with h | h
        · rwa [← h]
        · exact absurd (h.symm.trans hw) hw'
      rw [if_neg hz, if_neg hz, if_neg hw', if_neg hc]

/-- A channel that takes one record and then another takes the other, its stall timer settled once. -/
theorem ChannelTakes.trans {c' c'' : Channel} (h : ChannelTakes k c' s t) (h2 : ChannelTakes k c'' t u)
    (hwindow : c'.stallWindow = c''.stallWindow)
    (hsame : c'.pressWait = (s.channel k).pressWait ∨ c''.pressWait = c'.pressWait) : ChannelTakes k c'' s u := by
  have htimer : (t.channel k).stallTimer = settleTimer (s.channel k) c' := by rw [h]
  have hnow : (t.channel k).pressWait = c'.pressWait := by rw [h]; rfl
  rw [ChannelTakes, h2, settleTimer_settled hwindow hsame hnow htimer]

/-! ### What a plan takes at its start (R18, R97, R133) -/

/-- Handles pinned one after the other, none twice: each has one pin more. -/
theorem State.entry_pins {handles : List Nat} (hnodup : handles.Nodup) (s : State) (h : Nat) :
    (handles.foldl State.pin s).entry h = { s.entry h with
      pins := (s.entry h).pins + (if h ∈ handles then 1 else 0) } := by
  induction handles generalizing s with
  | nil => rfl
  | cons g rest ih =>
    obtain ⟨hg, hrest⟩ := List.nodup_cons.mp hnodup
    rw [List.foldl_cons, ih hrest, State.pin, State.entry_setEntry]
    by_cases hgh : h = g
    · subst hgh; simp [hg]
    · simp [hgh]

section Taken

variable (s : State) (p : Snapshot)

theorem State.touches_pins (handles : List Nat) : Touches [.pdir] s (handles.foldl State.pin s) :=
  Touches.foldl (fun s h => s.touches_setEntry h _) _ _

theorem State.pins_liu (handles : List Nat) : (handles.foldl State.pin s).liu = s.liu := by
  induction handles generalizing s with
  | nil => rfl
  | cons h rest ih => exact ih _

theorem State.taken_liu : (s.taken p).liu = s.liu := s.pins_liu p.handles

theorem State.entry_taken (hnodup : p.handles.Nodup) (h : Nat) :
    (s.taken p).entry h = { s.entry h with pins := (s.entry h).pins + (if h ∈ p.handles then 1 else 0) } :=
  State.entry_pins hnodup s h

theorem State.classAt_taken (m : Nat) :
    (s.taken p).classAt m = { s.classAt m with
      inFlight := (s.classAt m).inFlight + (if m = p.classNo then 1 else 0) } := by
  rw [State.taken, State.classAt_raisePages, State.raiseInFlight, State.classAt_setClass, (s.touches_pins _).classAt,
    (s.touches_pins _).classAt]
  split
  · next hm => rw [hm]
  · rfl

theorem State.poolFree_taken : (s.taken p).ru.poolFree = s.ru.poolFree := by
  have hpins := (s.touches_pins p.handles).ru
  rw [State.taken, State.raisePages_ru, State.raiseInFlight, State.poolFree_setClass, hpins]

theorem State.gs_taken : (s.taken p).gs = { s.gs with inFlight := s.gs.inFlight + 1 } := by
  have hpins := (s.touches_pins p.handles).gs
  rw [State.taken, State.raisePages, State.raiseInFlight, State.setClass_gs, hpins]

end Taken

/-! ### A page beyond the last enters flight and leaves it (R96) -/

/-- The fall of the count of a class with no rebind pending evaluates nothing (R31). -/
theorem State.lowerInFlight_settled (s : State) {c : Nat} (hp : (s.classAt c).pending = none) :
    s.lowerInFlight c = s.setClass c { s.classAt c with inFlight := (s.classAt c).inFlight - 1 } := by
  have hstays {t : State} (ht : (t.classAt c).pending = none) : t.evalSwitch c = t := by simp only [State.evalSwitch, ht]
  unfold State.lowerInFlight
  simp only
  split
  · exact hstays (by rw [State.classAt_setClass, if_pos rfl, hp])
  · rfl

theorem State.lowerPages_closed (s : State) (hw : s.gs.window = .closed) :
    s.lowerPages = { s with gs := { s.gs with inFlight := s.gs.inFlight - 1 } } := by
  simp [State.lowerPages, hw]

/-- With no rebind pending and the glyph window closed, raising the counts and lowering them writes the class's own record
back. -/
theorem State.raised_lowered (s : State) {c : Nat} (hp : (s.classAt c).pending = none) (hw : s.gs.window = .closed) :
    ((s.raiseInFlight c).raisePages.lowerInFlight c).lowerPages = (s.raiseInFlight c).setClass c (s.classAt c) := by
  have hraised : (s.raiseInFlight c).raisePages.classAt c =
      { s.classAt c with inFlight := (s.classAt c).inFlight + 1 } := by
    rw [State.classAt_raisePages, State.raiseInFlight, State.classAt_setClass, if_pos rfl]
  rw [State.lowerInFlight_settled _ (by rw [hraised, hp]), hraised, State.lowerPages_closed _ (by exact hw)]
  rfl

theorem State.classAt_raised_written (s : State) (c m : Nat) :
    ((s.raiseInFlight c).setClass c (s.classAt c)).classAt m = s.classAt m := by
  rw [State.classAt_setClass, State.raiseInFlight, State.classAt_setClass]
  split
  · next hm => rw [hm]
  · rfl

/-- The EMPTY_PAGE end: the job leaves the list, the page end is sent and kept, and every class is as it was. -/
theorem State.endEmptyPage_outcome (s : State) (k : Fin 4) (p : Snapshot) (hp : (s.classAt p.classNo).pending = none)
    (hw : s.gs.window = .closed) :
    let d : PageDone :=
      { channel := k, seq := p.seq, classNo := p.classNo, page := p.page, result := .emptyPage, copies := p.copies,
        completed := 0, bands := 0, cut := false, counts := noFlags }
    let c := { s.channel k with jobs := removeFirst Job.queued (s.channel k).jobs }
    let t := s.endEmptyPage k p
    Touches [.ru, .pch] s t ∧ PortsGain none (onPort (.p k) [noticeFrame .pageDone (bytesPageDone d)]) s t
      ∧ ChannelTakes k { c with lastPage := some d } s t ∧ OthersSame k s t
      ∧ (∀ m, t.classAt m = s.classAt m) ∧ t.ru.poolFree = s.ru.poolFree := by
  intro d c t
  obtain ⟨u, hu⟩ : ∃ u, u = s.putChannel k c := ⟨_, rfl⟩
  obtain ⟨v, hv⟩ : ∃ v, v = (u.raiseInFlight p.classNo).setClass p.classNo (u.classAt p.classNo) := ⟨_, rfl⟩
  have hremoved : Touches [.pch] s u := hu ▸ s.touches_putChannel k c
  have hcounted : Touches [.ru] u v :=
    hv ▸ (u.touches_setClass p.classNo _).trans (State.touches_setClass _ p.classNo _)
  have ht : t = (v.send (.p k) (noticeFrame .pageDone (bytesPageDone d))).putChannel k
      { v.channel k with lastPage := some d } := by
    rw [hv, ← State.raised_lowered u (by rwa [hremoved.classAt]) (by rw [hremoved.gs, hw]), hu]
    rfl
  have hchannel j : v.channel j = u.channel j := State.channel_congr _ _ j hcounted.pch
  have hfirst : ChannelTakes k c s v := (hchannel k).trans (hu ▸ s.channelTakes_putChannel k c)
  refine ⟨?_, ?_, ?_, ?_, fun m => ?_, ?_⟩
  · rw [ht]
    exact ((hremoved.mono.trans hcounted.mono).trans (State.touches_send _ _ _).mono).trans
      (State.touches_putChannel _ _ _).mono
  · have hliu : v.liu = s.liu := by rw [hv, hu]; rfl
    rw [ht]
    exact (((PortsGain.of_liu hliu).send (.p k) _).sent fun q => by simp [andThen]).congr rfl
  · have hlast := (v.send (.p k) (noticeFrame .pageDone (bytesPageDone d))).channelTakes_putChannel k
      { v.channel k with lastPage := some d }
    rw [← ht, hfirst] at hlast
    have hsent : ChannelTakes k c s (v.send (.p k) (noticeFrame .pageDone (bytesPageDone d))) :=
      (State.channel_send _ _ _ k).trans hfirst
    exact hsent.trans hlast rfl (.inr rfl)
  · rw [ht]
    refine (((hu ▸ s.othersSame_putChannel k c : OthersSame k s u).trans (OthersSame.of_pch hcounted.pch)).trans
      (OthersSame.of_pch (State.send_pch _ _ _))).trans (State.othersSame_putChannel _ k _)
  · rw [ht, State.classAt_congr _ _ m (State.touches_putChannel _ _ _).ru, State.classAt_send, hv,
      State.classAt_raised_written, hremoved.classAt]
  · rw [ht, (State.touches_putChannel _ _ _).ru, State.send_ru, hv, State.poolFree_setClass, State.raiseInFlight,
      State.poolFree_setClass, hremoved.ru]

/-! ### The start step (R92, R93, R96) -/

theorem Touches.pln {blocks : List Block} (h : Touches blocks s t) (hp : .pln ∉ blocks := by decide) : t.pln = s.pln := by
  obtain ⟨-, -, -, -, hsame⟩ := h
  exact hsame .pln (by simpa using hp)

/-- An operation that sends nothing leaves the LIU out of what it changes. -/
theorem Touches.only {blocks : List Block} (h : Touches blocks s t) (hl : t.liu = s.liu) : OnlyChanges blocks s t := by
  obtain ⟨-, hphase, hclock, hpending, hsame⟩ := h
  refine ⟨hphase, hclock, hpending, fun b hb => ?_⟩
  by_cases hliu : b = .liu
  · exact hliu ▸ hl
  · exact hsame b (by simp [hliu, hb])

theorem State.pln_numbered (s : State) (k : Fin 4) : (s.numbered k).pln = { planning := s.pln.planning, lastServed := k } := rfl

theorem State.channelTakes_numbered (s : State) (k : Fin 4) :
    ChannelTakes k { s.channel k with nextSeq := ((s.channel k).nextSeq + 1) % 65536 } s (s.numbered k) := by
  rw [ChannelTakes, State.channel_numbered, if_pos rfl]

theorem State.othersSame_numbered (s : State) (k : Fin 4) : OthersSame k s (s.numbered k) :=
  ⟨fun j hj => by rw [State.channel_numbered, if_neg hj], rfl⟩

theorem State.pln_begun (s : State) (k : Fin 4) (j : Job) (p : Snapshot) :
    (s.begun k j p).pln = { s.pln with planning := some k } := rfl

theorem State.channelTakes_begun (s : State) (k : Fin 4) (j : Job) (p : Snapshot) :
    ChannelTakes k { s.channel k with
      jobs := replaceFirst Job.queued { j with stage := .planning p } (s.channel k).jobs } s (s.begun k j p) :=
  s.channelTakes_putChannel k _

theorem State.othersSame_begun (s : State) (k : Fin 4) (j : Job) (p : Snapshot) : OthersSame k s (s.begun k j p) :=
  s.othersSame_putChannel k _

section Candidate

variable (s : State) (k : Fin 4) {a b : List Job} {j : Job} (hjobs : (s.channel k).jobs = a ++ j :: b)
  (ha : ∀ x ∈ a, (Job.renderingPlan? x).isSome = true) (hq : j.stage = .queued)

include hjobs ha hq

/-- The page begins: its job enters PLANNING, and what the plan takes is counted. -/
theorem State.begun_outcome (p : Snapshot) (hnodup : p.handles.Nodup) :
    let t := ((s.numbered k).taken p).begun k j p
    OnlyChanges [.pdir, .ru, .gs, .pln, .pch] s t ∧ t.pln = { planning := some k, lastServed := k }
      ∧ ChannelTakes k { s.channel k with
          nextSeq := ((s.channel k).nextSeq + 1) % 65536, jobs := a ++ { j with stage := .planning p } :: b } s t
      ∧ OthersSame k s t
      ∧ (∀ h, t.entry h = { s.entry h with pins := (s.entry h).pins + (if h ∈ p.handles then 1 else 0) })
      ∧ (∀ m, t.classAt m = { s.classAt m with inFlight := (s.classAt m).inFlight + (if m = p.classNo then 1 else 0) })
      ∧ t.ru.poolFree = s.ru.poolFree ∧ t.gs = { s.gs with inFlight := s.gs.inFlight + 1 } := by
  intro t
  have hnumbered := s.touches_numbered k
  have htaken := (s.numbered k).touches_taken p
  have hbegun := ((s.numbered k).taken p).touches_begun k j p
  have hall : Touches [.pdir, .ru, .gs, .pln, .pch] s t := (hnumbered.mono.trans htaken.mono).trans hbegun.mono
  refine ⟨hall.only (((s.numbered k).taken_liu p).trans rfl), ?_, ?_, ?_, fun h => ?_, fun m => ?_, ?_, ?_⟩
  · rw [State.pln_begun, htaken.pln, State.pln_numbered]
  · have hfirst : ChannelTakes k { s.channel k with nextSeq := ((s.channel k).nextSeq + 1) % 65536 } s
        ((s.numbered k).taken p) := (State.channel_congr _ _ k htaken.pch).trans (s.channelTakes_numbered k)
    have hsecond := ((s.numbered k).taken p).channelTakes_begun k j p
    rw [hfirst] at hsecond
    rw [← replaceFirst_append (test := Job.queued) (fun x hx => Job.queued_of_rendering (ha x hx))
      (Job.queued_iff.mpr hq), ← hjobs]
    exact hfirst.trans hsecond rfl (.inl rfl)
  · exact ((s.othersSame_numbered k).trans (OthersSame.of_pch htaken.pch)).trans (State.othersSame_begun _ k j p)
  · rw [hbegun.entry, State.entry_taken _ _ hnodup, hnumbered.entry]
  · rw [hbegun.classAt, State.classAt_taken, hnumbered.classAt]
  · rw [hbegun.ru, State.poolFree_taken, hnumbered.ru]
  · rw [hbegun.gs, State.gs_taken, hnumbered.gs]

/-- The page is beyond the last: its job leaves the list, and what the plan takes is given back at once. -/
theorem State.emptyPage_outcome (p : Snapshot) (hfree : s.pln.planning = none)
    (hp : (s.classAt p.classNo).pending = none) (hw : s.gs.window = .closed) :
    let d : PageDone :=
      { channel := k, seq := p.seq, classNo := p.classNo, page := p.page, result := .emptyPage, copies := p.copies,
        completed := 0, bands := 0, cut := false, counts := noFlags }
    let t := (s.numbered k).endEmptyPage k p
    OnlyChanges [.liu, .ru, .pln, .pch] s t ∧ t.pln = { planning := none, lastServed := k }
      ∧ PortsGain none (onPort (.p k) [noticeFrame .pageDone (bytesPageDone d)]) s t
      ∧ ChannelTakes k { s.channel k with
          nextSeq := ((s.channel k).nextSeq + 1) % 65536, jobs := a ++ b, lastPage := some d } s t
      ∧ OthersSame k s t ∧ (∀ m, t.classAt m = s.classAt m) ∧ t.ru.poolFree = s.ru.poolFree := by
  intro d t
  have hnumbered := s.touches_numbered k
  obtain ⟨htouches, hports, htakes, hothers, hclasses, hpool⟩ :=
    (s.numbered k).endEmptyPage_outcome k p (by rwa [hnumbered.classAt]) (by rwa [hnumbered.gs])
  have hall : Touches [.ru, .pln, .pch] s t := hnumbered.mono.trans htouches.mono
  have hfirst := s.channelTakes_numbered k
  refine ⟨hall.2, ?_, fun q => hports q, ?_, (s.othersSame_numbered k).trans hothers, fun m => ?_, ?_⟩
  · rw [htouches.pln, State.pln_numbered, hfree]
  · rw [hfirst] at htakes
    rw [← removeFirst_append (test := Job.queued) (fun x hx => Job.queued_of_rendering (ha x hx))
      (Job.queued_iff.mpr hq), ← hjobs]
    exact hfirst.trans htakes rfl (.inl rfl)
  · rw [hclasses, hnumbered.classAt]
  · rw [hpool, hnumbered.ru]

end Candidate

theorem exec_planningStartStep (s : State) : exec .planningStartStep s = execPlanningStartStep s := rfl

/-- Settles O35: who is eligible, when the step is not due, and the two outcomes for the channel whose turn it is. -/
theorem startStepOutcome : Obligations.StartStepOutcome := by
  refine ⟨fun s k => ?_, fun s => ⟨fun h => ?_, ?_⟩⟩
  · simp only [State.eligible_iff, Job.notInPlan_iff, Channel.candidate_eq_some_iff, Job.isSome_renderingPlan?,
      State.mayPlan_iff]
    constructor
    · rintro ⟨hon, hplan, hw, j, ⟨a, b, hjobs, ha, hq⟩, hs, hp⟩
      exact ⟨hon, hw, hplan, a, j, b, hjobs, ha, hq, hs, hp⟩
    · rintro ⟨hon, hw, hplan, a, j, b, hjobs, ha, hq, hs, hp⟩
      exact ⟨hon, hplan, hw, j, ⟨a, b, hjobs, ha, hq⟩, hs, hp⟩
  · simp only [exec_planningStartStep, execPlanningStartStep, State.planningTurn_none h]
  · intro n a b j layoutNo f k c hfree he hfirst hjobs ha hq hbound hfields p pages d
    have hcandidate : c.candidate = some j := Channel.candidate_eq_some_iff.mpr ⟨a, b, hjobs, ha, hq⟩
    have hlayout : s.boundLayout j.classNo = some (layoutNo, f) := by simp [State.boundLayout, hbound, hfields]
    have hexec : exec .planningStartStep s = .next (s.startStep k) := by
      simp only [exec_planningStartStep, execPlanningStartStep, State.planningTurn_some hfree he hfirst, k]
    have hstart : s.startStep k =
        if pages ≤ j.page then (s.numbered k).endEmptyPage k p else ((s.numbered k).taken p).begun k j p :=
      State.startStep_eq hcandidate hlayout
    refine ⟨_, hexec, fun hbelow => ?_, fun hbeyond => ?_⟩
    · rw [hstart, if_neg (not_le.mpr hbelow)]
      exact s.begun_outcome k hjobs ha hq p (s.nodup_handles_snapshot k j layoutNo f)
    · rw [hstart, if_pos hbeyond]
      exact s.emptyPage_outcome k hjobs ha hq p hfree (State.pending_of_eligible he hcandidate)
        (State.window_of_eligible he)

end Sys2Proof.Machine
end

section
/-! PROOFS. The Store Controller's chains and its allocation: the lowest FREE cluster (O27), and what freeing and relabelling do
to the Cluster Map and its counts (O28). -/

set_option Elab.async false

namespace Sys2Proof.Machine

variable {s t : State}

/-! ### Allocation (R50) -/

theorem firstFree_eq_some_iff {map : Table ClusterEntry} {count start c : Nat} :
    firstFree map count start = some c ↔
      start ≤ c ∧ c < start + count ∧ Table.get .free map c = .free
        ∧ ∀ d, start ≤ d → d < c → Table.get .free map d ≠ .free := by
  induction count generalizing start with
  | zero => simp [firstFree]; omega
  | succ n ih =>
    unfold firstFree
    split
    · next hfree =>
      constructor
      · rintro h
        obtain rfl := Option.some.inj h
        exact ⟨le_rfl, by omega, hfree, fun d hd hlt => absurd hd (not_le.mpr hlt)⟩
      · rintro ⟨hle, -, -, hbefore⟩
        by_contra hne
        exact hbefore start le_rfl (lt_of_le_of_ne hle fun h => hne (congrArg some h)) hfree
    · next hheld =>
      rw [ih]
      constructor
      · rintro ⟨hle, hlt, hfree, hbefore⟩
        refine ⟨by omega, by omega, hfree, fun d hd hdc => ?_⟩
        rcases Nat.eq_or_lt_of_le hd with rfl | hd
        · exact hheld
        · exact hbefore d hd hdc
      · rintro ⟨hle, hlt, hfree, hbefore⟩
        have hne : start ≠ c := fun h => hheld (h ▸ hfree)
        exact ⟨by omega, by omega, hfree, fun d hd => hbefore d (by omega)⟩

theorem firstFree_eq_none_iff {map : Table ClusterEntry} {count start : Nat} :
    firstFree map count start = none ↔ ∀ d, start ≤ d → d < start + count → Table.get .free map d ≠ .free := by
  induction count generalizing start with
  | zero => simp [firstFree]; omega
  | succ n ih =>
    unfold firstFree
    split
    · next hfree => simpa using ⟨start, le_rfl, by omega, hfree⟩
    · next hheld =>
      rw [ih]
      refine ⟨fun h d hd hlt => ?_, fun h d hd hlt => h d (by omega) (by omega)⟩
      rcases Nat.eq_or_lt_of_le hd with rfl | hd
      · exact hheld
      · exact h d hd (by omega)

/-- The two searches of an allocation: from the cursor up, and if that finds none, from 0 up to the cursor. -/
theorem State.nextFree_eq_some_iff {c : Nat} :
    s.nextFree = some c ↔
      firstFree s.sc.map (Config.clusters - s.sc.cursor) s.sc.cursor = some c
        ∨ firstFree s.sc.map (Config.clusters - s.sc.cursor) s.sc.cursor = none
          ∧ firstFree s.sc.map s.sc.cursor 0 = some c := by
  unfold State.nextFree
  split <;> simp_all

theorem State.nextFree_eq_none_iff :
    s.nextFree = none ↔
      firstFree s.sc.map (Config.clusters - s.sc.cursor) s.sc.cursor = none
        ∧ firstFree s.sc.map s.sc.cursor 0 = none := by
  unfold State.nextFree
  split <;> simp_all

/-- Settles O27: by the two searches, with the cursor within the store. -/
theorem allocationTakesNextFree : Obligations.AllocationTakesNextFree := by
  intro s hcursor
  have hspan : s.sc.cursor + (Config.clusters - s.sc.cursor) = 131072 := by simp only [Config.clusters]; omega
  refine ⟨fun c => ?_, ?_⟩
  · rw [State.nextFree_eq_some_iff, firstFree_eq_some_iff, firstFree_eq_none_iff, firstFree_eq_some_iff, hspan,
      Nat.zero_add]
    constructor
    · rintro (⟨hle, hlt, hfree, hbefore⟩ | ⟨hnone, -, hlt, hfree, hbefore⟩)
      · exact ⟨hlt, hfree, .inl ⟨hle, hbefore⟩⟩
      · exact ⟨by omega, hfree, .inr ⟨hlt, hnone, fun d => hbefore d (Nat.zero_le d)⟩⟩
    · rintro ⟨hlt, hfree, ⟨hle, hbefore⟩ | ⟨hlow, hnone, hbefore⟩⟩
      · exact .inl ⟨hle, hlt, hfree, hbefore⟩
      · exact .inr ⟨hnone, Nat.zero_le c, hlow, hfree, fun d _ => hbefore d⟩
  · rw [State.nextFree_eq_none_iff, firstFree_eq_none_iff, firstFree_eq_none_iff, hspan, Nat.zero_add]
    constructor
    · rintro ⟨hupper, hlower⟩ c hc
      rcases Nat.lt_or_ge c s.sc.cursor with h | h
      · exact hlower c (Nat.zero_le c) h
      · exact hupper c h hc
    · exact fun h => ⟨fun d _ => h d, fun d _ hd => h d (by omega)⟩

/-! ### Chains (R43) -/

/-- Where an entry leads in its chain: to another cluster, to no other, or nowhere when it is in no chain. -/
def ClusterEntry.link : ClusterEntry → Option (Option Nat)
  | .linked next _ _ => some (some next)
  | .last _ _ => some none
  | .free | .retired => none

/-- A chain is read by the links of its clusters alone. -/
theorem chainFrom_congr {map map' : Table ClusterEntry}
    (h : ∀ c, (Table.get .free map' c).link = (Table.get .free map c).link) (fuel first : Nat) :
    chainFrom map' fuel first = chainFrom map fuel first := by
  induction fuel generalizing first with
  | zero => rfl
  | succ n ih =>
    have hfirst := h first
    unfold chainFrom
    cases he : Table.get .free map first <;> cases he' : Table.get .free map' first <;>
      simp_all [ClusterEntry.link]

theorem State.chain_congr (h : ∀ c, (t.cluster c).link = (s.cluster c).link) (first : Nat) :
    t.chain first = s.chain first := chainFrom_congr h _ first

/-- A chain passes chained clusters only. -/
theorem owner?_of_mem_chainFrom {map : Table ClusterEntry} {fuel first c : Nat} (h : c ∈ chainFrom map fuel first) :
    (Table.get .free map c).owner?.isSome = true := by
  induction fuel generalizing first with
  | zero => simp [chainFrom] at h
  | succ n ih =>
    unfold chainFrom at h
    split at h
    · next he =>
      rcases List.mem_cons.mp h with rfl | h
      · simp [he, ClusterEntry.owner?]
      · exact ih h
    · next he =>
      obtain rfl := List.mem_singleton.mp h
      simp [he, ClusterEntry.owner?]
    · simp at h
    · simp at h

theorem State.owner?_of_mem_chain {first c : Nat} (h : c ∈ s.chain first) : (s.cluster c).owner?.isSome = true :=
  owner?_of_mem_chainFrom h

theorem ClusterEntry.owner?_isSome_iff {e : ClusterEntry} :
    e.owner?.isSome = true ↔ e ≠ .free ∧ e ≠ .retired := by
  cases e <;> simp [ClusterEntry.owner?]

/-! ### A chain freed (R48) -/

/-- What a freed cluster becomes: RETIRED with a suspect mark, else FREE. -/
def ClusterEntry.freed (e : ClusterEntry) : ClusterEntry := if e.suspect then .retired else .free

/-- A chained cluster that is freed: the Cluster Map and one of the two counts change. -/
theorem State.freeCluster_chained {c : Nat} (h : (s.cluster c).owner?.isSome = true) :
    s.freeCluster c = { s with sc := { s.sc with
      map := Table.set .free s.sc.map c (s.cluster c).freed
      freeCount := s.sc.freeCount + (if (s.cluster c).suspect then 0 else 1)
      retiredCount := s.sc.retiredCount + (if (s.cluster c).suspect then 1 else 0) } } := by
  obtain ⟨hfree, hretired⟩ := ClusterEntry.owner?_isSome_iff.mp h
  unfold State.freeCluster
  rw [if_neg (not_or.mpr ⟨hfree, hretired⟩)]
  cases hm : (s.cluster c).suspect <;> simp [State.setCluster, ClusterEntry.freed, hm]

theorem State.freeCluster_unchained {c : Nat} (h : (s.cluster c).owner?.isSome = false) : s.freeCluster c = s := by
  unfold State.freeCluster
  rw [← Bool.not_eq_true, ClusterEntry.owner?_isSome_iff] at h
  exact if_pos (by tauto)

theorem State.cluster_freeCluster {c : Nat} (h : (s.cluster c).owner?.isSome = true) (d : Nat) :
    (s.freeCluster c).cluster d = if d = c then (s.cluster c).freed else s.cluster d := by
  rw [State.freeCluster_chained h]
  exact Table.get_set _ _ _ _ _

/-- Chained clusters freed one after the other, none twice: each becomes what it is freed to, and the counts say how many
were freed to FREE and to RETIRED. -/
theorem State.freeClusters_outcome {l : List Nat} (hnd : l.Nodup) (h : ∀ c ∈ l, (s.cluster c).owner?.isSome = true) :
    let t := l.foldl State.freeCluster s
    (∀ c, t.cluster c = if c ∈ l then (s.cluster c).freed else s.cluster c)
      ∧ t.sc = { s.sc with
          map := t.sc.map
          freeCount := s.sc.freeCount + (l.filter (fun c => !(s.cluster c).suspect)).length
          retiredCount := s.sc.retiredCount + (l.filter (fun c => (s.cluster c).suspect)).length } := by
  induction l generalizing s with
  | nil => exact ⟨fun c => by simp, rfl⟩
  | cons c rest ih =>
    obtain ⟨hc, hrest⟩ := List.nodup_cons.mp hnd
    have hchained := h c List.mem_cons_self
    have hsame {d : Nat} (hd : d ∈ rest) : (s.freeCluster c).cluster d = s.cluster d := by
      rw [State.cluster_freeCluster hchained, if_neg (ne_of_mem_of_not_mem hd hc)]
    obtain ⟨hclusters, hsc⟩ := ih hrest fun d hd => by
      rw [hsame hd]; exact h d (List.mem_cons_of_mem _ hd)
    refine ⟨fun d => ?_, ?_⟩
    · rw [List.foldl_cons, hclusters, State.cluster_freeCluster hchained]
      by_cases hdc : d = c
      · subst hdc; simp [hc]
      · simp [hdc]
    · have hfilter (p : ClusterEntry → Bool) :
          rest.filter (fun d => p ((s.freeCluster c).cluster d)) = rest.filter (fun d => p (s.cluster d)) :=
        List.filter_congr fun d hd => by rw [hsame hd]
      rw [List.foldl_cons, hsc, hfilter (fun e => !e.suspect), hfilter ClusterEntry.suspect,
        State.freeCluster_chained hchained]
      cases hm : (s.cluster c).suspect <;> simp [hm, Nat.add_assoc, Nat.add_comm]

theorem State.freeChain_outcome {first : Nat} (hnd : (s.chain first).Nodup) :
    let t := s.freeChain first
    (∀ c, t.cluster c = if c ∈ s.chain first then (s.cluster c).freed else s.cluster c)
      ∧ t.sc = { s.sc with
          map := t.sc.map
          freeCount := s.sc.freeCount + ((s.chain first).filter (fun c => !(s.cluster c).suspect)).length
          retiredCount := s.sc.retiredCount + ((s.chain first).filter (fun c => (s.cluster c).suspect)).length } :=
  State.freeClusters_outcome hnd fun _ hc => State.owner?_of_mem_chain hc

/-! ### A chain relabelled (R44) -/

theorem ClusterEntry.link_relabel (e : ClusterEntry) (kind : ChainKind) : (e.relabel kind).link = e.link := by
  cases e <;> rfl

theorem ClusterEntry.relabel_relabel (e : ClusterEntry) (kind : ChainKind) :
    (e.relabel kind).relabel kind = e.relabel kind := by cases e <;> rfl

theorem State.relabelChain_outcome (s : State) (first : Nat) (kind : ChainKind) :
    let t := s.relabelChain first kind
    (∀ c, t.cluster c = if c ∈ s.chain first then (s.cluster c).relabel kind else s.cluster c)
      ∧ t.sc = { s.sc with map := t.sc.map } := by
  unfold State.relabelChain
  generalize s.chain first = l
  induction l generalizing s with
  | nil => exact ⟨fun c => by simp, rfl⟩
  | cons c rest ih =>
    obtain ⟨hclusters, hsc⟩ := ih (s.setCluster c ((s.cluster c).relabel kind))
    refine ⟨fun d => ?_, hsc⟩
    rw [List.foldl_cons, hclusters, State.cluster_setCluster]
    by_cases hd : d = c
    · subst hd; simp [ClusterEntry.relabel_relabel]
    · simp [hd]

theorem State.chain_relabelChain (s : State) (first : Nat) (kind : ChainKind) (other : Nat) :
    (s.relabelChain first kind).chain other = s.chain other := by
  refine State.chain_congr (fun c => ?_) other
  rw [(s.relabelChain_outcome first kind).1]
  split
  · exact ClusterEntry.link_relabel _ _
  · rfl

/-! ### The Store Controller by itself -/

/-- The Store Controller alone takes another value. -/
def ScOnly (s t : State) : Prop := t = { s with sc := t.sc }

theorem ScOnly.trans {u : State} (h : ScOnly s t) (h2 : ScOnly t u) : ScOnly s u := by
  unfold ScOnly at *
  rw [h2, h]

theorem ScOnly.foldl {α : Type} {f : State → α → State} (h : ∀ s a, ScOnly s (f s a)) (l : List α) (s : State) :
    ScOnly s (l.foldl f s) := by
  induction l generalizing s with
  | nil => rfl
  | cons a rest ih => exact (h s a).trans (ih _)

theorem ScOnly.only (h : ScOnly s t) : OnlyChanges [.sc] s t := by
  rw [h]
  exact (s.touches_sc t.sc).only rfl

theorem State.scOnly_freeCluster (s : State) (c : Nat) : ScOnly s (s.freeCluster c) := by
  unfold State.freeCluster
  split
  · rfl
  · split <;> rfl

theorem State.scOnly_freeChain (s : State) (first : Nat) : ScOnly s (s.freeChain first) :=
  ScOnly.foldl (fun s c => s.scOnly_freeCluster c) _ s

theorem State.scOnly_relabelChain (s : State) (first : Nat) (kind : ChainKind) : ScOnly s (s.relabelChain first kind) :=
  ScOnly.foldl (f := fun s c => s.setCluster c ((s.cluster c).relabel kind)) (fun _ _ => rfl) _ s

theorem State.scOnly_freeImage (s : State) (image : Option ImageRecord) : ScOnly s (s.freeImage image) := by
  cases image with
  | none => rfl
  | some r => exact s.scOnly_freeChain r.first

/-- Settles O28: cluster by cluster along the chain. -/
theorem chainsAreFreedAndRelabelledWhole : Obligations.ChainsAreFreedAndRelabelledWhole := by
  intro s first
  refine ⟨fun hnd => ?_, fun kind => ?_⟩
  · obtain ⟨hclusters, hsc⟩ := State.freeChain_outcome hnd
    exact ⟨hclusters, hsc, (s.scOnly_freeChain first).only⟩
  · obtain ⟨hclusters, hsc⟩ := s.relabelChain_outcome first kind
    refine ⟨fun c => ?_, hsc, s.chain_relabelChain first kind first, (s.scOnly_relabelChain first kind).only⟩
    rw [hclusters]
    rfl

/-! ### Freeing reads the Cluster Map alone -/

/-- Freeing and relabelling read the Cluster Map alone, and leave the reservation total as they find it. -/
theorem State.freeCluster_reserved {r : Nat} (h : t.sc = { s.sc with reserved := r }) (c : Nat) :
    (t.freeCluster c).sc = { (s.freeCluster c).sc with reserved := r } := by
  have hc : t.cluster c = s.cluster c := by simp [State.cluster, h]
  cases ho : (s.cluster c).owner?.isSome with
  | true => rw [State.freeCluster_chained ho, State.freeCluster_chained (by rw [hc, ho]), hc, h]
  | false => rw [State.freeCluster_unchained ho, State.freeCluster_unchained (by rw [hc, ho]), h]

theorem State.freeChain_reserved {r : Nat} (h : t.sc = { s.sc with reserved := r }) (first : Nat) :
    (t.freeChain first).sc = { (s.freeChain first).sc with reserved := r } := by
  have hchain : t.chain first = s.chain first := by simp [State.chain, h]
  unfold State.freeChain
  rw [hchain]
  clear hchain
  generalize s.chain first = l
  induction l generalizing s t with
  | nil => exact h
  | cons c rest ih => exact ih (State.freeCluster_reserved h c)

theorem State.freeImage_reserved {r : Nat} (h : t.sc = { s.sc with reserved := r }) (image : Option ImageRecord) :
    (t.freeImage image).sc = { (s.freeImage image).sc with reserved := r } := by
  cases image with
  | none => exact h
  | some i => exact State.freeChain_reserved h i.first

theorem State.freeImage_sc_congr (h : t.sc = s.sc) (image : Option ImageRecord) :
    (t.freeImage image).sc = (s.freeImage image).sc :=
  (State.freeImage_reserved (r := s.sc.reserved) h image).trans
    (State.freeImage_reserved (s := s) (t := s) (r := s.sc.reserved) rfl image).symm

theorem State.relabelChain_sc_congr (h : t.sc = s.sc) (first : Nat) (kind : ChainKind) :
    (t.relabelChain first kind).sc = (s.relabelChain first kind).sc := by
  have hchain : t.chain first = s.chain first := by simp [State.chain, h]
  unfold State.relabelChain
  rw [hchain]
  clear hchain
  generalize s.chain first = l
  induction l generalizing s t with
  | nil => exact h
  | cons c rest ih => exact ih (by simp [State.setCluster, State.cluster, h])

end Sys2Proof.Machine
end

section
/-! PROOFS. The clean-up of an upload, block by block (R81), and Delete Portrait by its outcomes (O31). -/

set_option Elab.async false

namespace Sys2Proof.Machine

variable {s t : State}

/-! ### Blocks that are not touched -/

theorem Touches.sc {blocks : List Block} (h : Touches blocks s t) (hb : .sc ∉ blocks := by decide) : t.sc = s.sc := by
  obtain ⟨-, -, -, -, hsame⟩ := h
  exact hsame .sc (by simpa using hb)

theorem Touches.ie {blocks : List Block} (h : Touches blocks s t) (hb : .ie ∉ blocks := by decide) : t.ie = s.ie := by
  obtain ⟨-, -, -, -, hsame⟩ := h
  exact hsame .ie (by simpa using hb)

/-! ### The clean-up of an upload (R81) -/

/-- The chain of an upload freed, if it has one yet. -/
def State.freeUpload (s : State) (u : UploadRecord) : State :=
  match u.chain with
  | some (first, _) => s.freeChain first
  | none => s

/-- An entry once its upload has ended without a hand-over (R59). -/
def DirEntry.disclaimed (e : DirEntry) : DirEntry :=
  if e.state = .filling then freeEntry e.generation else { e with upload := none }

theorem State.disclaim_eq (s : State) (h : Nat) : s.disclaim h = s.setEntry h (s.entry h).disclaimed := by
  unfold State.disclaim DirEntry.disclaimed
  simp only
  split <;> rfl

/-- The clean-up: chain, reservation, entry and slot, one after the other. -/
theorem State.cleanUp_steps (s : State) (k : Fin 4) (u : UploadRecord) :
    s.cleanUp k u = (((s.freeUpload u).unreserve u.reserved).disclaim u.handle).closeSlot k := rfl

theorem State.scOnly_freeUpload (s : State) (u : UploadRecord) : ScOnly s (s.freeUpload u) := by
  unfold State.freeUpload
  split
  · exact s.scOnly_freeChain _
  · rfl

theorem State.freeUpload_reserved {r : Nat} (h : t.sc = { s.sc with reserved := r }) (u : UploadRecord) :
    (t.freeUpload u).sc = { (s.freeUpload u).sc with reserved := r } := by
  unfold State.freeUpload
  split
  · exact State.freeChain_reserved h _
  · exact h

theorem State.reserved_freeUpload (s : State) (u : UploadRecord) : (s.freeUpload u).sc.reserved = s.sc.reserved := by
  rw [State.freeUpload_reserved (s := s) (t := s) (r := s.sc.reserved) rfl u]

theorem State.openList_closeSlot (s : State) (k : Fin 4) :
    (s.closeSlot k).ie.openList = s.ie.openList.filter (fun j => decide (j ≠ k)) := rfl

section CleanUp

variable (s : State) (k : Fin 4) (u : UploadRecord)

theorem State.cleanUp_sc :
    (s.cleanUp k u).sc = { (s.freeUpload u).sc with reserved := s.sc.reserved - u.reserved } := by
  rw [State.cleanUp_steps, (State.touches_closeSlot _ k).sc, (State.touches_disclaim _ _).sc, State.unreserve,
    s.reserved_freeUpload]

theorem State.cleanUp_pdir : (s.cleanUp k u).pdir = (s.setEntry u.handle (s.entry u.handle).disclaimed).pdir := by
  rw [State.cleanUp_steps, State.disclaim_eq, s.scOnly_freeUpload u]
  rfl

theorem State.cleanUp_ie : (s.cleanUp k u).ie = (s.closeSlot k).ie := by
  rw [State.cleanUp_steps, State.disclaim_eq, s.scOnly_freeUpload u]
  rfl

theorem State.cleanUp_liu : (s.cleanUp k u).liu = s.liu := by
  rw [State.cleanUp_steps, State.disclaim_eq, s.scOnly_freeUpload u]
  rfl

theorem State.entry_cleanUp (h : Nat) :
    (s.cleanUp k u).entry h = if h = u.handle then (s.entry u.handle).disclaimed else s.entry h :=
  (State.entry_congr _ _ h (s.cleanUp_pdir k u)).trans (State.entry_setEntry _ _ _ _)

theorem State.slot_cleanUp (j : Fin 4) : (s.cleanUp k u).slot j = if j = k then none else s.slot j :=
  (State.slot_congr _ _ j (s.cleanUp_ie k u)).trans (State.slot_setSlot s k j none)

theorem State.openList_cleanUp :
    (s.cleanUp k u).ie.openList = s.ie.openList.filter (fun j => decide (j ≠ k)) := by
  rw [State.cleanUp_ie, State.openList_closeSlot]

end CleanUp

/-! ### Delete Portrait (R64) -/

section DeletePortrait

variable (s : State) (from_ : Sender) {h : Nat}

theorem State.deletePortrait_badField (hh : 16383 < h) : s.deletePortrait from_ h = s.refuse from_ .badField := by
  simp [State.deletePortrait, hh]

theorem State.deletePortrait_notFound (hh : h ≤ 16383) (hs : (s.entry h).state = .free) :
    s.deletePortrait from_ h = s.refuse from_ .notFound := by
  simp [State.deletePortrait, not_lt.mpr hh, hs]

theorem State.deletePortrait_filling (hh : h ≤ 16383) (hs : (s.entry h).state = .filling) :
    s.deletePortrait from_ h = s.refuse from_ .busy := by
  simp [State.deletePortrait, not_lt.mpr hh, hs]

theorem State.deletePortrait_pinned (hh : h ≤ 16383) (hs : (s.entry h).state = .ready ∨ (s.entry h).state = .damaged)
    (hp : 0 < (s.entry h).pins) : s.deletePortrait from_ h = s.refuse from_ .busy := by
  rcases hs with hs | hs <;> simp [State.deletePortrait, not_lt.mpr hh, hs, hp]

theorem State.deletePortrait_accepted (hh : h ≤ 16383)
    (hs : (s.entry h).state = .ready ∨ (s.entry h).state = .damaged) (hp : (s.entry h).pins = 0) :
    s.deletePortrait from_ h = (s.ok from_ []).deleteEntry h (s.entry h) := by
  rcases hs with hs | hs <;> simp [State.deletePortrait, not_lt.mpr hh, hs, hp]

end DeletePortrait

/-- The slot and record of the upload that an entry has open, if the slot is OPEN. -/
def State.openOn (s : State) (e : DirEntry) : Option (Fin 4 × UploadRecord) :=
  e.upload.bind (fun ku => (s.slot ku.1).map (fun u => (ku.1, u)))

theorem State.openOn_some {e : DirEntry} {k : Fin 4} {mode : UploadMode} {u : UploadRecord}
    (he : e.upload = some (k, mode)) (hu : s.slot k = some u) : s.openOn e = some (k, u) := by
  simp [State.openOn, he, hu]

theorem State.deleteEntry_idle {e : DirEntry} (ho : s.openOn e = none) (h : Nat) :
    s.deleteEntry h e = (s.freeImage e.image).setEntry h (freeEntry ((e.generation + 1) % 16)) := by
  rw [State.openOn] at ho
  simp only [State.deleteEntry, ho]

theorem State.deleteEntry_open {e : DirEntry} {k : Fin 4} {u : UploadRecord} (ho : s.openOn e = some (k, u)) (h : Nat) :
    s.deleteEntry h e = (((s.cleanUp k u).freeImage e.image).setEntry h
      (freeEntry ((e.generation + 1) % 16))).uploadResult k u .cancelled 0 := by
  rw [State.openOn] at ho
  simp only [State.deleteEntry, ho]

/-- Settles O31: one clause for each outcome of the order; a clean-up of the open upload comes before the deletion. -/
theorem deletePortraitOutcome : Obligations.DeletePortraitOutcome := by
  intro s port tag p hadm h e gone
  have hentry g : (s.arrival port).entry g = s.entry g := by simp
  refine ⟨_, exec_deletePortrait hadm tag, fun hh => ?_, fun hh hs => ?_, fun hh hs => ?_, fun hh hs hp => ?_,
    fun hh hs hp hno old hold => ?_, fun hh hs hp k mode u old hup hu huh hold => ?_⟩
  · rw [State.deletePortrait_badField _ _ hh]
    exact Refused.intro _ _ _ _ _
  · rw [State.deletePortrait_notFound _ _ hh (by rwa [hentry])]
    exact Refused.intro _ _ _ _ _
  · rw [State.deletePortrait_filling _ _ hh (by rwa [hentry])]
    exact Refused.intro _ _ _ _ _
  · rw [State.deletePortrait_pinned _ _ hh (by rwa [hentry]) (by rwa [hentry])]
    exact Refused.intro _ _ _ _ _
  all_goals
    rw [State.deletePortrait_accepted _ _ hh (by rwa [hentry]) (by rwa [hentry]), hentry]
    set v := (s.arrival port).ok ⟨port, tag, Order.code .deletePortrait⟩ [] with hv
    have hvsc : v.sc = s.sc := by simp [hv]
    have hventry g : v.entry g = s.entry g := by simp [hv]
    have hvie : v.ie = s.ie := by simp [hv]
    have hvslot j : v.slot j = s.slot j := State.slot_congr _ _ j hvie
  · rw [State.deleteEntry_idle (show v.openOn e = none by simp [State.openOn, e, hno])]
    have hfreed := v.scOnly_freeImage e.image
    refine ⟨Accepted.intro ?_ ?_, ?_, fun g hg => ?_, ?_⟩
    · rw [hfreed]; rfl
    · exact ((v.touches_freeImage _).mono.trans (State.touches_setEntry _ _ _).mono : Touches [.sc, .pdir] _ _).2
    · exact (State.entry_setEntry _ _ _ _).trans (if_pos rfl)
    · rw [State.entry_setEntry, if_neg hg, hfreed]
      exact hventry g
    · rw [State.setEntry_sc, State.freeImage_sc_congr hvsc]
      simp only [e, hold, State.freeImage]
  · rw [State.deleteEntry_open (State.openOn_some hup (by rwa [hvslot]))]
    have hfreed := (v.cleanUp k u).scOnly_freeImage e.image
    set w := ((v.cleanUp k u).freeImage e.image).setEntry h (freeEntry ((e.generation + 1) % 16)) with hw
    have hwentry g : w.entry g = if g = h then gone else s.entry g := by
      rw [hw, State.entry_setEntry, hfreed]
      split
      · rfl
      · next hg =>
        exact (v.entry_cleanUp k u g).trans ((if_neg (by rwa [huh])).trans (hventry g))
    have hwie : w.ie = (v.closeSlot k).ie := by rw [hw, State.setEntry_ie, hfreed]; exact v.cleanUp_ie k u
    have hwliu : w.liu = v.liu := by rw [hw, State.setEntry_liu, hfreed]; exact v.cleanUp_liu k u
    have hwsc : w.sc = ((v.cleanUp k u).freeImage e.image).sc := State.setEntry_sc _ _ _
    rw [State.uploadResult, State.notice_eq, huh, hwentry, if_pos rfl]
    refine ⟨AcceptedWith.intro (((PortsGain.of_liu hwliu).send .i _).sent fun q => by simp [andThen]) ?_,
      (State.entry_send _ _ _ _).trans ((hwentry h).trans (if_pos rfl)),
      fun g hg => (State.entry_send _ _ _ _).trans ((hwentry g).trans (if_neg hg)), ?_, fun j hj => ?_, ?_, ?_⟩
    · exact ((((v.touches_cleanUp k u).trans (State.touches_freeImage _ _).mono).trans
        (State.touches_setEntry _ _ _).mono).trans (State.touches_send _ _ _).mono).2
    · rw [State.slot_send, State.slot_congr _ _ k hwie]
      exact (State.slot_setSlot v k k none).trans (if_pos rfl)
    · rw [State.slot_send, State.slot_congr _ _ j hwie]
      exact (State.slot_setSlot v k j none).trans ((if_neg hj).trans (hvslot j))
    · rw [State.send_ie, hwie, State.openList_closeSlot, hvie]
    · rw [State.send_sc, hwsc, State.freeImage_reserved (s := s.freeUpload u) (r := s.sc.reserved - u.reserved)]
      · simp only [e, hold, State.freeImage]
        rfl
      · rw [State.cleanUp_sc, State.freeUpload_reserved (s := s) (r := s.sc.reserved) hvsc, hvsc]


end Sys2Proof.Machine
end

section
/-! PROOFS. One induction for the invariants of the store and of the tables: an invariant that the rules below keep, rule by
rule, is kept by every command and every step. Here the operations of the blocks outside the store. -/

set_option Elab.async false

namespace Sys2Proof.Machine

/-! ### The rules -/

/-- An invariant that the blocks outside the store keep: whatever happens to ports, channels, planner, engine and scrubber,
and each single update of a layout, a class, the pool, a glyph record, the glyph window and the pages in flight. -/
structure HallRules (I : State → Prop) : Prop where
  elsewhere : ∀ {s t : State}, t.layouts = s.layouts → t.ru = s.ru → t.sc = s.sc → t.pdir = s.pdir → t.ie = s.ie →
    t.gs = s.gs → I s → I t
  setLayout : ∀ {s : State} (n : Nat) (v : LayoutRecord), I s → I (s.setLayout n v)
  setClass : ∀ {s : State} (c : Nat) (r : ClassRecord), I s → I (s.setClass c r)
  setPool : ∀ {s : State} (n : Nat), I s → I (s.setPool n)
  setGlyph : ∀ {s : State} (code : Nat) (g : Glyph), I s → I (s.setGlyph code g)
  setGlyphState : ∀ {s : State} (w : WindowState) (n : Nat), I s →
    I { s with gs := { s.gs with window := w, inFlight := n } }

/-- An invariant that store, uploads and directory keep too, operation by operation. -/
structure StoreRules (I : State → Prop) : Prop extends HallRules I where
  powerOn : ∀ phase clock pending, I (powerOn phase clock pending)
  initialised : ∀ {s : State}, I s → I { s with sc := { s.sc with store := [], errors := [] } }
  pin : ∀ {s : State} (h : Nat), (s.entry h).state = .ready → I s → I (s.pin h)
  unpin : ∀ {s : State} (h : Nat), I s → I (s.unpin h)
  openUpload : ∀ {s : State} (k : Fin 4) (f : UploadForm), uploadFieldsOk f = true →
    s.claimRefused f.handle (modeOf f.mode) = none → s.slot k = none →
    s.canReserve (clustersOf f.width f.height) = true → I s → I (s.openUpload k f)
  putBytes : ∀ {s t : State} {u v : UploadRecord} (k : Fin 4) (bytes : Bytes) (ms : Nat), s.slot k = some u →
    u.received + bytes.length ≤ u.expected → s.putBytes u bytes = some (t, v) → I s →
    I (t.setSlot k (some { v with timer := ms }))
  handOver : ∀ {s : State} {u : UploadRecord} (k : Fin 4), s.slot k = some u → u.expected ≤ u.received → I s →
    I (s.handOver k u)
  failUpload : ∀ {s : State} {u : UploadRecord} (k : Fin 4) (o : UploadOutcome), s.slot k = some u → I s →
    I (s.failUpload k u o)
  abandonUploads : ∀ {s : State}, I s → I s.abandonUploads
  deleteEntry : ∀ {s : State} (h : Nat), (s.entry h).state = .ready ∨ (s.entry h).state = .damaged →
    (s.entry h).pins = 0 → I s → I (s.deleteEntry h (s.entry h))
  takeFault : ∀ {s : State} (kind : FaultKind) (w offset : Nat) (syndrome : BitVec 8) (channel : Option (Fin 4)),
    Table.get 0#72 s.sc.errors w ≠ 0#72 → I s → I (s.takeFault kind (w / Config.clusterWords) offset syndrome channel)
  writeBack : ∀ {s : State} (w : Nat) (bit : Fin 72), I s → I (s.writeBack w bit)
  hallClear : ∀ {s : State}, I s → I s.hallClear
  upset : ∀ {s : State} (u : Upset), I s → I (s.upset u)
  tickTimers : ∀ {s : State}, I s → I s.tickTimers

variable {I : State → Prop} {s t : State}

/-! ### Blocks outside the store -/

section Hall

variable (R : HallRules I)

include R

/-- An operation that touches none of the blocks the invariant speaks of. -/
theorem HallRules.touched {blocks : List Block} (h : Touches blocks s t)
    (hb : ∀ b ∈ blocks, b ∈ [Block.liu, .pln, .pch, .ce, .sel] := by decide) (hi : I s) : I t :=
  R.elsewhere (h.layouts fun hm => by simpa using hb _ hm) (h.ru fun hm => by simpa using hb _ hm)
    (h.sc fun hm => by simpa using hb _ hm) (h.pdir fun hm => by simpa using hb _ hm)
    (h.ie fun hm => by simpa using hb _ hm) (h.gs fun hm => by simpa using hb _ hm) hi

theorem HallRules.setPort (p : Port) (v : PortState) (hi : I s) : I (s.setPort p v) :=
  R.elsewhere (by simp) (by simp) (by simp) (by simp) (by simp) (by simp) hi

theorem HallRules.send (p : Port) (f : Frame) (hi : I s) : I (s.send p f) := R.touched (s.touches_send p f) (hi := hi)

theorem HallRules.ok (f : Sender) (fields : Bytes) (hi : I s) : I (s.ok f fields) := R.touched (s.touches_ok f fields) (hi := hi)

theorem HallRules.refuse (f : Sender) (status : Status) (hi : I s) : I (s.refuse f status) :=
  R.touched (s.touches_refuse f status) (hi := hi)

theorem HallRules.putChannel (k : Fin 4) (c : Channel) (hi : I s) : I (s.putChannel k c) :=
  R.touched (s.touches_putChannel k c) (hi := hi)

theorem HallRules.takeRelease (k : Fin 4) (hi : I s) : I (s.takeRelease k) :=
  R.touched (s.touches_takeRelease k) (hi := hi)

/-! ### Layouts and classes (R12 to R40) -/

theorem HallRules.release? (n : Option Nat) (hi : I s) : I (s.release? n) := by
  cases n with
  | none => exact hi
  | some n => exact R.setLayout n _ hi

theorem HallRules.evalSwitch (c : Nat) (hi : I s) : I (s.evalSwitch c) := by
  unfold State.evalSwitch
  simp only
  split
  · exact hi
  · split
    · exact R.send _ _ (R.release? _ (R.setClass c _ hi))
    · exact hi

theorem HallRules.reportReady (n : Nat) (hi : I s) : I (s.reportReady n) := by
  unfold State.reportReady
  split
  · refine List.foldlRecOn _ _ hi fun s hs c _ => ?_
    split
    · exact R.evalSwitch c hs
    · exact hs
  · exact hi

theorem HallRules.reportEntry (h : Nat) (hi : I s) : I (s.reportEntry h) := by
  unfold State.reportEntry
  refine List.foldlRecOn _ _ hi fun s hs n _ => ?_
  split
  · exact R.reportReady n hs
  · exact hs

theorem HallRules.clearPending (c : Nat) (hi : I s) : I (s.clearPending c) := R.setClass _ _ (R.release? _ hi)

theorem HallRules.raiseInFlight (c : Nat) (hi : I s) : I (s.raiseInFlight c) := R.setClass _ _ hi

theorem HallRules.lowerInFlight (c : Nat) (hi : I s) : I (s.lowerInFlight c) := by
  unfold State.lowerInFlight
  simp only
  split
  · exact R.evalSwitch c (R.setClass _ _ hi)
  · exact R.setClass _ _ hi

theorem HallRules.defineLayout (from_ : Sender) (f : LayoutForm) (hi : I s) : I (s.defineLayout from_ f) := by
  unfold State.defineLayout
  split
  · exact R.send _ _ hi
  split
  · exact R.send _ _ hi
  split
  · exact R.send _ _ hi
  · exact R.reportReady _ (R.setLayout _ _ (R.send _ _ hi))

theorem HallRules.deleteLayout (from_ : Sender) (n : Nat) (hi : I s) : I (s.deleteLayout from_ n) := by
  unfold State.deleteLayout
  split_ifs
  · exact R.send _ _ hi
  · exact R.send _ _ hi
  · exact R.send _ _ hi
  · exact R.setLayout _ _ (R.send _ _ hi)

theorem HallRules.openClass (from_ : Sender) (c n : Nat) (hi : I s) : I (s.openClass from_ c n) := by
  unfold State.openClass
  split_ifs
  · exact R.send _ _ hi
  · exact R.send _ _ hi
  · exact R.send _ _ hi
  · exact R.setClass _ _ (R.setLayout _ _ (R.send _ _ hi))

theorem HallRules.inOpenClass {from_ : Sender} {c : Nat} {act : State} (hi : I s) (ha : I act) :
    I (s.inOpenClass from_ c act) := by
  unfold State.inOpenClass
  split
  · exact R.send _ _ hi
  · split
    · exact R.send _ _ hi
    · exact R.send _ _ hi
    · exact ha

theorem HallRules.addSubject (from_ : Sender) (f : SubjectForm) (hi : I s) : I (s.addSubject from_ f) := by
  have hrefuse (status : Status) : I (s.refuse from_ status) := R.send _ _ hi
  unfold State.addSubject
  extract_lets x roster
  split
  · exact hrefuse _
  · refine R.inOpenClass hi ?_
    split_ifs
    · exact hrefuse _
    · exact hrefuse _
    · exact hrefuse _
    · exact hrefuse _
    · exact R.setPool _ (R.setClass _ _ (R.send _ _ hi))

theorem HallRules.updateSubject (from_ : Sender) (f : SubjectForm) (hi : I s) : I (s.updateSubject from_ f) := by
  have hrefuse (status : Status) : I (s.refuse from_ status) := R.send _ _ hi
  unfold State.updateSubject
  extract_lets x roster others
  split
  · exact hrefuse _
  · refine R.inOpenClass hi ?_
    split
    · exact hrefuse _
    split
    · exact hrefuse _
    · exact R.setClass _ _ (R.send _ _ hi)

theorem HallRules.removeSubject (from_ : Sender) (c id : Nat) (hi : I s) : I (s.removeSubject from_ c id) := by
  unfold State.removeSubject
  refine R.inOpenClass hi ?_
  split
  · exact R.send _ _ hi
  · exact R.setPool _ (R.setClass _ _ (R.send _ _ hi))

theorem HallRules.setTitle (from_ : Sender) (c count : Nat) (title : List Nat) (hi : I s) :
    I (s.setTitle from_ c count title) := by
  unfold State.setTitle
  split
  · exact R.send _ _ hi
  · exact R.inOpenClass hi (R.setClass _ _ (R.send _ _ hi))

theorem HallRules.rebindClass (from_ : Sender) (c n : Nat) (hi : I s) : I (s.rebindClass from_ c n) := by
  unfold State.rebindClass
  split
  · exact R.send _ _ hi
  · refine R.inOpenClass hi ?_
    split_ifs
    · exact R.clearPending c (R.send _ _ hi)
    · exact R.send _ _ hi
    · exact R.evalSwitch c (R.setClass _ _ (R.release? _ (R.setLayout _ _ (R.send _ _ hi))))

theorem HallRules.withdrawRebind (from_ : Sender) (c : Nat) (hi : I s) : I (s.withdrawRebind from_ c) :=
  R.inOpenClass hi (R.clearPending c (R.send _ _ hi))

theorem HallRules.freezeClass (from_ : Sender) (c : Nat) (hi : I s) : I (s.freezeClass from_ c) := by
  have hfrozen : I ((s.ok from_ []).freeze c) := R.setClass _ _ (R.clearPending c (R.send _ _ hi))
  unfold State.freezeClass
  split
  · exact R.send _ _ hi
  split
  · exact R.send _ _ hi
  · exact R.send _ _ hi
  · extract_lets frozen
    split
    · exact R.send _ _ hfrozen
    · exact hfrozen

theorem HallRules.deleteClass (from_ : Sender) (c : Nat) (hi : I s) : I (s.deleteClass from_ c) := by
  unfold State.deleteClass
  split_ifs
  · exact R.send _ _ hi
  · exact R.send _ _ hi
  · exact R.send _ _ hi
  · have hremoved : I (fours.foldl (fun s k => s.removeQueued c k) (s.ok from_ [])) :=
      R.touched ((s.touches_ok from_ []).mono.trans (Touches.foldl (fun s k => s.touches_removeQueued c k) _ _)) (hi := hi)
    exact R.setClass _ _ (R.release? _ (R.release? _ (R.setPool _ hremoved)))

/-! ### Glyphs (R133 to R139) -/

theorem HallRules.setWindow (w : WindowState) (hi : I s) : I (s.setWindow w) := R.setGlyphState w s.gs.inFlight hi

theorem HallRules.raisePages (hi : I s) : I s.raisePages := R.setGlyphState s.gs.window (s.gs.inFlight + 1) hi

theorem HallRules.lowerPages (hi : I s) : I s.lowerPages := by
  have hlowered := R.setGlyphState s.gs.window (s.gs.inFlight - 1) hi
  unfold State.lowerPages
  simp only
  split
  · exact R.send _ _ (R.setWindow _ hlowered)
  · exact hlowered

theorem HallRules.loadGlyph (from_ : Sender) (payload : Bytes) (hi : I s) : I (s.loadGlyph from_ payload) := by
  unfold State.loadGlyph
  extract_lets code
  split
  · exact R.send _ _ hi
  split
  · exact R.send _ _ hi
  · exact R.setGlyph _ _ (R.send _ _ hi)

/-! ### The channel reset (R168) -/

theorem HallRules.resetChannel (k : Fin 4) (cause : CancelCause) {giveBack : State → Snapshot → State}
    (hg : ∀ {s}, I s → ∀ p, I (giveBack s p)) (hi : I s) : I (s.resetChannel k cause giveBack) :=
  List.foldlRecOn _ _ (R.touched (s.touches_clearChannel k cause) (hi := hi)) fun _ hs p _ => hg hs p

end Hall

end Sys2Proof.Machine
end

section
/-! PROOFS. The induction over pages, faults, uploads and commands: what the rules of store, uploads and directory keep, every
step keeps. -/

set_option Elab.async false

namespace Sys2Proof.Machine

variable {I : State → Prop} {s t : State}

/-- A word that does not read clean has wrong bits. -/
theorem State.errors_of_wordFault {w : Nat} {reads : WordFault} (h : s.wordFault w = some reads) :
    Table.get 0#72 s.sc.errors w ≠ 0#72 := fun hz => by
  simp [State.wordFault, hz] at h

/-- A slot OPEN for a handle is the named one, with its record. -/
theorem State.openFor_eq_some {slot handle : Nat} {k : Fin 4} {u : UploadRecord}
    (h : s.openFor slot handle = some (k, u)) : k.val = slot ∧ s.slot k = some u ∧ u.handle = handle := by
  unfold State.openFor four? at h
  split_ifs at h with hslot
  · simp only at h
    split at h
    · next hu =>
      split at h
      · next hh =>
        obtain ⟨rfl, rfl⟩ := Prod.mk.inj (Option.some.inj h)
        exact ⟨rfl, hu, hh⟩
      · cases h
    · cases h

theorem State.slot_of_idleSlot {k : Fin 4} (h : s.idleSlot = some k) : s.slot k = none := by
  simpa using List.find?_some h

/-- Whatever next state a result holds meets the invariant. -/
def Yields (I : State → Prop) (r : Result) : Prop := ∀ t, r = .next t → I t

theorem Yields.next (h : I t) : Yields I (.next t) := fun _ hu => by cases hu; exact h

/-! ### Pages (R92 to R104, R164 to R168) -/

section Pages

variable (R : StoreRules I)

include R

theorem StoreRules.returnPlan (p : Snapshot) (hi : I s) : I (s.returnPlan p) :=
  R.lowerPages (R.lowerInFlight _ (List.foldlRecOn _ _ hi fun _ hs h _ => R.unpin h hs))

theorem StoreRules.endPage (k : Fin 4) (p : Plan) (d : PageDone) (hi : I s) : I (s.endPage k p d) := by
  have hdone : I (((s.recordPageDone k d).returnPlan p.snap).dropFirstJob k) :=
    R.putChannel _ _ (R.returnPlan _ (R.touched (s.touches_recordPageDone k d) (hi := hi)))
  unfold State.endPage
  extract_lets ended chained
  refine R.takeRelease k ?_
  simp only [chained]
  split
  · exact R.touched (State.touches_chain _ k) (hi := hdone)
  · exact hdone

theorem StoreRules.endRendering (k : Fin 4) (result : PageResult) (hi : I s) : I (s.endRendering k result) := by
  unfold State.endRendering
  split
  · exact R.endPage _ _ _ hi
  · exact hi

theorem StoreRules.stall (k : Fin 4) (hi : I s) : I (s.stall k) := by
  unfold State.stall
  extract_lets c
  split
  · split
    · exact R.endPage _ _ _ hi
    · exact hi
  · exact R.endRendering _ _ hi

theorem StoreRules.abortPage (from_ : Sender) (k : Fin 4) (hi : I s) : I (s.abortPage from_ k) := by
  have hok : I (s.ok from_ []) := R.send _ _ hi
  unfold State.abortPage
  extract_lets c answered
  split
  · split
    · exact R.putChannel _ _ hok
    · exact R.endRendering _ _ hok
  · exact R.putChannel _ _ hok

theorem StoreRules.afterBand (k : Fin 4) (hi : I s) : I (s.afterBand k) := by
  unfold State.afterBand
  extract_lets c
  split
  · next p r _ _ =>
    extract_lets sent
    have hsent : I sent := R.putChannel _ _ hi
    split
    · exact R.endRendering _ _ hsent
    split
    · split
      · exact R.endRendering _ _ hsent
      · exact R.takeRelease _ (R.putChannel _ _ hsent)
    split
    · exact R.takeRelease _ hsent
    · exact hsent
  · exact hi

theorem StoreRules.endBandIfSent (hi : I s) : I s.endBandIfSent := by
  unfold State.endBandIfSent
  split
  · split
    · exact R.afterBand _ (R.touched (s.touches_ce none) (hi := hi))
    · exact hi
  · exact hi

theorem StoreRules.endEmptyPage (k : Fin 4) (p : Snapshot) (hi : I s) : I (s.endEmptyPage k p) := by
  unfold State.endEmptyPage
  extract_lets d _ removed
  exact R.touched (State.touches_recordPageDone _ k d)
    (hi := R.lowerPages (R.lowerInFlight _ (R.raisePages (R.raiseInFlight _ (R.putChannel k _ hi)))))

/-- The handles that a page pins are those of READY entries (R95, R97). -/
theorem StoreRules.startStep (k : Fin 4) (hi : I s) : I (s.startStep k) := by
  cases hc : (s.channel k).candidate with
  | none => simpa only [State.startStep, hc] using hi
  | some j =>
  cases hl : s.boundLayout j.classNo with
  | none => simpa only [State.startStep, hc, hl] using hi
  | some nf =>
  obtain ⟨n, f⟩ := nf
  have hnumbered : I (s.numbered k) := R.touched (s.touches_numbered k) (hi := hi)
  have hready : ∀ h ∈ (s.snapshot k j n f).handles, ((s.numbered k).entry h).state = .ready := fun h hm => by
    rw [(s.touches_numbered k).entry]; exact State.ready_of_mem_handles hm
  rw [State.startStep_eq hc hl]
  extract_lets p
  split
  · exact R.endEmptyPage k p hnumbered
  · refine R.touched (State.touches_begun _ k j p) (hi := R.raisePages (R.raiseInFlight _ ?_))
    refine (List.foldlRecOn (motive := fun u => I u ∧ ∀ h ∈ p.handles, (u.entry h).state = .ready) _ _
      ⟨hnumbered, hready⟩ fun u hu h hm => ⟨R.pin h (hu.2 h hm) hu.1, fun g hg => ?_⟩).1
    rw [State.pin, State.entry_setEntry]
    split
    · exact hu.2 h hm
    · exact hu.2 g hg

/-! ### Words read and scrubbed (R123, R176 to R178) -/

theorem StoreRules.scrubWord (w : Nat) (hi : I s) : I (s.scrubWord w) := by
  unfold State.scrubWord
  split
  · exact hi
  · exact R.writeBack w _ (R.touched (s.touches_sel _) (hi := hi))
  · next hw => exact R.takeFault _ w _ _ _ (State.errors_of_wordFault hw) hi

theorem StoreRules.visit (c : Nat) (hi : I s) : I (s.visit c) :=
  List.foldlRecOn _ _ hi fun _ hs w _ => R.scrubWord w hs

theorem StoreRules.scrub (hi : I s) : I s.scrub := by
  have hrescrub (u : State) (l : List Nat) (hu : I u) : I (u.setRescrub l) := R.touched (u.touches_sel _) (hi := hu)
  unfold State.scrub
  split
  · exact R.visit _ (hrescrub _ _ hi)
  · extract_lets emptied
    have hemptied : I emptied := hrescrub _ _ hi
    split
    · exact R.visit _ (R.touched (emptied.touches_sel _) (hi := hemptied))
    · exact hemptied

theorem StoreRules.renderRead (k : Fin 4) (w : Nat) (hi : I s) : I (s.renderRead k w).1 := by
  unfold State.renderRead
  extract_lets held cluster
  split
  · exact hi
  · exact R.touched ((s.touches_sel _).trans (State.touches_offerRescrub _ _)) (hi := hi)
  · next hw => exact R.takeFault _ w _ _ _ (State.errors_of_wordFault hw) hi

theorem StoreRules.readForCell (cell w : Nat) (hi : I s) : I (s.readForCell cell w) := by
  unfold State.readForCell
  split
  · exact hi
  · split
    · exact hi
    · exact R.touched (State.touches_ce _ _) (hi := R.renderRead _ w hi)

theorem StoreRules.produceRow (b : Band) (hi : I s) : I (s.produceRow b) := by
  have hreads : I ((rowReads s.sc.map b b.nextRow).foldl (fun s cw => s.readForCell cw.1 cw.2) s) :=
    List.foldlRecOn _ _ hi fun _ hs cw _ => R.readForCell cw.1 cw.2 hs
  unfold State.produceRow
  simp only
  split
  · exact hreads
  · exact R.touched ((State.touches_ce _ _).trans
      (Touches.foldl (fun s payload => (s.touches_notice _ _ payload).mono) _ _)) (hi := hreads)

/-- A row handed on, and the end of its band with it. -/
theorem StoreRules.row (b : Band) (hi : I s) : I (if 0 < b.rowsLeft then s.produceRow b else s).endBandIfSent := by
  refine R.endBandIfSent ?_
  split
  · exact R.produceRow b hi
  · exact hi

/-! ### Uploads (R64, R72 to R82) -/

theorem StoreRules.beginUpload (from_ : Sender) (f : UploadForm) (hi : I s) : I (s.beginUpload from_ f) := by
  have hrefuse (status : Status) : I (s.refuse from_ status) := R.send _ _ hi
  unfold State.beginUpload
  extract_lets n
  split
  · exact hrefuse _
  next hfields =>
  split
  · exact hrefuse _
  next hclaim =>
  split
  · exact hrefuse _
  next k hidle =>
  split
  · exact hrefuse _
  next hreserve =>
  refine R.openUpload k f (not_not.mp hfields) ?_ ?_ ?_ (R.send _ _ hi)
  · simpa only [State.claimRefused, State.ok, State.reply, State.entry_send] using hclaim
  · simpa only [State.ok, State.reply, State.slot_send] using State.slot_of_idleSlot hidle
  · simpa only [State.canReserve, State.ok, State.reply, State.send_sc, not_not] using hreserve

theorem StoreRules.putPixels (from_ : Sender) (f : PixelsForm) (hlen : f.bytes.length = f.count) (hi : I s)
    (ht : s.putPixels from_ f = .next t) : I t := by
  have hrefuse (status : Status) (fields : Bytes) : I (s.reply from_.port from_.tag from_.code status fields) :=
    R.send _ _ hi
  unfold State.putPixels at ht
  split at ht
  · cases ht; exact hrefuse _ _
  split at ht
  · cases ht; exact hrefuse _ _
  next k u hopen =>
  split at ht
  · cases ht; exact hrefuse _ _
  next hoffset =>
  split at ht
  · cases ht; exact hrefuse _ _
  next hfits =>
  split at ht
  · cases ht
  next hput =>
  cases ht
  obtain ⟨-, hslot, -⟩ := State.openFor_eq_some hopen
  exact R.putBytes k f.bytes Config.idleMs (by rwa [State.ok, State.reply, State.slot_send]) (by omega) hput
    (R.send _ _ hi)

theorem StoreRules.endUploadOf {k : Fin 4} {u : UploadRecord} (hu : s.slot k = some u) (hi : I s) :
    I (s.endUploadOf k u) := by
  unfold State.endUploadOf
  split
  · exact R.failUpload k _ hu hi
  next hwhole =>
  split
  · exact R.failUpload k _ hu hi
  · exact R.handOver k hu (not_lt.mp hwhole) hi

theorem StoreRules.onSlot {act : State → Fin 4 → UploadRecord → State} (from_ : Sender) (slot handle : Nat)
    (ha : ∀ {s : State} {k : Fin 4} {u : UploadRecord}, s.slot k = some u → I s → I (act s k u)) (hi : I s) :
    I (s.onSlot from_ slot handle act) := by
  unfold State.onSlot
  split
  · exact R.send _ _ hi
  split
  · exact R.send _ _ hi
  · next k u hopen =>
    obtain ⟨-, hslot, -⟩ := State.openFor_eq_some hopen
    exact ha (by rwa [State.ok, State.reply, State.slot_send]) (R.send _ _ hi)

theorem StoreRules.deletePortrait (from_ : Sender) (h : Nat) (hi : I s) : I (s.deletePortrait from_ h) := by
  have hrefuse (status : Status) : I (s.refuse from_ status) := R.send _ _ hi
  rcases Nat.lt_or_ge 16383 h with hh | hh
  · rw [State.deletePortrait_badField _ _ hh]; exact hrefuse _
  have hdelete (hs : (s.entry h).state = .ready ∨ (s.entry h).state = .damaged) : I (s.deletePortrait from_ h) := by
    rcases Nat.eq_zero_or_pos (s.entry h).pins with hp | hp
    · have hok : (s.ok from_ []).entry h = s.entry h := State.entry_send _ _ _ _
      rw [State.deletePortrait_accepted _ _ hh hs hp, ← hok]
      exact R.deleteEntry h (by rwa [hok]) (by rwa [hok]) (R.send _ _ hi)
    · rw [State.deletePortrait_pinned _ _ hh hs hp]; exact hrefuse _
  cases hs : (s.entry h).state with
  | free => rw [State.deletePortrait_notFound _ _ hh hs]; exact hrefuse _
  | filling => rw [State.deletePortrait_filling _ _ hh hs]; exact hrefuse _
  | ready => exact hdelete (.inl hs)
  | damaged => exact hdelete (.inr hs)

/-! ### Links and time (R136, R191, R192; log 2) -/

theorem StoreRules.linkDown (p : Port) (hi : I s) : I (s.linkDown p) := by
  unfold State.linkDown
  extract_lets _ down
  have hdown : I down := R.setPort p _ hi
  split
  · exact R.setWindow _ hdown
  · exact R.abandonUploads hdown
  · exact R.resetChannel _ _ (fun hs p => R.returnPlan p hs) hdown

theorem StoreRules.tick (hi : I s) : I s.tick :=
  R.elsewhere (s := (Config.upsets s.clock).foldl State.upset s.tickTimers) rfl rfl rfl rfl rfl rfl
    (List.foldlRecOn _ _ (R.tickTimers hi) fun _ hs u _ => R.upset u hs)

/-! ### Taking an order (R195) -/

theorem StoreRules.order_at {o : Order} {p : Port} {tag : Byte} {payload : Bytes} {block : State → Result} (hi : I s)
    (hb : lengthOk o payload = true → I (s.arrival p) → Yields I (block (s.arrival p))) :
    Yields I (takeOrder o p tag payload s block) := by
  have harrival : I (s.arrival p) := R.setPort p _ hi
  unfold takeOrder
  split
  · exact .next hi
  · exact .next (R.setPort p _ harrival)
  · exact .next (R.send _ _ harrival)
  · next hover =>
    refine hb ?_ harrival
    by_contra hlen
    unfold admission at hover
    split_ifs at hover

theorem StoreRules.order {o : Order} {p : Port} {tag : Byte} {payload : Bytes} {block : State → Result} (hi : I s)
    (hb : ∀ {u}, I u → Yields I (block u)) : Yields I (takeOrder o p tag payload s block) :=
  R.order_at hi fun _ => hb

/-- An order that its block answers with a next state. -/
theorem StoreRules.orderNext {o : Order} {p : Port} {tag : Byte} {payload : Bytes} {act : State → State} (hi : I s)
    (ha : ∀ {u}, I u → I (act u)) : Yields I (takeOrder o p tag payload s fun s => .next (act s)) :=
  R.order hi fun hu => .next (ha hu)

theorem StoreRules.pressOrder {o : Order} {p : Port} {tag : Byte} {payload : Bytes}
    {act : State → Sender → Fin 4 → State} (hi : I s) (ha : ∀ {u}, I u → ∀ f k, I (act u f k)) :
    Yields I (takePressOrder o p tag payload s act) := by
  refine R.order hi fun hu => ?_
  split
  · exact .next (ha hu _ _)
  · exact .next hu

/-! ### Every command -/

theorem StoreRules.exec (x : Instr) (hi : I s) : Yields I (exec x s) := by
  cases x with
  | porstAsserted => exact .next (R.powerOn _ _ _)
  | porstReleased => exact .next (R.powerOn _ _ _)
  | storeInitialisationEnd =>
    simp only [Machine.exec, execStoreInitialisationEnd]
    split
    · exact .next (R.elsewhere (s := { s with sc := { s.sc with store := [], errors := [] } }) rfl rfl rfl rfl rfl rfl
        (R.initialised hi))
    · exact .next hi
  | linkUp p =>
    simp only [Machine.exec, execLinkUp]
    split
    · exact .next hi
    · exact .next (R.setPort p _ hi)
  | idleFill p =>
    simp only [Machine.exec, execIdleFill]
    split
    · exact .next (R.setPort p _ hi)
    · exact .next hi
  | silenceTimerExpiry p =>
    simp only [Machine.exec, execSilenceTimerExpiry]
    split
    · exact .next (R.linkDown p hi)
    · exact .next hi
  | lineLoss p =>
    simp only [Machine.exec, execLineLoss]
    split
    · exact .next (R.linkDown p hi)
    · exact .next hi
  | frameDropped p frame =>
    simp only [Machine.exec, execFrameDropped]
    split
    · exact .next hi
    split
    · exact .next hi
    · exact .next (R.setPort p _ (R.setPort p _ hi))
  | frameDeparture p =>
    simp only [Machine.exec, execFrameDeparture]
    split
    · exact .next (R.setPort p _ hi)
    · exact .next hi
  | unknownOrder p tag code payload =>
    simp only [Machine.exec, execUnknownOrder]
    split
    · exact .next hi
    split
    · exact .next (R.setPort p _ (R.setPort p _ hi))
    split
    · exact .next hi
    · exact .next (R.send _ _ (R.setPort p _ hi))
  | defineLayout => exact R.orderNext hi fun hu => R.defineLayout _ _ hu
  | deleteLayout => exact R.orderNext hi fun hu => R.deleteLayout _ _ hu
  | queryLayout => exact R.orderNext hi fun {u} hu => R.touched (u.touches_queryLayout _ _) (hi := hu)
  | openClass => exact R.orderNext hi fun hu => R.openClass _ _ _ hu
  | addSubject => exact R.orderNext hi fun hu => R.addSubject _ _ hu
  | updateSubject => exact R.orderNext hi fun hu => R.updateSubject _ _ hu
  | removeSubject => exact R.orderNext hi fun hu => R.removeSubject _ _ _ hu
  | setTitle => exact R.orderNext hi fun hu => R.setTitle _ _ _ _ hu
  | rebindClass => exact R.orderNext hi fun hu => R.rebindClass _ _ _ hu
  | withdrawRebind => exact R.orderNext hi fun hu => R.withdrawRebind _ _ hu
  | freezeClass => exact R.orderNext hi fun hu => R.freezeClass _ _ hu
  | deleteClass => exact R.orderNext hi fun hu => R.deleteClass _ _ hu
  | queryClass => exact R.orderNext hi fun {u} hu => R.touched (u.touches_queryClass _ _ _) (hi := hu)
  | beginUpload => exact R.orderNext hi fun hu => R.beginUpload _ _ hu
  | putPixels p tag payload =>
    simp only [Machine.exec, execPutPixels]
    refine R.order_at hi fun hlen hu t ht => R.putPixels _ _ ?_ hu ht
    simp only [lengthOk, Bool.and_eq_true, decide_eq_true_eq] at hlen
    simp [readPixels, hlen.2]
  | endUpload => exact R.orderNext hi fun hu => R.onSlot _ _ _ R.endUploadOf hu
  | cancelUpload => exact R.orderNext hi fun hu => R.onSlot _ _ _ (fun hslot hv => R.failUpload _ _ hslot hv) hu
  | idleTimerExpiry slot =>
    simp only [Machine.exec, execIdleTimerExpiry]
    split
    · next u hu =>
      split
      · exact .next (R.failUpload _ _ hu hi)
      · exact .next hi
    · exact .next hi
  | deletePortrait => exact R.orderNext hi fun hu => R.deletePortrait _ _ hu
  | queryPortrait => exact R.orderNext hi fun {u} hu => R.touched (u.touches_queryPortrait _ _) (hi := hu)
  | queryStore => exact R.order hi fun hu => .next (R.ok _ _ hu)
  | openGlyphWindow => exact R.order hi fun hu => .next (R.setWindow _ (R.ok _ _ hu))
  | closeGlyphWindow => exact R.order hi fun hu => .next (R.setWindow _ (R.ok _ _ hu))
  | loadGlyph => exact R.orderNext hi fun hu => R.loadGlyph _ _ hu
  | queryGlyph =>
    exact R.order hi fun {u} hu => .next (R.touched (u.touches_ite_refuse_ok _ _ _ _) (hi := hu))
  | planningStartStep =>
    simp only [Machine.exec, execPlanningStartStep]
    split
    · exact .next (R.startStep _ hi)
    · exact .next hi
  | planningCompletion =>
    simp only [Machine.exec, execPlanningCompletion]
    split
    · exact .next (R.touched (s.touches_completePlanning _) (hi := hi))
    · exact .next hi
  | configureChannel =>
    exact R.pressOrder hi fun {u} hu f k => R.touched (u.touches_configureChannel f k _) (hi := hu)
  | enableChannel => exact R.pressOrder hi fun {u} hu f k => R.touched (u.touches_enableChannel f k) (hi := hu)
  | disableChannel => exact R.pressOrder hi fun {u} hu f k => R.touched (u.touches_disableChannel f k) (hi := hu)
  | queuePage => exact R.pressOrder hi fun {u} hu f k => R.touched (u.touches_queuePage f k _ _ _) (hi := hu)
  | cancelPage => exact R.pressOrder hi fun {u} hu f k => R.touched (u.touches_cancelPage f k _ _) (hi := hu)
  | sheetReady =>
    simp only [Machine.exec, execSheetReady]
    exact R.pressOrder hi fun {u} hu f k => R.touched (u.touches_takeTrigger f k _) (hi := hu)
  | start =>
    simp only [Machine.exec, execStart]
    refine R.order hi fun {u} hu => ?_
    split
    · exact .next (R.refuse _ _ hu)
    · exact .next (R.touched (u.touches_takeTrigger _ _ _) (hi := hu))
  | grantBands => exact R.pressOrder hi fun {u} hu f k => R.touched (u.touches_grantBands f k _) (hi := hu)
  | abortPage => exact R.pressOrder hi fun hu f k => R.abortPage f k hu
  | channelReset =>
    exact R.pressOrder hi fun hu f k => R.resetChannel k _ (fun hs p => R.returnPlan p hs) (R.ok _ _ hu)
  | queryChannel =>
    simp only [Machine.exec, execQueryChannel]
    refine R.order hi fun hu => ?_
    split
    · exact .next (R.refuse _ _ hu)
    · exact .next (R.ok _ _ hu)
  | engineGrant =>
    simp only [Machine.exec, execEngineGrant]
    split
    · exact .next (R.touched (s.touches_grantEngine _) (hi := hi))
    · exact .next hi
  | rowData =>
    simp only [Machine.exec, execRowData]
    split
    · exact .next (R.row _ hi)
    · exact .next hi
  | bandEnd =>
    simp only [Machine.exec, execBandEnd]
    split
    · split
      · exact .next hi
      · exact .next (R.row _ hi)
    · exact .next hi
  | stallTimerExpiry k =>
    simp only [Machine.exec, execStallTimerExpiry]
    split
    · exact .next (R.stall k hi)
    · exact .next hi
  | scrubTimerExpiry =>
    simp only [Machine.exec, execScrubTimerExpiry]
    split
    · exact .next (R.scrub (R.touched (s.touches_sel _) (hi := hi)))
    · exact .next hi
  | clearErrorLog => exact R.order hi fun hu => .next (R.touched (State.touches_sel _ _) (hi := R.ok _ _ hu))
  | hallClear =>
    simp only [Machine.exec, execHallClear]
    exact R.order hi fun hu => .next (R.hallClear (R.ok _ _ hu))
  | queryLink => exact R.order hi fun hu => .next (R.setPort _ _ (R.ok _ _ hu))

/-- Every step keeps an invariant of the rules: the front command, with the queue's rest, or an idle millisecond. -/
theorem StoreRules.step (hi : I s) (hstep : step s = .next t) : I t := by
  unfold Machine.step at hstep
  split at hstep
  · cases hstep
    exact R.tick hi
  · next x rest _ =>
    have hrest : I { s with pending := rest } := R.elsewhere (s := s) rfl rfl rfl rfl rfl rfl hi
    exact R.exec x hrest t hstep

end Pages

end Sys2Proof.Machine
end

section
/-! PROOFS. Every sparse table keeps its canonical form at every step (O56), by the rules of the induction. -/

set_option Elab.async false

namespace Sys2Proof.Machine

variable {s t : State}

/-! ### Single updates -/

theorem State.canonical.setEntry (hs : s.canonical) (h : Nat) (v : DirEntry) : (s.setEntry h v).canonical := by
  obtain ⟨hlayouts, hclasses, hmap, hstore, herrors, hpdir, hglyphs⟩ := hs
  exact ⟨hlayouts, hclasses, hmap, hstore, herrors, Table.wf_set _ _ _ _ hpdir, hglyphs⟩

theorem State.canonical.setCluster (hs : s.canonical) (c : Nat) (v : ClusterEntry) : (s.setCluster c v).canonical := by
  obtain ⟨hlayouts, hclasses, hmap, hstore, herrors, hpdir, hglyphs⟩ := hs
  exact ⟨hlayouts, hclasses, Table.wf_set _ _ _ _ hmap, hstore, herrors, hpdir, hglyphs⟩

/-- Counts, reservations and the cursor are no tables. -/
theorem State.canonical.setCounts (hs : s.canonical) (free retired reserved cursor : Nat) :
    ({ s with sc := { s.sc with
      freeCount := free, retiredCount := retired, reserved := reserved, cursor := cursor } } : State).canonical := hs

/-- The store and the wrong bits of a word are written. -/
theorem State.canonical.setStore (hs : s.canonical) {store : List Host.Cell} (hstore : Memory.wf store = true) (w : Nat)
    (v : BitVec 72) :
    ({ s with sc := { s.sc with store := store, errors := Table.set 0#72 s.sc.errors w v } } : State).canonical := by
  obtain ⟨hlayouts, hclasses, hmap, -, herrors, hpdir, hglyphs⟩ := hs
  exact ⟨hlayouts, hclasses, hmap, hstore, Table.wf_set _ _ _ _ herrors, hpdir, hglyphs⟩

theorem State.canonical.store (hs : s.canonical) : Memory.wf s.sc.store = true := by
  obtain ⟨-, -, -, hstore, -, -, -⟩ := hs
  exact hstore

/-- The Ingest Engine is no table. -/
theorem State.canonical.setIngest (hs : s.canonical) (v : IngestEngine) : ({ s with ie := v } : State).canonical := hs

/-- The blocks outside the store set their tables entry by entry. -/
theorem hallRules_canonical : HallRules State.canonical where
  elsewhere hlayouts hru hsc hpdir _ hgs hs := by simpa only [State.canonical, hlayouts, hru, hsc, hpdir, hgs] using hs
  setLayout n v hs := by
    obtain ⟨hlayouts, hrest⟩ := hs
    exact ⟨Table.wf_set _ _ _ _ hlayouts, hrest⟩
  setClass c r hs := by
    obtain ⟨hlayouts, hclasses, hrest⟩ := hs
    exact ⟨hlayouts, Table.wf_set _ _ _ _ hclasses, hrest⟩
  setPool _ hs := hs
  setGlyph := fun {s} code g hs => by
    obtain ⟨hlayouts, hclasses, hmap, hstore, herrors, hpdir, hglyphs⟩ := hs
    exact ⟨hlayouts, hclasses, hmap, hstore, herrors, hpdir,
      Table.wf_set (none : Option Glyph) s.gs.glyphs code (some g) hglyphs⟩
  setGlyphState _ _ hs := hs

/-! ### Chains (R48, R50) -/

theorem State.canonical.freeCluster (hs : s.canonical) (c : Nat) : (s.freeCluster c).canonical := by
  unfold State.freeCluster
  split
  · exact hs
  · split
    · exact (hs.setCluster c _).setCounts _ _ _ _
    · exact (hs.setCluster c _).setCounts _ _ _ _

theorem State.canonical.freeChain (hs : s.canonical) (first : Nat) : (s.freeChain first).canonical :=
  List.foldlRecOn _ _ hs fun _ hu c _ => hu.freeCluster c

theorem State.canonical.relabelChain (hs : s.canonical) (first : Nat) (kind : ChainKind) :
    (s.relabelChain first kind).canonical :=
  List.foldlRecOn _ _ hs fun _ hu c _ => hu.setCluster c _

theorem State.canonical.freeImage (hs : s.canonical) (image : Option ImageRecord) : (s.freeImage image).canonical := by
  cases image with
  | none => exact hs
  | some r => exact hs.freeChain r.first

theorem State.canonical.markCluster (hs : s.canonical) (c : Nat) : (s.markCluster c).canonical := by
  unfold State.markCluster
  split
  · exact hs.setCluster c _
  · exact hs.setCluster c _
  · exact hs
  · exact hs

theorem State.canonical.appendCluster (hs : s.canonical) (handle : Nat) (last? : Option Nat) (c : Nat) :
    (s.appendCluster handle last? c).canonical := by
  unfold State.appendCluster
  extract_lets owner linked owned
  have hlinked : linked.canonical := by
    simp only [linked]
    split
    · exact hs
    · split
      · exact hs.setCluster _ _
      · exact hs
  exact (hlinked.setCluster c _).setCounts _ _ _ _

/-! ### Entries and uploads (R54 to R64, R76 to R84) -/

theorem State.canonical.notice (hs : s.canonical) (p : Port) (n : Notice) (payload : Bytes) :
    (s.notice p n payload).canonical := hallRules_canonical.send p _ hs

theorem State.canonical.makeReady (hs : s.canonical) (h : Nat) (e : DirEntry) (image : ImageRecord) :
    (s.makeReady h e image).canonical := by
  unfold State.makeReady
  extract_lets ready
  split
  · exact hs.setEntry h _
  · exact hallRules_canonical.reportEntry h (hs.setEntry h _)

theorem State.canonical.swap (hs : s.canonical) (h : Nat) : (s.swap h).canonical := by
  unfold State.swap
  extract_lets e
  split
  · exact hs
  · exact (((hs.freeImage _).relabelChain _ _).makeReady h _ _).notice _ _ _

theorem State.canonical.unpin (hs : s.canonical) (h : Nat) : (s.unpin h).canonical := by
  unfold State.unpin
  extract_lets n lowered
  split
  · exact (hs.setEntry h _).swap h
  · exact hs.setEntry h _

theorem State.canonical.cleanUp (hs : s.canonical) (k : Fin 4) (u : UploadRecord) : (s.cleanUp k u).canonical := by
  rw [State.cleanUp_steps, State.disclaim_eq]
  refine ((State.canonical.setEntry (State.canonical.setCounts ?_ _ _ _ _) _ _).setIngest _)
  unfold State.freeUpload
  split
  · exact hs.freeChain _
  · exact hs

theorem State.canonical.failUpload (hs : s.canonical) (k : Fin 4) (u : UploadRecord) (o : UploadOutcome) :
    (s.failUpload k u o).canonical := (hs.cleanUp k u).notice _ _ _

theorem State.canonical.handOver (hs : s.canonical) (k : Fin 4) (u : UploadRecord) : (s.handOver k u).canonical := by
  have hclosed : (s.closeSlot k).canonical := hs.setIngest _
  unfold State.handOver
  extract_lets e image closed
  split
  · exact ((hclosed.relabelChain _ _).makeReady _ _ _).notice _ _ _
  · split
    · exact (((hclosed.relabelChain _ _).freeImage _).makeReady _ _ _).notice _ _ _
    · exact ((hclosed.relabelChain _ _).setEntry _ _).notice _ _ _

theorem State.canonical.deleteEntry (hs : s.canonical) (h : Nat) (e : DirEntry) : (s.deleteEntry h e).canonical := by
  cases ho : s.openOn e with
  | none =>
    rw [State.deleteEntry_idle ho]
    exact (hs.freeImage _).setEntry h _
  | some ku =>
    rw [State.deleteEntry_open ho]
    exact (((hs.cleanUp _ _).freeImage _).setEntry h _).notice _ _ _

theorem State.canonical.openUpload (hs : s.canonical) (k : Fin 4) (f : UploadForm) : (s.openUpload k f).canonical := by
  have hclaimed : (s.claim f.handle k (modeOf f.mode)).canonical := by
    unfold State.claim
    extract_lets e
    split
    · exact hs.setEntry _ _
    · exact hs.setEntry _ _
  exact State.canonical.setIngest (State.canonical.setIngest (hclaimed.setCounts _ _ _ _) _) _

theorem State.canonical.writeByte (hs : s.canonical) (a : Nat) (b : Byte) : (s.writeByte a b).canonical :=
  hs.setStore (Memory.wf_write _ _ _ hs.store) _ _

/-- What a byte written to an upload does to the store: a cluster may be appended first, and then the byte is written. -/
theorem State.putByte_cases {u v : UploadRecord} {b : Byte} (h : s.putByte u b = some (t, v)) :
    ∃ w : State, (w = s ∨ ∃ last? c, w = s.appendCluster u.handle last? c) ∧ ∃ a, t = w.writeByte a b := by
  have halloc : ∀ {x}, (if u.received = u.held * Config.clusterBytes then s.allocate u else some (s, u)) = some x →
      x.1 = s ∨ ∃ last? c, x.1 = s.appendCluster u.handle last? c := by
    intro x hx
    split at hx
    · unfold State.allocate at hx
      split at hx
      · cases hx
      · cases hx
        exact .inr ⟨_, _, rfl⟩
    · cases hx
      exact .inl rfl
  unfold State.putByte at h
  simp only at h
  split at h
  · cases h
  · next htaken =>
    split at h
    · cases h
    · cases h
      exact ⟨_, halloc htaken, _, rfl⟩

theorem State.canonical.putBytes {u v : UploadRecord} {bytes : Bytes} (hs : s.canonical)
    (h : s.putBytes u bytes = some (t, v)) : t.canonical := by
  induction bytes generalizing s u with
  | nil => cases h; exact hs
  | cons b rest ih =>
    unfold State.putBytes at h
    split at h
    · cases h
    · next hb =>
      obtain ⟨w, hw, a, rfl⟩ := State.putByte_cases hb
      refine ih (State.canonical.writeByte ?_ a b) h
      rcases hw with rfl | ⟨last?, c, rfl⟩
      · exact hs
      · exact hs.appendCluster _ _ _

/-! ### Faults (R180 to R186) -/

theorem State.canonical.coverReservations (hs : s.canonical) (fuel : Nat) : (s.coverReservations fuel).canonical := by
  induction fuel generalizing s with
  | zero => exact hs
  | succ n ih =>
    unfold State.coverReservations
    split
    · split
      · exact ih (hs.failUpload _ _ _)
      · exact hs
    · exact hs

theorem State.canonical.currentFault (hs : s.canonical) (h c : Nat) : (s.currentFault h c).canonical := by
  unfold State.currentFault
  split
  · exact hs
  · extract_lets marked e damaged flagged payload
    have hdamaged : damaged.canonical := by
      simp only [damaged]
      split
      · exact (hs.markCluster c).setEntry h _
      · exact hs.markCluster c
    exact State.canonical.notice (State.canonical.notice
      (hallRules_canonical.touched (damaged.touches_flagPages h) (hi := hdamaged)) _ _ _) _ _ _

theorem State.canonical.pendingFault (hs : s.canonical) (h c : Nat) : (s.pendingFault h c).canonical := by
  unfold State.pendingFault
  extract_lets marked e
  split
  · exact hs.markCluster c
  · exact (((hs.markCluster c).setEntry h _).freeChain _).notice _ _ _

theorem State.canonical.uploadFault (hs : s.canonical) (h c : Nat) : (s.uploadFault h c).canonical := by
  unfold State.uploadFault
  extract_lets marked
  split
  · exact (hs.markCluster c).failUpload _ _ _
  · exact hs.markCluster c

theorem State.canonical.takeFault (hs : s.canonical) (kind : FaultKind) (c offset : Nat) (syndrome : BitVec 8)
    (channel : Option (Fin 4)) : (s.takeFault kind c offset syndrome channel).canonical := by
  unfold State.takeFault
  simp only
  refine hallRules_canonical.touched (State.touches_offerLog _ _) (hi := ?_)
  split
  · exact hs.currentFault _ _
  · exact hs.pendingFault _ _
  · exact hs.uploadFault _ _
  · split
    · exact ((hs.setCluster c _).setCounts _ _ _ _).coverReservations _
    · exact hs

/-! ### Hall Clear (R68, R205) -/

/-- The Cluster Map that is left holds RETIRED clusters of the old one. -/
theorem State.mem_clearStore {e : Nat × ClusterEntry} (he : e ∈ s.clearStore.sc.map) :
    e.2 = .retired ∧ ∃ x ∈ s.sc.map, x.1 = e.1 := by
  obtain ⟨x, hx, heq⟩ := List.mem_filterMap.mp he
  split at heq
  · cases heq
    exact ⟨rfl, x, hx, rfl⟩
  · cases heq

/-- The entries that stay RETIRED keep their places in the table. -/
theorem State.wf_clearStore (hmap : Table.wf ClusterEntry.free s.sc.map = true) :
    Table.wf ClusterEntry.free s.clearStore.sc.map = true := by
  obtain ⟨-, hrising⟩ := (Table.wf_iff _ _).mp hmap
  refine (Table.wf_iff _ _).mpr ⟨fun e he => ?_, ?_⟩
  · rw [(State.mem_clearStore he).1]
    simp
  · refine List.pairwise_filterMap.mpr (hrising.imp fun {a b} hab x hx y hy => ?_)
    split at hx
    · split at hy
      · cases hx; cases hy; exact hab
      · cases hy
    · cases hx

theorem State.canonical.clearStore (hs : s.canonical) : s.clearStore.canonical := by
  obtain ⟨hlayouts, hclasses, hmap, hstore, herrors, hpdir, hglyphs⟩ := hs
  exact ⟨hlayouts, hclasses, State.wf_clearStore hmap, hstore, herrors, hpdir, hglyphs⟩

theorem State.canonical.returnPlanQuietly (hs : s.canonical) (p : Snapshot) : (s.returnPlanQuietly p).canonical := by
  have hpins : (p.handles.foldl State.unpinQuietly s).canonical :=
    List.foldlRecOn _ _ hs fun _ hu h _ => hu.setEntry h _
  exact hallRules_canonical.lowerPages (hallRules_canonical.setClass p.classNo _ hpins)

theorem State.canonical.hallClear (hs : s.canonical) : s.hallClear.canonical := by
  unfold State.hallClear
  extract_lets reset uploads stored emptied
  have hreset : reset.canonical := List.foldlRecOn _ _ hs fun _ hu k _ =>
    hallRules_canonical.resetChannel k _ (fun hv p => hv.returnPlanQuietly p) hu
  have hstored : stored.canonical :=
    State.canonical.clearStore (List.foldlRecOn _ _ hreset fun _ hu ku _ => hu.cleanUp ku.1 ku.2)
  clear_value stored
  have hemptied : emptied.canonical := by
    obtain ⟨-, -, hmap, hstore, herrors, -, hglyphs⟩ := hstored
    exact ⟨rfl, rfl, hmap, hstore, herrors, rfl, hglyphs⟩
  exact hallRules_canonical.touched (Touches.foldl (fun s (ku : Fin 4 × UploadRecord) =>
    s.touches_uploadResult ku.1 ku.2 _ _) _ _) (hi := hemptied)

/-! ### The statement -/

theorem storeRules_canonical : StoreRules State.canonical where
  toHallRules := hallRules_canonical
  powerOn _ _ _ := ⟨rfl, rfl, rfl, rfl, rfl, rfl, rfl⟩
  initialised hs := by
    obtain ⟨hlayouts, hclasses, hmap, -, -, hpdir, hglyphs⟩ := hs
    exact ⟨hlayouts, hclasses, hmap, rfl, rfl, hpdir, hglyphs⟩
  pin h _ hs := hs.setEntry h _
  unpin h hs := hs.unpin h
  openUpload k f _ _ _ _ hs := hs.openUpload k f
  putBytes _ _ _ _ _ h hs := (hs.putBytes h).setIngest _
  handOver k _ _ hs := hs.handOver k _
  failUpload k o _ hs := hs.failUpload k _ o
  abandonUploads hs := List.foldlRecOn _ _ hs fun _ hu ku _ => hu.cleanUp ku.1 ku.2
  deleteEntry h _ _ hs := hs.deleteEntry h _
  takeFault kind _ _ _ _ _ hs := hs.takeFault kind _ _ _ _
  writeBack _ _ hs := hs.setStore (Memory.wf_writeWord _ _ _ hs.store) _ _
  hallClear hs := hs.hallClear
  upset u hs := by
    unfold State.upset
    extract_lets before after
    split
    · exact hs.setStore (Memory.wf_writeWord _ _ _ hs.store) _ _
    · exact hs
  tickTimers hs := hs

/-- Settles O56: the canonical form is an invariant of the rules. -/
theorem stepKeepsCanonicalForm : Obligations.StepKeepsCanonicalForm :=
  fun _ _ hs hstep => storeRules_canonical.step hs hstep

end Sys2Proof.Machine
end

section
/-! PROOFS. The Cluster Map and its counts by themselves (R43, R46): the numbers of a table in its canonical form, and what each
change of a cluster does to the free and the retired count. -/

set_option Elab.async false

namespace Sys2Proof.Machine

variable {s t : State}

/-! ### Tables in their canonical form -/

section Tables

variable {α : Type} [DecidableEq α] {d : α} {t : Table α}

/-- A table in its canonical form lists a number with the value a read gives, unless it is that of an unlisted number. -/
theorem Table.mem_iff (hw : Table.wf d t = true) {n : Nat} {v : α} : (n, v) ∈ t ↔ v ≠ d ∧ Table.get d t n = v := by
  induction t with
  | nil => simp [eq_comm]
  | cons e rest ih =>
    obtain ⟨k, w⟩ := e
    obtain ⟨hne, hrest, hw'⟩ := (Table.wf_cons d _ _).mp hw
    rw [List.mem_cons, ih hw']
    by_cases hk : k = n
    · subst hk
      have habsent : Table.get d rest k = d := Table.get_of_absent d rest k fun e he => Nat.ne_of_gt (hrest e he)
      simp only [Prod.mk.injEq, true_and, habsent, Table.get, if_true]
      constructor
      · rintro (rfl | ⟨hv, hd⟩)
        · exact ⟨hne, rfl⟩
        · exact absurd hd.symm hv
      · rintro ⟨-, rfl⟩
        exact .inl rfl
    · simp [Table.get, hk, Ne.symm hk]

theorem Table.nodup_keys (hw : Table.wf d t = true) : (t.map Prod.fst).Nodup := by
  obtain ⟨-, hrising⟩ := (Table.wf_iff d t).mp hw
  exact List.pairwise_map.mpr (hrising.imp Nat.ne_of_lt)

/-- The listed numbers are those that do not read as an unlisted one. -/
theorem Table.mem_keys_iff (hw : Table.wf d t = true) {n : Nat} : n ∈ t.map Prod.fst ↔ Table.get d t n ≠ d := by
  simp only [List.mem_map, Prod.exists, exists_and_right, exists_eq_right, Table.mem_iff hw]
  exact ⟨fun ⟨v, hv, hg⟩ => hg ▸ hv, fun h => ⟨_, h, rfl⟩⟩

/-- A set lists no number that was not listed, but its own. -/
theorem Table.mem_set {n : Nat} {v : α} {e : Nat × α} (h : e ∈ Table.set d t n v) : e = (n, v) ∧ v ≠ d ∨ e ∈ t := by
  unfold Table.set at h
  simp only at h
  split at h
  · exact .inr (List.mem_filter.mp h).1
  · next hv =>
    rcases Table.mem_insert.mp h with rfl | h
    · exact .inl ⟨rfl, hv⟩
    · exact .inr (List.mem_filter.mp h).1

theorem Table.others_insert {α : Type} {t : Table α} {n : Nat} {v : α} :
    (Table.insert n v t).filter (fun e => decide (e.1 ≠ n)) = t.filter (fun e => decide (e.1 ≠ n)) := by
  induction t with
  | nil => simp [Table.insert]
  | cons e rest ih =>
    unfold Table.insert
    split
    · simp
    · rw [List.filter_cons, List.filter_cons, ih]

/-- A number's last value counts. -/
theorem Table.set_set (n : Nat) (v w : α) : Table.set d (Table.set d t n v) n w = Table.set d t n w := by
  have hothers : (Table.set d t n v).filter (fun e => decide (e.1 ≠ n)) = t.filter (fun e => decide (e.1 ≠ n)) := by
    by_cases hv : v = d
    · simp [Table.set, hv]
    · simp only [Table.set, hv, if_false, Table.others_insert]
      simp
  simp only [Table.set] at hothers ⊢
  rw [hothers]

end Tables

/-! ### The counts of the Cluster Map -/

/-- What an entry counts among the clusters that are not FREE. -/
def ClusterEntry.taken (e : ClusterEntry) : Nat := if e = .free then 0 else 1

/-- What an entry counts among the RETIRED clusters. -/
def ClusterEntry.lost (e : ClusterEntry) : Nat := if e = .retired then 1 else 0

theorem length_eq_sum_taken {map : Table ClusterEntry} (hw : Table.wf .free map = true) :
    map.length = (map.map (fun e => e.2.taken)).sum := by
  obtain ⟨hne, -⟩ := (Table.wf_iff _ _).mp hw
  have hone : map.map (fun e => e.2.taken) = map.map (fun _ => 1) :=
    List.map_congr_left fun e he => if_neg (hne e he)
  simp [hone]

theorem length_filter_retired (map : Table ClusterEntry) :
    (map.filter (fun e => decide (e.2 = ClusterEntry.retired))).length = (map.map (fun e => e.2.lost)).sum := by
  induction map with
  | nil => rfl
  | cons e rest ih =>
    by_cases he : e.2 = .retired
    · simp [he, ih, ClusterEntry.lost, Nat.add_comm]
    · simp [he, ih, ClusterEntry.lost]

/-- The Store Controller as R42, R43 and R46 have it: every cluster and every word in error is one of the store's, and the
free and the retired count are those of the Cluster Map. -/
structure StoreController.Sound (c : StoreController) : Prop where
  map : Table.wf .free c.map = true
  clusters : ∀ e ∈ c.map, e.1 < 131072
  words : ∀ e ∈ c.errors, e.1 < 131072 * 8192
  free : c.freeCount + c.map.length = 131072
  retired : c.retiredCount = (c.map.filter (fun e => decide (e.2 = ClusterEntry.retired))).length
  cursor : c.cursor < 131072

/-- A cluster that is not FREE is one of the store's. -/
theorem StoreController.Sound.lt {c : StoreController} (h : c.Sound) {n : Nat} (hn : Table.get .free c.map n ≠ .free) :
    n < 131072 :=
  h.clusters (n, _) ((Table.mem_iff h.map).mpr ⟨hn, rfl⟩)

/-- A cluster takes another entry, and the counts follow. -/
theorem StoreController.Sound.set {c : StoreController} (h : c.Sound) {n : Nat} {v : ClusterEntry} {free retired : Nat}
    (hn : n < 131072 ∨ v = .free) (hfree : free + v.taken = c.freeCount + (Table.get .free c.map n).taken)
    (hretired : retired + (Table.get .free c.map n).lost = c.retiredCount + v.lost) :
    StoreController.Sound { c with
      map := Table.set .free c.map n v, freeCount := free, retiredCount := retired } where
  map := Table.wf_set _ _ _ _ h.map
  clusters e he := by
    rcases Table.mem_set he with ⟨rfl, hv⟩ | he
    · exact hn.resolve_right hv
    · exact h.clusters e he
  words := h.words
  free := by
    have hsum := Table.sum_set .free ClusterEntry.taken rfl c.map n v h.map
    have hlen := h.free
    rw [length_eq_sum_taken h.map] at hlen
    change free + (Table.set ClusterEntry.free c.map n v).length = 131072
    rw [length_eq_sum_taken (Table.wf_set _ _ _ _ h.map)]
    omega
  retired := by
    have hsum := Table.sum_set .free ClusterEntry.lost rfl c.map n v h.map
    have hlost := h.retired
    rw [length_filter_retired] at hlost ⊢
    change retired = ((Table.set ClusterEntry.free c.map n v).map (fun e => e.2.lost)).sum
    omega
  cursor := h.cursor

/-- The reservation total and the bytes of the store are no part of it. -/
theorem StoreController.Sound.setReserved {c : StoreController} (h : c.Sound) (reserved : Nat) :
    StoreController.Sound { c with reserved := reserved } := ⟨h.map, h.clusters, h.words, h.free, h.retired, h.cursor⟩

theorem StoreController.Sound.setCursor {c : StoreController} (h : c.Sound) {cursor : Nat} (hc : cursor < 131072) :
    StoreController.Sound { c with cursor := cursor } := ⟨h.map, h.clusters, h.words, h.free, h.retired, hc⟩

theorem StoreController.Sound.setWord {c : StoreController} (h : c.Sound) (store : List Host.Cell) {w : Nat} {v : BitVec 72}
    (hw : w < 131072 * 8192 ∨ v = 0#72) :
    StoreController.Sound { c with store := store, errors := Table.set 0#72 c.errors w v } where
  map := h.map
  clusters := h.clusters
  words e he := by
    rcases Table.mem_set he with ⟨rfl, hv⟩ | he
    · exact hw.resolve_right hv
    · exact h.words e he
  free := h.free
  retired := h.retired
  cursor := h.cursor

/-- A word in error is one of the store's. -/
theorem StoreController.Sound.word_lt {c : StoreController} (h : c.Sound) {w : Nat}
    (hw : Table.get 0#72 c.errors w ≠ 0#72) : w < 131072 * 8192 := by
  by_contra hlt
  exact hw (Table.get_of_absent _ _ _ fun e he heq => hlt (heq ▸ h.words e he))

/-- While a cluster of the store is FREE the free count is not 0. -/
theorem StoreController.Sound.free_pos {c : StoreController} (h : c.Sound) {n : Nat} (hn : n < 131072)
    (hfree : Table.get .free c.map n = .free) : 0 < c.freeCount := by
  have hsub : (c.map.map Prod.fst).toFinset ⊆ (Finset.range 131072).erase n := fun m hm => by
    have hm := (Table.mem_keys_iff h.map).mp (List.mem_toFinset.mp hm)
    exact Finset.mem_erase.mpr ⟨fun he => hm (he ▸ hfree), Finset.mem_range.mpr (h.lt hm)⟩
  have hcard := Finset.card_le_card hsub
  rw [List.toFinset_card_of_nodup (Table.nodup_keys h.map), Finset.card_erase_of_mem (Finset.mem_range.mpr hn),
    Finset.card_range, List.length_map] at hcard
  have := h.free
  omega

/-- While the free count is not 0 an allocation finds a cluster (R50). -/
theorem State.nextFree_of_freeCount (h : s.sc.Sound) (hpos : 0 < s.sc.freeCount) : s.nextFree ≠ none := by
  intro hnone
  have hall := ((allocationTakesNextFree s h.cursor.le).2.mp hnone)
  have hsub : Finset.range 131072 ⊆ (s.sc.map.map Prod.fst).toFinset := fun m hm =>
    List.mem_toFinset.mpr ((Table.mem_keys_iff h.map).mpr (hall m (Finset.mem_range.mp hm)))
  have hcard := Finset.card_le_card hsub
  rw [List.toFinset_card_of_nodup (Table.nodup_keys h.map), Finset.card_range, List.length_map] at hcard
  have := h.free
  omega

/-! ### What the Store Controller's operations keep -/

/-- An operation on the Cluster Map that keeps its counts right; reservations stay and no cluster becomes less FREE. -/
structure KeepsCounts (s t : State) : Prop where
  sound : s.sc.Sound → t.sc.Sound
  reserved : t.sc.reserved = s.sc.reserved
  free : s.sc.freeCount ≤ t.sc.freeCount

theorem KeepsCounts.refl (s : State) : KeepsCounts s s := ⟨id, rfl, le_rfl⟩

theorem KeepsCounts.trans {u : State} (h : KeepsCounts s t) (h2 : KeepsCounts t u) : KeepsCounts s u :=
  ⟨h2.sound ∘ h.sound, h2.reserved.trans h.reserved, h.free.trans h2.free⟩

theorem KeepsCounts.foldl {α : Type} {f : State → α → State} (h : ∀ s a, KeepsCounts s (f s a)) (l : List α) (s : State) :
    KeepsCounts s (l.foldl f s) := List.foldlRecOn _ _ (KeepsCounts.refl s) fun _ hu a _ => hu.trans (h _ a)

/-- A cluster takes an entry that counts as its old one. -/
theorem State.keepsCounts_setCluster (s : State) {c : Nat} {v : ClusterEntry} (htaken : v.taken = (s.cluster c).taken)
    (hlost : v.lost = (s.cluster c).lost) (hc : s.cluster c = .free → v = .free) : KeepsCounts s (s.setCluster c v) where
  sound h := h.set (or_iff_not_imp_right.mpr fun hv => h.lt (mt hc hv))
    (congrArg (s.sc.freeCount + ·) htaken) (congrArg (s.sc.retiredCount + ·) hlost.symm)
  reserved := rfl
  free := le_rfl

theorem State.keepsCounts_freeCluster (s : State) (c : Nat) : KeepsCounts s (s.freeCluster c) := by
  cases ho : (s.cluster c).owner?.isSome with
  | false =>
    rw [State.freeCluster_unchained ho]
    exact KeepsCounts.refl s
  | true =>
    obtain ⟨hfree, hretired⟩ := ClusterEntry.owner?_isSome_iff.mp ho
    have htaken : (s.cluster c).taken = 1 := if_neg hfree
    have hlost : (s.cluster c).lost = 0 := if_neg hretired
    rw [State.freeCluster_chained ho]
    refine ⟨fun h => h.set (.inl (h.lt hfree)) ?_ ?_, rfl, Nat.le_add_right _ _⟩
    · change _ = _ + (s.cluster c).taken
      rw [htaken]
      cases hm : (s.cluster c).suspect <;> simp [ClusterEntry.freed, hm, ClusterEntry.taken]
    · change _ + (s.cluster c).lost = _
      rw [hlost]
      cases hm : (s.cluster c).suspect <;> simp [ClusterEntry.freed, hm, ClusterEntry.lost]

theorem State.keepsCounts_freeChain (s : State) (first : Nat) : KeepsCounts s (s.freeChain first) :=
  KeepsCounts.foldl State.keepsCounts_freeCluster _ s

theorem State.keepsCounts_freeImage (s : State) (image : Option ImageRecord) : KeepsCounts s (s.freeImage image) := by
  cases image with
  | none => exact KeepsCounts.refl s
  | some r => exact s.keepsCounts_freeChain r.first

theorem State.keepsCounts_freeUpload (s : State) (u : UploadRecord) : KeepsCounts s (s.freeUpload u) := by
  unfold State.freeUpload
  split
  · exact s.keepsCounts_freeChain _
  · exact KeepsCounts.refl s

theorem State.keepsCounts_relabelChain (s : State) (first : Nat) (kind : ChainKind) :
    KeepsCounts s (s.relabelChain first kind) := by
  refine KeepsCounts.foldl (f := fun s c => s.setCluster c ((s.cluster c).relabel kind)) (fun s c => ?_) _ s
  refine s.keepsCounts_setCluster ?_ ?_ fun hc => by rw [hc]; rfl
  · cases he : s.cluster c <;> simp [ClusterEntry.relabel, ClusterEntry.taken]
  · cases he : s.cluster c <;> simp [ClusterEntry.relabel, ClusterEntry.lost]

theorem State.keepsCounts_markCluster (s : State) (c : Nat) : KeepsCounts s (s.markCluster c) := by
  unfold State.markCluster
  split
  · next he => exact s.keepsCounts_setCluster (by simp [he, ClusterEntry.taken]) (by simp [he, ClusterEntry.lost]) (by simp [he])
  · next he => exact s.keepsCounts_setCluster (by simp [he, ClusterEntry.taken]) (by simp [he, ClusterEntry.lost]) (by simp [he])
  · exact KeepsCounts.refl s
  · exact KeepsCounts.refl s

end Sys2Proof.Machine
end

section
/-! PROOFS. Chains by their owner (R43, R44): one owner's clusters run along one chain and no other cluster is its own. What
freeing, relabelling, marking and allocating do to one owner's chain, and that they leave every other owner's as it is. -/

set_option Elab.async false

namespace Sys2Proof.Machine

variable {s t : State}

/-! ### A run of clusters -/

section Runs

variable {map map' : Table ClusterEntry} {o : Owner} {l l' : List Nat}

/-- The clusters of a list are an owner's and lead from one to the next, the last one to none. -/
def Runs (map : Table ClusterEntry) (o : Owner) : List Nat → Prop
  | [] => True
  | c :: rest => (Table.get .free map c).link = some rest.head? ∧ (Table.get .free map c).owner? = some o ∧ Runs map o rest

theorem Runs.owner (h : Runs map o l) {c : Nat} (hc : c ∈ l) : (Table.get .free map c).owner? = some o := by
  induction l with
  | nil => cases hc
  | cons d rest ih =>
    obtain ⟨-, ho, hrest⟩ := h
    rcases List.mem_cons.mp hc with rfl | hc
    · exact ho
    · exact ih hrest hc

theorem Runs.suffix {a : List Nat} (h : Runs map o (a ++ l)) : Runs map o l := by
  induction a with
  | nil => exact h
  | cons c rest ih => exact ih h.2.2

/-- A cluster leads to one run only. -/
theorem Runs.eq_of_head (h : Runs map o l) (h' : Runs map o l') (hhead : l.head? = l'.head?) : l = l' := by
  induction l generalizing l' with
  | nil => exact (List.head?_eq_none_iff.mp hhead.symm).symm
  | cons c rest ih =>
    cases l' with
    | nil => cases hhead
    | cons d rest' =>
      obtain rfl : c = d := Option.some.inj hhead
      obtain ⟨hlink, -, hrest⟩ := h
      obtain ⟨hlink', -, hrest'⟩ := h'
      rw [ih hrest hrest' (Option.some.inj (hlink.symm.trans hlink'))]

/-- The cluster of a run that leads to none is the last one. -/
theorem Runs.getLast? (h : Runs map o l) {c : Nat} (hc : c ∈ l) (hlink : (Table.get .free map c).link = some none) :
    l.getLast? = some c := by
  obtain ⟨a, b, rfl⟩ := List.append_of_mem hc
  obtain ⟨hnext, -, -⟩ := h.suffix
  obtain rfl : b = [] := List.head?_eq_none_iff.mp (Option.some.inj (hnext.symm.trans hlink))
  simp

theorem Runs.link_getLast (h : Runs map o l) {c : Nat} (hc : l.getLast? = some c) :
    (Table.get .free map c).link = some none := by
  obtain ⟨a, rfl⟩ := List.getLast?_eq_some_iff.mp hc
  exact h.suffix.1

/-- A run passes no cluster twice: it would lead on from there as before, without an end. -/
theorem Runs.nodup (h : Runs map o l) : l.Nodup := by
  induction l with
  | nil => exact List.nodup_nil
  | cons c rest ih =>
    refine List.nodup_cons.mpr ⟨fun hc => ?_, ih h.2.2⟩
    obtain ⟨a, b, hab⟩ := List.append_of_mem hc
    have hsame := h.eq_of_head ((hab ▸ h.2.2 : Runs map o (a ++ c :: b)).suffix) rfl
    have := congrArg List.length hsame
    simp [hab] at this
    omega

theorem Runs.congr (h : Runs map o l) (hlink : ∀ c ∈ l, (Table.get .free map' c).link = (Table.get .free map c).link)
    {o' : Owner} (howner : ∀ c ∈ l, (Table.get .free map' c).owner? = some o') : Runs map' o' l := by
  induction l with
  | nil => trivial
  | cons c rest ih =>
    obtain ⟨hc, -, hrest⟩ := h
    exact ⟨(hlink c List.mem_cons_self).trans hc, howner c List.mem_cons_self,
      ih hrest (fun d hd => hlink d (List.mem_cons_of_mem _ hd)) fun d hd => howner d (List.mem_cons_of_mem _ hd)⟩

/-- The chain read from the first cluster of a run is that run. -/
theorem Runs.chainFrom {c fuel : Nat} {rest : List Nat} (h : Runs map o (c :: rest)) (hf : rest.length < fuel) :
    chainFrom map fuel c = c :: rest := by
  induction rest generalizing c fuel with
  | nil =>
    obtain ⟨n, rfl⟩ : ∃ n, fuel = n + 1 := ⟨fuel - 1, by simp at hf; omega⟩
    obtain ⟨hlink, -, -⟩ := h
    cases he : Table.get .free map c <;> simp_all [ClusterEntry.link, Machine.chainFrom]
  | cons d rest ih =>
    obtain ⟨n, rfl⟩ : ∃ n, fuel = n + 1 := ⟨fuel - 1, by simp at hf; omega⟩
    obtain ⟨hlink, -, hrest⟩ := h
    have htail := ih hrest (Nat.lt_of_succ_lt_succ hf)
    cases he : Table.get .free map c <;> simp_all [ClusterEntry.link, Machine.chainFrom]

/-- A chain of one owner's clusters that ends with a LAST one is a run. -/
theorem runs_chainFrom {fuel first c : Nat} (howner : ∀ d ∈ chainFrom map fuel first, (Table.get .free map d).owner? = some o)
    (hlast : (chainFrom map fuel first).getLast? = some c) (hend : (Table.get .free map c).link = some none) :
    Runs map o (chainFrom map fuel first) ∧ (chainFrom map fuel first).head? = some first := by
  induction fuel generalizing first with
  | zero => simp [chainFrom] at hlast
  | succ n ih =>
    unfold chainFrom at howner hlast ⊢
    cases he : Table.get .free map first with
    | free => simp [he] at hlast
    | retired => simp [he] at hlast
    | last m p =>
      simp only [he] at howner ⊢
      exact ⟨⟨by rw [he]; rfl, howner _ (List.mem_singleton_self _), trivial⟩, rfl⟩
    | linked next m p =>
      simp only [he] at howner hlast ⊢
      have hne : chainFrom map n next ≠ [] := fun hnil => by
        simp only [hnil, List.getLast?_singleton, Option.some.injEq] at hlast
        rw [← hlast, he] at hend
        cases hend
      rw [List.getLast?_cons_of_ne_nil hne] at hlast
      obtain ⟨hruns, hhead⟩ := ih (fun d hd => howner d (List.mem_cons_of_mem _ hd)) hlast
      exact ⟨⟨by rw [he, hhead]; rfl, howner _ List.mem_cons_self, hruns⟩, rfl⟩

end Runs

/-! ### An owner's chain -/

/-- A list of clusters is an owner's chain: they run along it, and every cluster of the owner is on it. -/
structure State.Owns (s : State) (o : Owner) (l : List Nat) : Prop where
  runs : Runs s.sc.map o l
  mem : ∀ c, (s.cluster c).owner? = some o → c ∈ l

/-- An owner's clusters and their links are the same in two states. -/
def OwnerKept (o : Owner) (s t : State) : Prop :=
  ∀ c, (s.cluster c).owner? = some o ∨ (t.cluster c).owner? = some o →
    (t.cluster c).link = (s.cluster c).link ∧ (t.cluster c).owner? = (s.cluster c).owner?

section Owns

variable {o : Owner} {l : List Nat}

theorem OwnerKept.refl (o : Owner) (s : State) : OwnerKept o s s := fun _ _ => ⟨rfl, rfl⟩

theorem OwnerKept.of_sc (h : t.sc = s.sc) : OwnerKept o s t := fun c _ => by simp [State.cluster, h]

theorem OwnerKept.trans {u : State} (h : OwnerKept o s t) (h2 : OwnerKept o t u) : OwnerKept o s u := fun c hc => by
  have hmid : (t.cluster c).owner? = some o := hc.elim (fun hs => (h c (.inl hs)).2.trans hs)
    fun hu => (h2 c (.inr hu)).2.symm.trans hu
  obtain ⟨hl, ho⟩ := h c (.inr hmid)
  obtain ⟨hl2, ho2⟩ := h2 c (.inl hmid)
  exact ⟨hl2.trans hl, ho2.trans ho⟩

theorem State.Owns.kept (h : s.Owns o l) (hk : OwnerKept o s t) : t.Owns o l where
  runs := h.runs.congr (fun c hc => (hk c (.inl (h.runs.owner hc))).1)
    fun c hc => (hk c (.inl (h.runs.owner hc))).2.trans (h.runs.owner hc)
  mem c hc := h.mem c ((hk c (.inr hc)).2.symm.trans hc)

theorem State.Owns.mem_iff (h : s.Owns o l) {c : Nat} : c ∈ l ↔ (s.cluster c).owner? = some o := ⟨h.runs.owner, h.mem c⟩

theorem State.owns_nil (h : ∀ c, (s.cluster c).owner? ≠ some o) : s.Owns o [] := ⟨trivial, fun c hc => absurd hc (h c)⟩

/-- The clusters of an owner are of the store. -/
theorem State.Owns.lt (h : s.Owns o l) (hs : s.sc.Sound) {c : Nat} (hc : c ∈ l) : c < 131072 :=
  hs.lt fun hfree => by
    have := h.runs.owner hc
    rw [hfree] at this
    cases this

theorem State.Owns.length_le (h : s.Owns o l) (hs : s.sc.Sound) : l.length ≤ 131072 := by
  have hsub : l.toFinset ⊆ Finset.range 131072 := fun c hc => Finset.mem_range.mpr (h.lt hs (List.mem_toFinset.mp hc))
  have hcard := Finset.card_le_card hsub
  rwa [List.toFinset_card_of_nodup h.runs.nodup, Finset.card_range] at hcard

/-- The chain read from an owner's first cluster is the owner's. -/
theorem State.Owns.chain {first : Nat} (h : s.Owns o l) (hs : s.sc.Sound) (hf : l.head? = some first) :
    s.chain first = l := by
  obtain ⟨rest, rfl⟩ := List.head?_eq_some_iff.mp hf
  exact h.runs.chainFrom (h.length_le hs)

end Owns

end Sys2Proof.Machine
end

section
/-! PROOFS. What the Store Controller's operations do to the chains, owner by owner: freed, relabelled, marked and made longer by
a cluster (R44, R45, R48, R50). -/

set_option Elab.async false

namespace Sys2Proof.Machine

variable {s t : State} {o : Owner}

/-- An owner's chain has the given first cluster and number of clusters; with none given, the owner has no cluster. -/
def State.Keeps (s : State) (o : Owner) (held : Option (Nat × Nat)) : Prop :=
  ∃ l, s.Owns o l ∧ held = l.head?.map (fun first => (first, l.length))

/-- The first cluster and the number of clusters of an image's chain. -/
def ImageRecord.held (image : ImageRecord) : Nat × Nat := (image.first, image.clusters)

/-- The first cluster and the number of clusters of an upload's chain, if it has one yet. -/
def UploadRecord.chainHeld (u : UploadRecord) : Option (Nat × Nat) := u.chain.map (fun c => (c.1, u.held))

theorem State.Keeps.kept {held : Option (Nat × Nat)} (h : s.Keeps o held) (hk : OwnerKept o s t) : t.Keeps o held := by
  obtain ⟨l, hl, hheld⟩ := h
  exact ⟨l, hl.kept hk, hheld⟩

theorem State.keeps_none : s.Keeps o none ↔ ∀ c, (s.cluster c).owner? ≠ some o := by
  constructor
  · rintro ⟨l, hl, hheld⟩ c hc
    have hmem := hl.mem c hc
    rw [List.head?_eq_none_iff.mp (Option.map_eq_none_iff.mp hheld.symm)] at hmem
    cases hmem
  · exact fun h => ⟨[], State.owns_nil h, rfl⟩

/-- The chain of an owner that has one. -/
theorem State.Keeps.exists_chain {first n : Nat} (h : s.Keeps o (some (first, n))) (hs : s.sc.Sound) :
    s.Owns o (s.chain first) ∧ (s.chain first).head? = some first ∧ (s.chain first).length = n := by
  obtain ⟨l, hl, hheld⟩ := h
  obtain ⟨f, hf, he⟩ := Option.map_eq_some_iff.mp hheld.symm
  obtain ⟨rfl, rfl⟩ := Prod.mk.inj he
  rw [hl.chain hs hf]
  exact ⟨hl, hf, rfl⟩

theorem State.keeps_chain {first n : Nat} (h : s.Owns o (s.chain first)) (hf : (s.chain first).head? = some first)
    (hn : (s.chain first).length = n) : s.Keeps o (some (first, n)) := ⟨_, h, by rw [hf, hn]; rfl⟩

/-- An operation that takes an owner's clusters away leaves those of every other owner. -/
structure Freed (o : Owner) (s t : State) : Prop where
  gone : t.Keeps o none
  others : ∀ o', o' ≠ o → OwnerKept o' s t

theorem State.Keeps.freed_of_none (h : s.Keeps o none) : Freed o s s := ⟨h, fun o' _ => OwnerKept.refl o' s⟩

theorem ClusterEntry.owner?_freed (e : ClusterEntry) : e.freed.owner? = none := by
  unfold ClusterEntry.freed
  split <;> rfl

theorem State.Keeps.freeChain {first n : Nat} (h : s.Keeps o (some (first, n))) (hs : s.sc.Sound) :
    Freed o s (s.freeChain first) := by
  obtain ⟨hl, -, -⟩ := h.exists_chain hs
  obtain ⟨hclusters, -⟩ := State.freeChain_outcome hl.runs.nodup
  refine ⟨State.keeps_none.mpr fun c hc => ?_, fun o' ho' c hc => ?_⟩
  · rw [hclusters] at hc
    split at hc
    · simp [ClusterEntry.owner?_freed] at hc
    · next hnot => exact hnot (hl.mem c hc)
  · rw [hclusters] at hc ⊢
    split at hc
    · next hmem =>
      rw [hl.mem_iff.mp hmem, ClusterEntry.owner?_freed] at hc
      simp [ho'.symm] at hc
    · next hnot => simp [hnot]

theorem State.Keeps.freeImage {image : Option ImageRecord} (h : s.Keeps o (image.map ImageRecord.held)) (hs : s.sc.Sound) :
    Freed o s (s.freeImage image) := by
  cases image with
  | none => exact h.freed_of_none
  | some i => exact h.freeChain hs

theorem State.Keeps.freeUpload {u : UploadRecord} (h : s.Keeps o u.chainHeld) (hs : s.sc.Sound) :
    Freed o s (s.freeUpload u) := by
  unfold UploadRecord.chainHeld at h
  unfold State.freeUpload
  split
  · next hc =>
    rw [hc] at h
    exact h.freeChain hs
  · next hc =>
    rw [hc] at h
    exact h.freed_of_none

/-! ### Relabelled -/

theorem ClusterEntry.owner?_relabel (e : ClusterEntry) (kind : ChainKind) :
    (e.relabel kind).owner? = e.owner?.map (fun o => { o with kind }) := by cases e <;> rfl

/-- A chain of one kind becomes that of another, of which the handle has none. -/
theorem State.Keeps.relabelChain {h : Nat} {old new : ChainKind} {first n : Nat} (hold : s.Keeps ⟨h, old⟩ (some (first, n)))
    (hnew : s.Keeps ⟨h, new⟩ none) (hne : old ≠ new) (hs : s.sc.Sound) :
    (s.relabelChain first new).Keeps ⟨h, new⟩ (some (first, n))
      ∧ (s.relabelChain first new).Keeps ⟨h, old⟩ none
      ∧ ∀ o', o' ≠ ⟨h, old⟩ → o' ≠ ⟨h, new⟩ → OwnerKept o' s (s.relabelChain first new) := by
  obtain ⟨hl, hf, hn⟩ := hold.exists_chain hs
  obtain ⟨hclusters, -⟩ := s.relabelChain_outcome first new
  have howner {c : Nat} (hc : c ∈ s.chain first) :
      ((s.relabelChain first new).cluster c).owner? = some ⟨h, new⟩ := by
    rw [hclusters, if_pos hc, ClusterEntry.owner?_relabel, hl.mem_iff.mp hc]
    rfl
  have hlink (c : Nat) : ((s.relabelChain first new).cluster c).link = (s.cluster c).link := by
    rw [hclusters]
    split
    · exact ClusterEntry.link_relabel _ _
    · rfl
  have hsame {c : Nat} (hc : c ∉ s.chain first) : (s.relabelChain first new).cluster c = s.cluster c := by
    rw [hclusters, if_neg hc]
  refine ⟨⟨s.chain first, ⟨hl.runs.congr (fun c _ => hlink c) fun c hc => howner hc, fun c hc => ?_⟩, by rw [hf, hn]; rfl⟩,
    State.keeps_none.mpr fun c hc => ?_, fun o' hold' hnew' c hc => ⟨hlink c, ?_⟩⟩
  · by_contra hnot
    rw [hsame hnot] at hc
    exact State.keeps_none.mp hnew c hc
  · by_cases hmem : c ∈ s.chain first
    · rw [howner hmem] at hc
      exact hne (congrArg Owner.kind (Option.some.inj hc)).symm
    · rw [hsame hmem] at hc
      exact hmem (hl.mem c hc)
  · by_cases hmem : c ∈ s.chain first
    · rw [howner hmem, hl.mem_iff.mp hmem] at hc
      simp [hold'.symm, hnew'.symm] at hc
    · rw [hsame hmem]

/-! ### Marked and retired -/

theorem State.ownerKept_markCluster (s : State) (c : Nat) (o : Owner) : OwnerKept o s (s.markCluster c) := fun d _ => by
  unfold State.markCluster
  split
  · next he =>
    rw [State.cluster_setCluster]
    split
    · next hd => subst hd; simp [he, ClusterEntry.link, ClusterEntry.owner?]
    · simp
  · next he =>
    rw [State.cluster_setCluster]
    split
    · next hd => subst hd; simp [he, ClusterEntry.link, ClusterEntry.owner?]
    · simp
  · simp
  · simp

theorem State.ownerKept_retireFree {c : Nat} (hfree : s.cluster c = .free) (o : Owner) :
    OwnerKept o s (s.retireFree c) := fun d _ => by
  have hd : (s.retireFree c).cluster d = if d = c then .retired else s.cluster d := State.cluster_setCluster s c d .retired
  rw [hd]
  split
  · next hd => subst hd; simp [hfree, ClusterEntry.link, ClusterEntry.owner?]
  · simp

/-! ### One cluster more (R50) -/

/-- The cluster is the last of its owner's chain. -/
def State.Ends (s : State) (o : Owner) (last : Nat) : Prop := ∃ m, s.cluster last = .last m o

theorem State.ends_iff {last : Nat} :
    s.Ends o last ↔ (s.cluster last).link = some none ∧ (s.cluster last).owner? = some o := by
  unfold State.Ends
  cases s.cluster last <;> simp [ClusterEntry.link, ClusterEntry.owner?]

theorem State.Ends.kept {last : Nat} (h : s.Ends o last) (hk : OwnerKept o s t) : t.Ends o last := by
  obtain ⟨hlink, howner⟩ := State.ends_iff.mp h
  obtain ⟨hl, ho⟩ := hk last (.inl howner)
  exact State.ends_iff.mpr ⟨hl.trans hlink, ho.trans howner⟩

/-- The last cluster of a run leads to a new one instead of to none. -/
theorem Runs.append {map map' : Table ClusterEntry} {l : List Nat} {c : Nat} (h : Runs map o l)
    (hinner : ∀ d ∈ l, (Table.get .free map d).link ≠ some none → (Table.get .free map' d).link = (Table.get .free map d).link)
    (hlast : ∀ d ∈ l, (Table.get .free map d).link = some none → (Table.get .free map' d).link = some (some c))
    (howner : ∀ d ∈ l, (Table.get .free map' d).owner? = some o) (hc : Table.get .free map' c = .last false o) :
    Runs map' o (l ++ [c]) := by
  induction l with
  | nil => exact ⟨by rw [hc]; rfl, by rw [hc]; rfl, trivial⟩
  | cons a rest ih =>
    obtain ⟨hlink, -, hrest⟩ := h
    refine ⟨?_, howner a List.mem_cons_self, ih hrest (fun d hd => hinner d (List.mem_cons_of_mem _ hd))
      (fun d hd => hlast d (List.mem_cons_of_mem _ hd)) fun d hd => howner d (List.mem_cons_of_mem _ hd)⟩
    cases rest with
    | nil => exact hlast a List.mem_cons_self hlink
    | cons b tail => exact (hinner a List.mem_cons_self (by simp [hlink])).trans hlink

/-- The Cluster Map after an allocation: the new cluster is LAST, the old last one leads to it. -/
theorem State.cluster_appendCluster {h c : Nat} {last? : Option Nat}
    (hends : ∀ last, last? = some last → s.Ends ⟨h, .upload⟩ last) (d : Nat) :
    let e := (s.appendCluster h last? c).cluster d
    (d = c → e = .last false ⟨h, .upload⟩)
      ∧ (d ≠ c → last? = some d → e.link = some (some c) ∧ e.owner? = some ⟨h, .upload⟩)
      ∧ (d ≠ c → last? ≠ some d → e = s.cluster d) := by
  cases last? with
  | none =>
    have he : (s.appendCluster h none c).cluster d =
        if d = c then ClusterEntry.last false ⟨h, .upload⟩ else s.cluster d :=
      State.cluster_setCluster s c d (.last false ⟨h, .upload⟩)
    rw [he]
    exact ⟨fun hd => if_pos hd, fun _ hn => (by simp at hn), fun hd _ => if_neg hd⟩
  | some last =>
    obtain ⟨m, hm⟩ := hends last rfl
    have he : (s.appendCluster h (some last) c).cluster d
        = ((s.setCluster last (.linked c m ⟨h, .upload⟩)).setCluster c (.last false ⟨h, .upload⟩)).cluster d := by
      simp only [State.appendCluster, hm]
      rfl
    rw [he, State.cluster_setCluster, State.cluster_setCluster]
    refine ⟨fun hd => if_pos hd, fun hd hl => ?_, fun hd hl => ?_⟩
    · rw [if_neg hd, if_pos (Option.some.inj hl).symm]
      exact ⟨rfl, rfl⟩
    · rw [if_neg hd, if_neg fun h => hl (congrArg some h.symm)]

/-- The counts after an allocation. -/
theorem State.sound_appendCluster {h c : Nat} {last? : Option Nat} (hs : s.sc.Sound) (hc : c < 131072)
    (hfree : s.cluster c = .free) (hends : ∀ last, last? = some last → s.Ends ⟨h, .upload⟩ last) :
    (s.appendCluster h last? c).sc.Sound ∧ (s.appendCluster h last? c).sc.freeCount + 1 = s.sc.freeCount
      ∧ (s.appendCluster h last? c).sc.reserved = s.sc.reserved - 1 := by
  have hpos := hs.free_pos hc hfree
  have hcursor : (c + 1) % Config.clusters < 131072 := Nat.mod_lt _ (by simp [Config.clusters])
  have hset {v : State} (hv : v.sc.Sound) (hvfree : v.cluster c = .free) (hvpos : 0 < v.sc.freeCount) (r : Nat) :
      StoreController.Sound { v.sc with
        map := Table.set .free v.sc.map c (.last false ⟨h, .upload⟩)
        freeCount := v.sc.freeCount - 1
        reserved := r
        cursor := (c + 1) % Config.clusters } := by
    have htaken : v.sc.freeCount - 1 + (ClusterEntry.last false ⟨h, .upload⟩).taken
        = v.sc.freeCount + (v.cluster c).taken := by
      simp only [hvfree, ClusterEntry.taken, if_true, reduceCtorEq, if_false]
      omega
    have hlost : v.sc.retiredCount + (v.cluster c).lost
        = v.sc.retiredCount + (ClusterEntry.last false ⟨h, .upload⟩).lost := by
      simp [hvfree, ClusterEntry.lost]
    exact ((hv.set (.inl hc) htaken hlost).setReserved r).setCursor hcursor
  cases last? with
  | none => exact ⟨hset hs hfree hpos _, Nat.sub_add_cancel hpos, rfl⟩
  | some last =>
    obtain ⟨m, hm⟩ := hends last rfl
    have hne : c ≠ last := fun he => by rw [he, hm] at hfree; cases hfree
    have hlinked := (s.keepsCounts_setCluster (c := last) (v := .linked c m ⟨h, .upload⟩) (by simp [hm, ClusterEntry.taken])
      (by simp [hm, ClusterEntry.lost]) (by simp [hm])).sound hs
    have hstill : (s.setCluster last (.linked c m ⟨h, .upload⟩)).cluster c = .free := by
      rw [State.cluster_setCluster, if_neg hne, hfree]
    simp only [State.appendCluster, hm]
    exact ⟨hset hlinked hstill hpos _, Nat.sub_add_cancel hpos, rfl⟩

/-- The chain of an upload after an allocation (R50). -/
theorem State.keeps_appendCluster {h c : Nat} {u : UploadRecord} (hfree : s.cluster c = .free)
    (hk : s.Keeps ⟨h, .upload⟩ u.chainHeld) (hheld : u.chain = none → u.held = 0)
    (hends : ∀ last, u.chain.map Prod.snd = some last → s.Ends ⟨h, .upload⟩ last) :
    let t := s.appendCluster h (u.chain.map Prod.snd) c
    t.Keeps ⟨h, .upload⟩ (some ((u.chain.map Prod.fst).getD c, u.held + 1)) ∧ t.Ends ⟨h, .upload⟩ c
      ∧ ∀ o', o' ≠ ⟨h, .upload⟩ → OwnerKept o' s t := by
  intro t
  have hclusters := State.cluster_appendCluster (c := c) hends
  have hnew : t.cluster c = .last false ⟨h, .upload⟩ := (hclusters c).1 rfl
  have hnotc {d : Nat} {o' : Owner} (hd : (s.cluster d).owner? = some o') : d ≠ c := fun he => by
    rw [he, hfree] at hd
    cases hd
  obtain ⟨l, hl, hfirst⟩ := hk
  -- the clusters of the chain that lead to none are the last one alone
  have hlast {d : Nat} (hd : d ∈ l) (hlink : (s.cluster d).link = some none) : u.chain.map Prod.snd = some d := by
    cases hchain : u.chain with
    | none =>
      rw [UploadRecord.chainHeld, hchain] at hfirst
      rw [List.head?_eq_none_iff.mp (Option.map_eq_none_iff.mp hfirst.symm)] at hd
      cases hd
    | some ends =>
      obtain ⟨hlinkLast, hownerLast⟩ := State.ends_iff.mp (hends ends.2 (by rw [hchain]; rfl))
      rw [← hl.runs.getLast? hd hlink, hl.runs.getLast? (hl.mem _ hownerLast) hlinkLast]
      rfl
  have hinner {d : Nat} (hd : (s.cluster d).owner? ≠ none) (hnot : u.chain.map Prod.snd ≠ some d) :
      t.cluster d = s.cluster d :=
    (hclusters d).2.2 (fun he => hd (by rw [he, hfree]; rfl)) hnot
  have hmem {d : Nat} (hd : d ∈ l) : (s.cluster d).owner? = some ⟨h, .upload⟩ := hl.mem_iff.mp hd
  have howner {d : Nat} (hd : d ∈ l) : (t.cluster d).owner? = some ⟨h, .upload⟩ := by
    by_cases hlink : u.chain.map Prod.snd = some d
    · exact ((hclusters d).2.1 (hnotc (hmem hd)) hlink).2
    · rw [hinner (by simp [hmem hd]) hlink, hmem hd]
  refine ⟨⟨l ++ [c], ⟨hl.runs.append (fun d hd hlink => ?_) (fun d hd hlink => ?_) (fun d => howner) hnew, fun d hd => ?_⟩,
    ?_⟩, ⟨false, hnew⟩, fun o' ho' d hd => ?_⟩
  · exact congrArg _ (hinner (by simp [hmem hd]) fun he => hlink (State.ends_iff.mp (hends d he)).1)
  · exact ((hclusters d).2.1 (hnotc (hmem hd)) (hlast hd hlink)).1
  · by_contra hnot
    simp only [List.mem_append, List.mem_singleton, not_or] at hnot
    by_cases hlink : u.chain.map Prod.snd = some d
    · exact hnot.1 (hl.mem d (State.ends_iff.mp (hends d hlink)).2)
    · rw [(hclusters d).2.2 hnot.2 hlink] at hd
      exact hnot.1 (hl.mem d hd)
  · unfold UploadRecord.chainHeld at hfirst
    cases hchain : u.chain with
    | none =>
      rw [hchain] at hfirst
      rw [List.head?_eq_none_iff.mp (Option.map_eq_none_iff.mp hfirst.symm), hheld hchain]
      rfl
    | some ends =>
      rw [hchain] at hfirst
      obtain ⟨f, hf, he⟩ := Option.map_eq_some_iff.mp hfirst.symm
      obtain ⟨rfl, hn⟩ := Prod.mk.inj he
      simp [List.head?_append, hf, hn]
  · by_cases hdc : d = c
    · rw [hdc, hfree, hnew] at hd
      simp [ClusterEntry.owner?, ho'.symm] at hd
    · by_cases hlink : u.chain.map Prod.snd = some d
      · rw [(State.ends_iff.mp (hends d hlink)).2, ((hclusters d).2.1 hdc hlink).2] at hd
        simp [ho'.symm] at hd
      · rw [(hclusters d).2.2 hdc hlink]
        exact ⟨rfl, rfl⟩

end Sys2Proof.Machine
end

section
/-! PROOFS. Store, uploads and directory as one (R43, R44, R53, R70), handle by handle: what the spec has of a handle's entry, its
upload and its three chains speaks of no other handle. Tied to the certificate's own form of it. -/

set_option Elab.async false

namespace Sys2Proof.Machine

variable {s t : State}

/-- The numbers of an upload's record agree with one another (R70, R74, R76). -/
structure UploadRecord.Sized (u : UploadRecord) : Prop where
  width_ge : 128 ≤ u.width
  width_le : u.width ≤ 2048
  height_ge : 160 ≤ u.height
  height_le : u.height ≤ 2560
  expected : u.expected = u.width * u.height * 3
  received : u.received ≤ u.expected
  total : u.held + u.reserved = (u.expected + 65535) / 65536
  covered : u.received ≤ u.held * 65536
  tight : u.held * 65536 ≤ u.received + 65535
  chain : u.chain = none ↔ u.held = 0

/-- An OPEN slot: its numbers, the entry it has claimed and the last cluster of its chain. -/
structure OpenSound (s : State) (k : Fin 4) (u : UploadRecord) : Prop where
  sized : u.Sized
  ends : ∀ last, u.chain.map Prod.snd = some last → s.Ends ⟨u.handle, .upload⟩ last
  claimed : (s.entry u.handle).upload = some (k, u.mode)
  filling : u.mode = .new ↔ (s.entry u.handle).state = .filling

/-- The chain that an owner should have: that of a handle's open upload, of its entry's image, or of its replacement. -/
def State.holding (s : State) (o : Owner) : Option (Nat × Nat) :=
  match o.kind with
  | .upload => (s.openOn (s.entry o.handle)).bind (fun ku => ku.2.chainHeld)
  | .current => (s.entry o.handle).image.map ImageRecord.held
  | .pending => (s.entry o.handle).replacement.map ImageRecord.held

/-- All that the spec has of one handle: its upload, its entry and the chains of its three kinds. -/
structure HandleSound (s : State) (h : Nat) : Prop where
  upload : ∀ k u, s.slot k = some u → u.handle = h → OpenSound s k u
  entry : EntrySound s h (s.entry h)
  chains : ∀ kind, s.Keeps ⟨h, kind⟩ (s.holding ⟨h, kind⟩)

/-- Store, uploads and directory as the spec has them, but for the reservations' not passing the free count. -/
structure State.Shaped (s : State) : Prop where
  sc : s.sc.Sound
  pdir : Table.wf (freeEntry 0) s.pdir = true
  handles : ∀ h, HandleSound s h
  reserved : s.sc.reserved = (fours.map s.slotReserved).sum
  openList : s.openListSound

/-! ### What a handle holds -/

/-- Slots and entries name one another. -/
def State.Claims (s : State) : Prop :=
  (∀ k u, s.slot k = some u → (s.entry u.handle).upload = some (k, u.mode))
    ∧ ∀ h k mode, (s.entry h).upload = some (k, mode) → ∃ u, s.slot k = some u ∧ u.handle = h

theorem State.Shaped.claims (h : s.Shaped) : s.Claims :=
  ⟨fun k u hu => ((h.handles u.handle).upload k u hu rfl).claimed, fun g k mode he =>
    let ⟨u, hu, hh, _⟩ := (h.handles g).entry.1 k mode he
    ⟨u, hu, hh⟩⟩

theorem State.openOn_eq_some_iff (hc : s.Claims) {h : Nat} {k : Fin 4} {u : UploadRecord} :
    s.openOn (s.entry h) = some (k, u) ↔ s.slot k = some u ∧ u.handle = h := by
  obtain ⟨hslot, hentry⟩ := hc
  constructor
  · intro ho
    obtain ⟨⟨k', mode⟩, he, hu⟩ := Option.bind_eq_some_iff.mp ho
    obtain ⟨v, hv, heq⟩ := Option.map_eq_some_iff.mp hu
    obtain ⟨rfl, rfl⟩ := Prod.mk.inj heq
    obtain ⟨w, hw, hh⟩ := hentry _ _ _ he
    obtain rfl : w = v := Option.some.inj (hw.symm.trans hv)
    exact ⟨hv, hh⟩
  · rintro ⟨hu, rfl⟩
    exact State.openOn_some (hslot k u hu) hu

theorem State.holding_upload (hc : s.Claims) {k : Fin 4} {u : UploadRecord} (hu : s.slot k = some u) :
    s.holding ⟨u.handle, .upload⟩ = u.chainHeld := by
  rw [State.holding, (State.openOn_eq_some_iff hc).mpr ⟨hu, rfl⟩]
  rfl

theorem mem_fours (k : Fin 4) : k ∈ fours := by decide +revert

/-- An entry that holds an image is listed in the directory. -/
theorem State.mem_pdir (hw : Table.wf (freeEntry 0) s.pdir = true) {h : Nat} (hne : s.entry h ≠ freeEntry 0) :
    (h, s.entry h) ∈ s.pdir := (Table.mem_iff hw).mpr ⟨hne, rfl⟩

theorem State.entry_of_mem_pdir (hw : Table.wf (freeEntry 0) s.pdir = true) {e : Nat × DirEntry} (he : e ∈ s.pdir) :
    s.entry e.1 = e.2 := ((Table.mem_iff hw).mp he).2

/-- The holder that a slot is, if its upload has a chain. -/
def State.slotHolder (s : State) (k : Fin 4) : Option (Nat × Owner × Nat) :=
  (s.slot k).bind (fun u => u.chainHeld.map (fun c => (c.1, ⟨u.handle, .upload⟩, c.2)))

/-- The holder that an image of a handle is. -/
def ImageRecord.holder (h : Nat) (kind : ChainKind) (image : ImageRecord) : Nat × Owner × Nat :=
  (image.first, ⟨h, kind⟩, image.clusters)

/-- The holders that an entry has. -/
def DirEntry.holders (e : Nat × DirEntry) : List (Nat × Owner × Nat) :=
  (e.2.image.map (ImageRecord.holder e.1 .current)).toList ++ (e.2.replacement.map (ImageRecord.holder e.1 .pending)).toList

theorem State.chainHolders_eq (s : State) :
    s.chainHolders = fours.flatMap (fun k => (s.slotHolder k).toList) ++ s.pdir.flatMap DirEntry.holders := by
  unfold State.chainHolders
  refine congrArg₂ _ (congrArg (List.flatMap · fours) (funext fun k => ?_))
    (congrArg (List.flatMap · s.pdir) (funext fun e => ?_))
  · cases hu : s.slot k with
    | none => simp [State.slotHolder, hu]
    | some u => cases hchain : u.chain <;> simp [State.slotHolder, UploadRecord.chainHeld, hu, hchain]
  · cases hi : e.2.image <;> cases hr : e.2.replacement <;> simp [DirEntry.holders, hi, hr, ImageRecord.holder]

theorem State.slotHolder_owner {k : Fin 4} {a : Nat × Owner × Nat} (ha : s.slotHolder k = some a) :
    ∃ u, s.slot k = some u ∧ u.chainHeld = some (a.1, a.2.2) ∧ a.2.1 = ⟨u.handle, .upload⟩ := by
  obtain ⟨u, hu, hheld⟩ := Option.bind_eq_some_iff.mp ha
  obtain ⟨c, hc, rfl⟩ := Option.map_eq_some_iff.mp hheld
  exact ⟨u, hu, hc, rfl⟩

theorem DirEntry.mem_holders {e : Nat × DirEntry} {a : Nat × Owner × Nat} :
    a ∈ DirEntry.holders e ↔ e.2.image.map ImageRecord.held = some (a.1, a.2.2) ∧ a.2.1 = ⟨e.1, .current⟩
      ∨ e.2.replacement.map ImageRecord.held = some (a.1, a.2.2) ∧ a.2.1 = ⟨e.1, .pending⟩ := by
  obtain ⟨first, o, n⟩ := a
  simp only [DirEntry.holders, List.mem_append, Option.mem_toList, Option.map_eq_some_iff, ImageRecord.holder,
    ImageRecord.held, Prod.mk.injEq]
  grind

/-- The holders of chains are what the owners should have. -/
theorem State.mem_chainHolders (hc : s.Claims) (hw : Table.wf (freeEntry 0) s.pdir = true) {a : Nat × Owner × Nat} :
    a ∈ s.chainHolders ↔ s.holding a.2.1 = some (a.1, a.2.2) := by
  simp only [State.chainHolders_eq, List.mem_append, List.mem_flatMap, Option.mem_toList, DirEntry.mem_holders]
  constructor
  · rintro (⟨k, -, ha⟩ | ⟨e, he, ⟨hheld, ho⟩ | ⟨hheld, ho⟩⟩)
    · obtain ⟨u, hu, hheld, ho⟩ := State.slotHolder_owner ha
      rw [ho, State.holding_upload hc hu, hheld]
    all_goals
      rw [ho, State.holding, State.entry_of_mem_pdir hw he]
      exact hheld
  · obtain ⟨first, ⟨h, kind⟩, n⟩ := a
    intro hheld
    have hlisted {f : DirEntry → Option ImageRecord} (hf : f (freeEntry 0) = none)
        (him : (f (s.entry h)).map ImageRecord.held = some (first, n)) : (h, s.entry h) ∈ s.pdir :=
      State.mem_pdir hw fun he => by simp [he, hf] at him
    cases kind with
    | upload =>
      obtain ⟨⟨k, u⟩, ho, hchain⟩ := Option.bind_eq_some_iff.mp hheld
      obtain ⟨hu, rfl⟩ := (State.openOn_eq_some_iff hc).mp ho
      have hchain : u.chainHeld = some (first, n) := hchain
      exact .inl ⟨k, mem_fours k, by simp [State.slotHolder, hu, hchain]⟩
    | current => exact .inr ⟨_, hlisted (f := DirEntry.image) rfl hheld, .inl ⟨hheld, rfl⟩⟩
    | pending => exact .inr ⟨_, hlisted (f := DirEntry.replacement) rfl hheld, .inr ⟨hheld, rfl⟩⟩

/-- No owner is twice among the holders. -/
theorem State.pairwise_chainHolders (hc : s.Claims) (hw : Table.wf (freeEntry 0) s.pdir = true) :
    s.chainHolders.Pairwise (fun a b => a.2.1 ≠ b.2.1) := by
  rw [State.chainHolders_eq, List.pairwise_append]
  refine ⟨List.pairwise_flatMap.mpr ⟨fun k _ => ?_, ?_⟩, List.pairwise_flatMap.mpr ⟨fun e _ => ?_, ?_⟩, fun a ha b hb => ?_⟩
  · cases s.slotHolder k <;> simp
  · refine List.Pairwise.imp (R := (· ≠ ·)) (fun {j k} hjk a ha b hb ho => ?_) (by decide)
    obtain ⟨u, hu, -, hou⟩ := State.slotHolder_owner (Option.mem_toList.mp ha)
    obtain ⟨v, hv, -, hov⟩ := State.slotHolder_owner (Option.mem_toList.mp hb)
    have hh : u.handle = v.handle := congrArg Owner.handle (hou.symm.trans (ho.trans hov))
    have hclaim := (hc.1 j u hu).symm.trans ((congrArg (fun h => (s.entry h).upload) hh).trans (hc.1 k v hv))
    exact hjk (congrArg Prod.fst (Option.some.inj hclaim))
  · cases hi : e.2.image <;> cases hr : e.2.replacement <;> simp [DirEntry.holders, hi, hr, ImageRecord.holder]
  · refine (List.pairwise_map.mp (Table.nodup_keys hw)).imp (fun {e f} hne a ha b hb ho => hne ?_)
    have hhandle {e : Nat × DirEntry} {a : Nat × Owner × Nat} (ha : a ∈ DirEntry.holders e) : a.2.1.handle = e.1 := by
      rcases DirEntry.mem_holders.mp ha with ⟨-, ho⟩ | ⟨-, ho⟩ <;> rw [ho]
    rw [← hhandle ha, ← hhandle hb, ho]
  · obtain ⟨k, -, ha⟩ := List.mem_flatMap.mp ha
    obtain ⟨u, -, -, ho⟩ := State.slotHolder_owner (Option.mem_toList.mp ha)
    obtain ⟨e, -, hb⟩ := List.mem_flatMap.mp hb
    rw [ho]
    rcases DirEntry.mem_holders.mp hb with ⟨-, ho⟩ | ⟨-, ho⟩ <;> simp [ho]

/-! ### The certificate's form -/

/-- The chains of the store, holder by holder, are those of its owners. -/
theorem State.keeps_holding_iff (hs : s.sc.Sound) (hc : s.Claims) (hw : Table.wf (freeEntry 0) s.pdir = true) :
    (∀ o, s.Keeps o (s.holding o)) ↔
      (∀ holder ∈ s.chainHolders,
        (s.chain holder.1).length = holder.2.2 ∧ 0 < holder.2.2
          ∧ (∀ c ∈ s.chain holder.1, (s.cluster c).owner? = some holder.2.1)
          ∧ ∃ c m, (s.chain holder.1).getLast? = some c ∧ s.cluster c = .last m holder.2.1)
      ∧ (s.chainHolders.flatMap (fun holder => s.chain holder.1)).Nodup
      ∧ ∀ c, (s.cluster c).owner?.isSome = true → ∃ holder ∈ s.chainHolders, c ∈ s.chain holder.1 := by
  constructor
  · intro hk
    have hchain {a : Nat × Owner × Nat} (ha : a ∈ s.chainHolders) : s.Owns a.2.1 (s.chain a.1)
        ∧ (s.chain a.1).head? = some a.1 ∧ (s.chain a.1).length = a.2.2 :=
      ((State.mem_chainHolders hc hw).mp ha ▸ hk a.2.1).exists_chain hs
    refine ⟨fun a ha => ?_, List.nodup_flatMap.mpr ⟨fun a ha => (hchain ha).1.runs.nodup, ?_⟩, fun c hsome => ?_⟩
    · obtain ⟨howns, hfirst, hlen⟩ := hchain ha
      obtain ⟨rest, hrest⟩ := List.head?_eq_some_iff.mp hfirst
      have hlast := List.getLast?_eq_some_getLast (l := s.chain a.1) (by simp [hrest])
      refine ⟨hlen, by rw [← hlen, hrest]; exact Nat.succ_pos _, fun c => howns.runs.owner,
        (s.chain a.1).getLast (by simp [hrest]), ?_⟩
      obtain ⟨m, hm⟩ : s.Ends a.2.1 _ := State.ends_iff.mpr
        ⟨howns.runs.link_getLast hlast, howns.runs.owner (List.mem_of_getLast? hlast)⟩
      exact ⟨m, hlast, hm⟩
    · refine (State.pairwise_chainHolders hc hw).imp_of_mem fun {a b} ha hb hne c hca hcb => hne ?_
      exact Option.some.inj (((hchain ha).1.mem_iff.mp hca).symm.trans ((hchain hb).1.mem_iff.mp hcb))
    · obtain ⟨o, ho⟩ := Option.isSome_iff_exists.mp hsome
      obtain ⟨l, hl, hheld⟩ := hk o
      have hmem := hl.mem c ho
      cases l with
      | nil => cases hmem
      | cons first rest =>
        refine ⟨(first, o, rest.length + 1), (State.mem_chainHolders hc hw).mpr hheld, ?_⟩
        rw [hl.chain hs rfl]
        exact hmem
  · rintro ⟨heach, -, hcover⟩ o
    have hlist {c : Nat} (hco : (s.cluster c).owner? = some o) :
        ∃ a ∈ s.chainHolders, a.2.1 = o ∧ c ∈ s.chain a.1 := by
      obtain ⟨a, ha, hca⟩ := hcover c (by rw [hco]; rfl)
      obtain ⟨-, -, howner, -⟩ := heach a ha
      exact ⟨a, ha, Option.some.inj ((howner c hca).symm.trans hco), hca⟩
    cases hheld : s.holding o with
    | none =>
      refine State.keeps_none.mpr fun c hco => ?_
      obtain ⟨a, ha, rfl, -⟩ := hlist hco
      rw [(State.mem_chainHolders hc hw).mp ha] at hheld
      cases hheld
    | some held =>
      obtain ⟨hlen, -, howner, last, m, hlast, hend⟩ := heach (held.1, o, held.2) ((State.mem_chainHolders hc hw).mpr hheld)
      obtain ⟨hruns, hhead⟩ := runs_chainFrom howner hlast (congrArg ClusterEntry.link hend)
      refine State.keeps_chain ⟨hruns, fun c hco => ?_⟩ hhead hlen
      obtain ⟨a, ha, rfl, hca⟩ := hlist hco
      rw [(State.mem_chainHolders hc hw).mp ha] at hheld
      rwa [← Option.some.inj hheld]

/-- The sizes and the claim of an OPEN slot, in the certificate's form; its last cluster is that of its chain. -/
theorem State.openSound_iff {k : Fin 4} {u : UploadRecord} (hs : s.sc.Sound)
    (hk : s.Keeps ⟨u.handle, .upload⟩ u.chainHeld) : OpenSound s k u ↔ UploadSound s k u := by
  have hends {first last : Nat} (hchain : u.chain = some (first, last)) :
      (s.chain first).getLast? = some last ↔ s.Ends ⟨u.handle, .upload⟩ last := by
    rw [UploadRecord.chainHeld, hchain] at hk
    obtain ⟨howns, -, -⟩ := hk.exists_chain hs
    rw [State.ends_iff]
    exact ⟨fun h => ⟨howns.runs.link_getLast h, howns.runs.owner (List.mem_of_getLast? h)⟩,
      fun ⟨hlink, howner⟩ => howns.runs.getLast? (howns.mem last howner) hlink⟩
  constructor
  · rintro ⟨⟨h1, h2, h3, h4, h5, h6, h7, h8, h9, h10⟩, hlast, hclaim, hfilling⟩
    exact ⟨h1, h2, h3, h4, h5, h6, h7, h8, h9, h10,
      fun first last hchain => (hends hchain).mpr (hlast last (by rw [hchain]; rfl)), hclaim, hfilling⟩
  · rintro ⟨h1, h2, h3, h4, h5, h6, h7, h8, h9, h10, hlast, hclaim, hfilling⟩
    refine ⟨⟨h1, h2, h3, h4, h5, h6, h7, h8, h9, h10⟩, fun last hmap => ?_, hclaim, hfilling⟩
    obtain ⟨⟨first, last'⟩, hchain, rfl⟩ := Option.map_eq_some_iff.mp hmap
    exact (hends hchain).mp (hlast first last' hchain)

/-- Store, uploads and directory have the shape of the spec, with no more reserved than is FREE, exactly when the
certificate calls them sound. -/
theorem State.shaped_iff :
    s.Shaped ∧ s.sc.reserved ≤ s.sc.freeCount ↔ s.storeSound ∧ s.openListSound := by
  constructor
  · rintro ⟨h, hcovered⟩
    have hc := h.claims
    have hkeeps : ∀ o, s.Keeps o (s.holding o) := fun o => (h.handles o.handle).chains o.kind
    obtain ⟨hchains, hnodup, hcover⟩ := (State.keeps_holding_iff h.sc hc h.pdir).mp hkeeps
    refine ⟨⟨h.sc.map, h.pdir, h.sc.clusters, h.sc.words, h.sc.free, h.sc.retired, h.reserved, hcovered, h.sc.cursor,
      fun k u hu => ?_, fun g => (h.handles g).entry, hchains, hnodup, hcover⟩, h.openList⟩
    exact (State.openSound_iff h.sc (State.holding_upload hc hu ▸ hkeeps _)).mp ((h.handles _).upload k u hu rfl)
  · rintro ⟨⟨hmap, hpdir, hclusters, hwords, hfree, hretired, hreserved, hcovered, hcursor, huploads, hentries, hchains,
      hnodup, hcover⟩, hopen⟩
    have hs : s.sc.Sound := ⟨hmap, hclusters, hwords, hfree, hretired, hcursor⟩
    have hc : s.Claims := by
      refine ⟨fun k u hu => ?_, fun g k mode he => ?_⟩
      · obtain ⟨-, -, -, -, -, -, -, -, -, -, -, hclaim, -⟩ := huploads k u hu
        exact hclaim
      · obtain ⟨u, hu, hh, -⟩ := (hentries g).1 k mode he
        exact ⟨u, hu, hh⟩
    have hkeeps := (State.keeps_holding_iff hs hc hpdir).mpr ⟨hchains, hnodup, hcover⟩
    refine ⟨⟨hs, hpdir, fun g => ⟨fun k u hu _ => ?_, hentries g, fun kind => hkeeps _⟩, hreserved, hopen⟩, hcovered⟩
    exact (State.openSound_iff hs (State.holding_upload hc hu ▸ hkeeps _)).mpr (huploads k u hu)

end Sys2Proof.Machine
end

section
/-! PROOFS. One handle changes and every other stays as it is (R44, R53, R70): a part is shaped as before once the handle that
changed is sound again. -/

set_option Elab.async false

namespace Sys2Proof.Machine

variable {s t : State} {h : Nat}

/-- What is of a handle is the same in two states: its entry, its upload and its clusters. -/
structure HandleKept (h : Nat) (s t : State) : Prop where
  entry : t.entry h = s.entry h
  slot : ∀ k u, u.handle = h → (t.slot k = some u ↔ s.slot k = some u)
  clusters : ∀ kind, OwnerKept ⟨h, kind⟩ s t

/-- The chains a handle should have are the same where all of the handle is. -/
theorem HandleSound.holding_kept (hs : HandleSound s h) (hk : HandleKept h s t) (kind : ChainKind) :
    t.holding ⟨h, kind⟩ = s.holding ⟨h, kind⟩ := by
  cases kind with
  | current => simp only [State.holding, hk.entry]
  | pending => simp only [State.holding, hk.entry]
  | upload =>
    simp only [State.holding, State.openOn, hk.entry]
    cases hup : (s.entry h).upload with
    | none => rfl
    | some ku =>
      obtain ⟨u, hu, hh, -⟩ := hs.entry.1 ku.1 ku.2 hup
      simp only [Option.bind_some, hu, (hk.slot _ u hh).mpr hu]

theorem HandleSound.current (hs : HandleSound s h) :
    s.Keeps ⟨h, .current⟩ ((s.entry h).image.map ImageRecord.held) := hs.chains .current

theorem HandleSound.pending (hs : HandleSound s h) :
    s.Keeps ⟨h, .pending⟩ ((s.entry h).replacement.map ImageRecord.held) := hs.chains .pending

/-- A claim of an entry is of the slot alone. -/
theorem EntrySound.kept {e : DirEntry} (he : EntrySound s h e)
    (hslot : ∀ k u, u.handle = h → s.slot k = some u → t.slot k = some u) : EntrySound t h e :=
  ⟨fun k mode hup =>
    let ⟨u, hu, hh, hm⟩ := he.1 k mode hup
    ⟨u, hslot k u hh hu, hh, hm⟩, he.2⟩

theorem HandleSound.kept (hs : HandleSound s h) (hk : HandleKept h s t) : HandleSound t h where
  upload k u hu hh := by
    obtain ⟨hsized, hends, hclaimed, hfilling⟩ := hs.upload k u ((hk.slot k u hh).mp hu) hh
    subst hh
    exact ⟨hsized, fun last hl => (hends last hl).kept (hk.clusters _), hk.entry ▸ hclaimed, hk.entry ▸ hfilling⟩
  entry := hk.entry ▸ hs.entry.kept fun k u hh => (hk.slot k u hh).mpr
  chains kind := hs.holding_kept hk kind ▸ (hs.chains kind).kept (hk.clusters kind)

/-- One handle changes. -/
theorem State.Shaped.change (hs : s.Shaped) (h : Nat) (hkept : ∀ g, g ≠ h → HandleKept g s t) (hsc : t.sc.Sound)
    (hpdir : Table.wf (freeEntry 0) t.pdir = true) (hh : HandleSound t h)
    (hreserved : t.sc.reserved = (fours.map t.slotReserved).sum) (hopen : t.openListSound) : t.Shaped where
  sc := hsc
  pdir := hpdir
  handles g := by
    by_cases hg : g = h
    · exact hg ▸ hh
    · exact (hs.handles g).kept (hkept g hg)
  reserved := hreserved
  openList := hopen

theorem State.slotReserved_congr (hie : t.ie = s.ie) : t.slotReserved = s.slotReserved :=
  funext fun k => by simp [State.slotReserved, State.slot_congr _ _ k hie]

theorem State.openListSound_congr (hie : t.ie = s.ie) (hs : s.openListSound) : t.openListSound := by
  obtain ⟨hnd, hmem⟩ := hs
  refine ⟨by rwa [hie], fun k => ?_⟩
  rw [hie, State.slot_congr _ _ k hie]
  exact hmem k

/-- One handle changes and no slot. -/
theorem State.Shaped.changeEntry (hs : s.Shaped) {h : Nat} {e : DirEntry} (hie : t.ie = s.ie)
    (hpdir : t.pdir = (s.setEntry h e).pdir) (hsc : t.sc.Sound) (hreserved : t.sc.reserved = s.sc.reserved)
    (hclusters : ∀ o, o.handle ≠ h → OwnerKept o s t) (hh : HandleSound t h) : t.Shaped := by
  refine hs.change h (fun g hg => ⟨?_, fun k u _ => by rw [State.slot_congr _ _ k hie], fun kind => hclusters _ hg⟩) hsc
    (hpdir ▸ Table.wf_set _ _ _ _ hs.pdir) hh ?_ (State.openListSound_congr hie hs.openList)
  · rw [State.entry_congr _ _ g hpdir, State.entry_setEntry, if_neg hg]
  · rw [hreserved, hs.reserved, State.slotReserved_congr hie]

/-- No handle changes. -/
theorem State.Shaped.changeClusters (hs : s.Shaped) (hie : t.ie = s.ie) (hpdir : t.pdir = s.pdir) (hsc : t.sc.Sound)
    (hreserved : t.sc.reserved = s.sc.reserved) (hclusters : ∀ o, OwnerKept o s t) : t.Shaped where
  sc := hsc
  pdir := hpdir ▸ hs.pdir
  handles g := (hs.handles g).kept ⟨State.entry_congr _ _ g hpdir, fun k u _ => by rw [State.slot_congr _ _ k hie],
    fun _ => hclusters _⟩
  reserved := by rw [hreserved, hs.reserved, State.slotReserved_congr hie]
  openList := State.openListSound_congr hie hs.openList

/-- Nothing of store, uploads and directory changes. -/
theorem State.Shaped.congr (hs : s.Shaped) (hsc : t.sc = s.sc) (hpdir : t.pdir = s.pdir) (hie : t.ie = s.ie) : t.Shaped :=
  hs.changeClusters hie hpdir (hsc ▸ hs.sc) (by rw [hsc]) fun _ => OwnerKept.of_sc hsc

/-- The reservations of three slots stay. -/
theorem sum_fours_congr {f g : Fin 4 → Nat} {k : Fin 4} (hfg : ∀ j, j ≠ k → f j = g j) :
    (fours.map f).sum + g k = (fours.map g).sum + f k := by
  have h0 := hfg 0
  have h1 := hfg 1
  have h2 := hfg 2
  have h3 := hfg 3
  fin_cases k <;> simp_all [fours] <;> omega

/-- A slot's reservation is part of the total. -/
theorem State.Shaped.reserved_le (hs : s.Shaped) {k : Fin 4} {u : UploadRecord} (hu : s.slot k = some u) :
    u.reserved ≤ s.sc.reserved := by
  have hmem : s.slotReserved k ∈ fours.map s.slotReserved := List.mem_map_of_mem (mem_fours k)
  have hle := List.single_le_sum (fun _ _ => Nat.zero_le _) _ hmem
  rw [← hs.reserved] at hle
  simpa [State.slotReserved, hu] using hle

/-! ### The slots of a handle -/

/-- A handle has one upload. -/
theorem State.Shaped.slot_unique (hs : s.Shaped) {j k : Fin 4} {u v : UploadRecord} (hu : s.slot k = some u)
    (hv : s.slot j = some v) (hh : v.handle = u.handle) : j = k := by
  obtain ⟨hclaim, -⟩ := hs.claims
  have heq := (hclaim j v hv).symm.trans ((congrArg (fun g => (s.entry g).upload) hh).trans (hclaim k u hu))
  exact congrArg Prod.fst (Option.some.inj heq)

theorem State.openListSound_closeSlot (hs : s.openListSound) (k : Fin 4) : (s.closeSlot k).openListSound := by
  obtain ⟨hnd, hmem⟩ := hs
  refine ⟨hnd.filter _, fun j => ?_⟩
  have hslot : (s.closeSlot k).slot j = if j = k then none else s.slot j := State.slot_setSlot s k j none
  rw [State.openList_closeSlot, List.mem_filter, hmem, hslot]
  by_cases hj : j = k <;> simp [hj]

end Sys2Proof.Machine
end

section
/-! PROOFS. The ends of uploads keep store, uploads and directory shaped (R59, R80, R81, R186). -/

set_option Elab.async false

namespace Sys2Proof.Machine

variable {s t : State} {k : Fin 4} {u : UploadRecord}

/-! ### The clean-up (R81) -/

/-- An entry with an open upload is FILLING with nothing else, or holds an image and no replacement; the upload's end leaves
it FREE or with its image. -/
theorem EntrySound.disclaimed {h : Nat} {e : DirEntry} (he : EntrySound s h e) (hup : e.upload ≠ none) :
    EntrySound t h e.disclaimed ∧ e.disclaimed.upload = none ∧ e.disclaimed.image = e.image
      ∧ e.disclaimed.replacement = e.replacement := by
  obtain ⟨-, hstate⟩ := he
  unfold DirEntry.disclaimed
  cases hst : e.state with
  | free =>
    rw [hst] at hstate
    rw [hstate] at hup
    exact absurd rfl hup
  | filling =>
    rw [hst] at hstate
    obtain ⟨heq, -⟩ := hstate
    rw [if_pos rfl]
    refine ⟨⟨fun k mode hk => (by cases hk), rfl⟩, rfl, ?_, ?_⟩ <;> rw [heq] <;> rfl
  | ready | damaged =>
    rw [hst] at hstate
    obtain ⟨himage, hrepl⟩ := hstate
    rw [if_neg (by simp)]
    refine ⟨⟨fun k mode hk => (by cases hk), ?_⟩, rfl, rfl, rfl⟩
    simp only
    exact ⟨himage, fun hr => absurd (hrepl hr).1 hup⟩

/-- The slot list after a slot has been closed and its reservation returned. -/
theorem State.reserved_closeSlot (hs : s.Shaped) (hu : s.slot k = some u) (hie : t.ie = (s.closeSlot k).ie) :
    s.sc.reserved - u.reserved = (fours.map t.slotReserved).sum := by
  have hslot (j : Fin 4) : t.slot j = if j = k then none else s.slot j :=
    (State.slot_congr _ _ j hie).trans (State.slot_setSlot s k j none)
  have hsum := sum_fours_congr (f := s.slotReserved) (g := t.slotReserved) (k := k) fun j hj => by
    simp [State.slotReserved, hslot, hj]
  have hk : t.slotReserved k = 0 := by simp [State.slotReserved, hslot]
  have hold : s.slotReserved k = u.reserved := by simp [State.slotReserved, hu]
  rw [hs.reserved]
  omega

/-- An upload has ended: its slot is closed, its reservation returned, and its handle's entry and chains are sound again. -/
theorem State.Shaped.endUpload (hs : s.Shaped) (hu : s.slot k = some u) {e : DirEntry} (hie : t.ie = (s.closeSlot k).ie)
    (hpdir : t.pdir = (s.setEntry u.handle e).pdir) (hsc : t.sc.Sound) (hreserved : t.sc.reserved = s.sc.reserved - u.reserved)
    (hothers : ∀ o, o.handle ≠ u.handle → OwnerKept o s t) (hentry : EntrySound t u.handle e) (hnone : e.upload = none)
    (hupload : t.Keeps ⟨u.handle, .upload⟩ none)
    (hcurrent : t.Keeps ⟨u.handle, .current⟩ (e.image.map ImageRecord.held))
    (hpending : t.Keeps ⟨u.handle, .pending⟩ (e.replacement.map ImageRecord.held)) : t.Shaped := by
  have hslot (j : Fin 4) : t.slot j = if j = k then none else s.slot j :=
    (State.slot_congr _ _ j hie).trans (State.slot_setSlot s k j none)
  have hentries (g : Nat) : t.entry g = if g = u.handle then e else s.entry g :=
    (State.entry_congr _ _ g hpdir).trans (State.entry_setEntry _ _ _ _)
  have he : t.entry u.handle = e := (hentries _).trans (if_pos rfl)
  refine hs.change u.handle (fun g hg => ⟨(hentries g).trans (if_neg hg), fun j v hv => ?_, fun _ => hothers _ hg⟩) hsc
    (hpdir ▸ Table.wf_set _ _ _ _ hs.pdir) ⟨fun j v hv hh => ?_, he ▸ hentry, fun kind => ?_⟩
    (hreserved.trans (State.reserved_closeSlot hs hu hie))
    (State.openListSound_congr hie (State.openListSound_closeSlot hs.openList k))
  · rw [hslot]
    split
    · next hj =>
      subst hj
      exact ⟨fun h => (by cases h), fun h => absurd (hv.symm.trans (by rw [Option.some.inj (h.symm.trans hu)])) hg⟩
    · rfl
  · rw [hslot] at hv
    split at hv
    · cases hv
    · next hj => exact absurd (hs.slot_unique hu hv hh) hj
  · cases kind with
    | upload => rwa [State.holding, State.openOn, he, hnone]
    | current => rwa [State.holding, he]
    | pending => rwa [State.holding, he]

theorem State.Shaped.cleanUp (hs : s.Shaped) (hu : s.slot k = some u) : (s.cleanUp k u).Shaped := by
  have hup := ((hs.handles u.handle).upload k u hu rfl).claimed
  have hold := hs.handles u.handle
  have hfreed := (State.holding_upload hs.claims hu ▸ hold.chains .upload).freeUpload hs.sc
  have hcl (o : Owner) : OwnerKept o (s.freeUpload u) (s.cleanUp k u) := fun c _ => by
    simp [State.cluster, State.cleanUp_sc]
  have hkept {o : Owner} (ho : o ≠ ⟨u.handle, .upload⟩) : OwnerKept o s (s.cleanUp k u) := (hfreed.others o ho).trans (hcl o)
  obtain ⟨hentry, hnone, himage, hrepl⟩ := hold.entry.disclaimed (fun h => by rw [h] at hup; cases hup)
  refine hs.endUpload hu (State.cleanUp_ie s k u) (State.cleanUp_pdir s k u) ?_ (by rw [State.cleanUp_sc])
    (fun o ho => hkept fun he => ho (congrArg Owner.handle he)) hentry hnone (hfreed.gone.kept (hcl _)) ?_ ?_
  · rw [State.cleanUp_sc]
    exact ((s.keepsCounts_freeUpload u).sound hs.sc).setReserved _
  · rw [himage]
    exact (hold.chains .current).kept (hkept (by simp))
  · rw [hrepl]
    exact (hold.chains .pending).kept (hkept (by simp))

theorem State.Shaped.failUpload (hs : s.Shaped) (hu : s.slot k = some u) (o : UploadOutcome) :
    (s.failUpload k u o).Shaped :=
  (hs.cleanUp hu).congr (State.touches_uploadResult _ _ _ _ _).sc (State.touches_uploadResult _ _ _ _ _).pdir
    (State.touches_uploadResult _ _ _ _ _).ie

/-! ### The hand-over (R80) -/

/-- A complete upload has its whole chain and nothing left reserved. -/
theorem UploadRecord.Sized.complete (hz : u.Sized) (hdone : u.expected ≤ u.received) :
    u.reserved = 0 ∧ ∃ ends, u.chain = some ends := by
  obtain ⟨hwidth, -, hheight, -, hexpected, -, htotal, hcovered, htight, hchain⟩ := hz
  have hpos : 0 < u.expected := by
    rw [hexpected]
    exact Nat.mul_pos (Nat.mul_pos (by omega) (by omega)) (by omega)
  refine ⟨by omega, Option.ne_none_iff_exists'.mp fun hnone => ?_⟩
  have := hchain.mp hnone
  omega

/-- Relabelling one chain and freeing another may change places. -/
theorem State.cluster_freeImage_relabelChain {o o' : Owner} {first n : Nat} {image : Option ImageRecord} (hs : s.sc.Sound)
    (hchain : s.Keeps o (some (first, n))) (himage : s.Keeps o' (image.map ImageRecord.held)) (hne : o ≠ o') (kind : ChainKind)
    (c : Nat) :
    ((s.relabelChain first kind).freeImage image).cluster c = ((s.freeImage image).relabelChain first kind).cluster c := by
  cases image with
  | none => rfl
  | some i =>
    obtain ⟨hrun, hfirst, -⟩ := hchain.exists_chain hs
    obtain ⟨hrun', -, -⟩ := himage.exists_chain hs
    have hsame : (s.freeChain i.first).chain first = s.chain first :=
      (hrun.kept ((himage.freeChain hs).others o hne)).chain ((s.keepsCounts_freeChain i.first).sound hs) hfirst
    have hnd : ((s.relabelChain first kind).chain i.first).Nodup := by
      rw [State.chain_relabelChain]
      exact hrun'.runs.nodup
    obtain ⟨hfreed, -⟩ := State.freeChain_outcome hrun'.runs.nodup
    obtain ⟨hfreed', -⟩ := State.freeChain_outcome hnd
    obtain ⟨hrelabelled, -⟩ := s.relabelChain_outcome first kind
    obtain ⟨hrelabelled', -⟩ := (s.freeChain i.first).relabelChain_outcome first kind
    simp only [State.freeImage]
    rw [hfreed', State.chain_relabelChain, hrelabelled, hrelabelled', hsame, hfreed]
    by_cases hmem : c ∈ s.chain i.first
    · have hnot : c ∉ s.chain first := fun h =>
        hne (Option.some.inj ((hrun.mem_iff.mp h).symm.trans (hrun'.mem_iff.mp hmem)))
      simp [hmem, hnot]
    · simp [hmem]

theorem State.makeReady_pdir (s : State) (h : Nat) (e : DirEntry) (image : ImageRecord) :
    (s.makeReady h e image).pdir = (s.setEntry h { e with state := .ready, image := some image }).pdir := by
  unfold State.makeReady
  simp only
  split
  · rfl
  · exact (State.touches_reportEntry _ h).pdir

theorem State.setEntry_pdir_congr (hpdir : t.pdir = s.pdir) (h : Nat) (e : DirEntry) :
    (t.setEntry h e).pdir = (s.setEntry h e).pdir := congrArg (fun p => Table.set (freeEntry 0) p h e) hpdir

theorem State.setEntry_setEntry (s : State) (h : Nat) (e e' : DirEntry) :
    (s.setEntry h e).setEntry h e' = s.setEntry h e' :=
  congrArg (fun p => { s with pdir := p }) (Table.set_set (d := freeEntry 0) h e e')

/-- The entry of an image just handed over or swapped in. -/
theorem EntrySound.ready {h : Nat} {e : DirEntry} (hst : e.state = .ready) (himage : e.image ≠ none)
    (hrepl : e.replacement = none) (hup : e.upload = none) : EntrySound s h e := by
  refine ⟨fun k mode hk => (by rw [hup] at hk; cases hk), ?_⟩
  rw [hst]
  exact ⟨himage, fun h => absurd hrepl h⟩

/-- A FILLING entry has neither image nor replacement. -/
theorem EntrySound.filling {h : Nat} {e : DirEntry} (he : EntrySound s h e) (hst : e.state = .filling) :
    e.image = none ∧ e.replacement = none := by
  obtain ⟨-, hstate⟩ := he
  rw [hst] at hstate
  obtain ⟨heq, -⟩ := hstate
  rw [heq]
  exact ⟨rfl, rfl⟩

/-- An entry that holds an image and has an upload open has no replacement. -/
theorem EntrySound.replacing {h : Nat} {e : DirEntry} (he : EntrySound s h e) (hst : e.state ≠ .filling)
    (hup : e.upload ≠ none) : (e.state = .ready ∨ e.state = .damaged) ∧ e.image ≠ none ∧ e.replacement = none := by
  obtain ⟨-, hstate⟩ := he
  cases hs : e.state with
  | free =>
    rw [hs] at hstate
    rw [hstate] at hup
    exact absurd rfl hup
  | filling => exact absurd hs hst
  | ready | damaged =>
    rw [hs] at hstate
    refine ⟨by simp, hstate.1, by_contra fun hr => hup (hstate.2 hr).1⟩

/-- A complete upload gives its chain to its handle's entry. -/
theorem State.Shaped.handedOver (hs : s.Shaped) (hu : s.slot k = some u) {v : State} {e : DirEntry}
    (hie : t.ie = (s.closeSlot k).ie) (hpdir : t.pdir = (s.setEntry u.handle e).pdir) (hsc : t.sc = v.sc) (hv : KeepsCounts s v) (hreserved : u.reserved = 0)
    (hothers : ∀ o, o.handle ≠ u.handle → OwnerKept o s v) (hentry : EntrySound t u.handle e) (hnone : e.upload = none)
    (hupload : v.Keeps ⟨u.handle, .upload⟩ none) (hcurrent : v.Keeps ⟨u.handle, .current⟩ (e.image.map ImageRecord.held))
    (hpending : v.Keeps ⟨u.handle, .pending⟩ (e.replacement.map ImageRecord.held)) : t.Shaped :=
  hs.endUpload hu hie hpdir (hsc ▸ hv.sound hs.sc) (by rw [hsc, hv.reserved, hreserved, Nat.sub_zero])
    (fun o ho => (hothers o ho).trans (OwnerKept.of_sc hsc)) hentry hnone (hupload.kept (OwnerKept.of_sc hsc))
    (hcurrent.kept (OwnerKept.of_sc hsc)) (hpending.kept (OwnerKept.of_sc hsc))

theorem OwnerKept.of_cluster {o : Owner} (hc : ∀ c, t.cluster c = s.cluster c) : OwnerKept o s t := fun c _ => by
  rw [hc]
  exact ⟨rfl, rfl⟩

/-- The chain of a complete upload is that of the image it hands over. -/
theorem State.Shaped.complete (hs : s.Shaped) (hu : s.slot k = some u) (hdone : u.expected ≤ u.received) :
    u.reserved = 0 ∧ s.Keeps ⟨u.handle, .upload⟩ (some (u.image.first, u.image.clusters)) := by
  have hh := hs.handles u.handle
  obtain ⟨hreserved, ⟨first, last⟩, hchain⟩ := (hh.upload k u hu rfl).sized.complete hdone
  have hupload := State.holding_upload hs.claims hu ▸ hh.chains .upload
  rw [UploadRecord.chainHeld, hchain] at hupload
  exact ⟨hreserved, by simpa [UploadRecord.image, hchain] using hupload⟩

theorem State.closeSlot_sc (s : State) (k : Fin 4) : (s.closeSlot k).sc = s.sc := rfl

/-- What a hand-over to a READY entry leaves of slots, entries and store. -/
theorem State.handOver_ready {v : State} (hv : ScOnly (s.closeSlot k) v) (e : DirEntry) (o : UploadOutcome) (n : Nat) :
    let t := (v.makeReady u.handle e u.image).uploadResult k u o n
    t.ie = (s.closeSlot k).ie ∧ t.pdir = (s.setEntry u.handle { e with state := .ready, image := some u.image }).pdir
      ∧ t.sc = v.sc := by
  intro t
  have hresult := State.touches_uploadResult (v.makeReady u.handle e u.image) k u o n
  have hready := v.touches_makeReady u.handle e u.image
  exact ⟨hresult.ie.trans (hready.ie.trans (by rw [hv])),
    hresult.pdir.trans ((v.makeReady_pdir _ _ _).trans (State.setEntry_pdir_congr (by rw [hv]; rfl) _ _)),
    hresult.sc.trans hready.sc⟩

section HandOver

variable (hs : s.Shaped) (hu : s.slot k = some u) (hdone : u.expected ≤ u.received)

include hs hu hdone

/-- A new image's chain becomes the CURRENT one (R57). -/
theorem State.Shaped.handOver_new (hmode : u.mode = .new) : (s.handOver k u).Shaped := by
  have hh := hs.handles u.handle
  obtain ⟨hreserved, hupload⟩ := hs.complete hu hdone
  obtain ⟨himage, hrepl⟩ := hh.entry.filling ((hh.upload k u hu rfl).filling.mp hmode)
  obtain ⟨hnew, hgone, hothers⟩ := hupload.relabelChain (himage ▸ hh.current) (by simp) hs.sc
  obtain ⟨hie, hpdir, hsc⟩ := State.handOver_ready (u := u) ((s.closeSlot k).scOnly_relabelChain u.image.first .current)
    { s.entry u.handle with upload := none } .stored u.image.clusters
  simp only [State.handOver, hmode]
  exact hs.handedOver hu (v := s.relabelChain u.image.first .current) hie hpdir
    (hsc.trans (State.relabelChain_sc_congr (s.closeSlot_sc k) _ _)) (s.keepsCounts_relabelChain _ _) hreserved
    (fun o ho => hothers o (fun h => ho (congrArg _ h)) fun h => ho (congrArg _ h))
    (EntrySound.ready rfl (by simp) hrepl rfl) rfl hgone hnew (hh.pending.kept (hothers _ (by simp) (by simp)))

/-- A replacement's chain becomes the CURRENT one, and the old one is freed (R58). -/
theorem State.Shaped.handOver_replace (hmode : u.mode = .replace) (hpins : (s.entry u.handle).pins = 0) :
    (s.handOver k u).Shaped := by
  have hh := hs.handles u.handle
  have hopen := hh.upload k u hu rfl
  obtain ⟨hreserved, hupload⟩ := hs.complete hu hdone
  obtain ⟨-, -, hrepl⟩ := hh.entry.replacing (fun hf => by simp [hopen.filling.mpr hf] at hmode) (by simp [hopen.claimed])
  have hfreed := hh.current.freeImage hs.sc
  obtain ⟨hnew, hgone, hothers⟩ := (hupload.kept (hfreed.others _ (by simp))).relabelChain hfreed.gone (by simp)
    ((s.keepsCounts_freeImage _).sound hs.sc)
  have hswap {o : Owner} : OwnerKept o ((s.freeImage (s.entry u.handle).image).relabelChain u.image.first .current)
      ((s.relabelChain u.image.first .current).freeImage (s.entry u.handle).image) :=
    OwnerKept.of_cluster (State.cluster_freeImage_relabelChain hs.sc hupload hh.current (by simp) .current)
  obtain ⟨hie, hpdir, hsc⟩ := State.handOver_ready (u := u)
    (((s.closeSlot k).scOnly_relabelChain u.image.first .current).trans (State.scOnly_freeImage _ (s.entry u.handle).image))
    { s.entry u.handle with upload := none } .replaced u.image.clusters
  simp only [State.handOver, hmode]
  rw [if_pos hpins]
  refine hs.handedOver hu hie hpdir (hsc.trans (State.freeImage_sc_congr (State.relabelChain_sc_congr (s.closeSlot_sc k) _ _) _))
    ((s.keepsCounts_relabelChain _ _).trans (State.keepsCounts_freeImage _ _)) hreserved (fun o ho => ?_)
    (EntrySound.ready rfl (by simp) hrepl rfl) rfl (hgone.kept hswap) (hnew.kept hswap)
    (((hh.pending.kept (hfreed.others _ (by simp))).kept (hothers _ (by simp) (by simp))).kept hswap)
  exact ((hfreed.others o fun h => ho (congrArg _ h)).trans
    (hothers o (fun h => ho (congrArg _ h)) fun h => ho (congrArg _ h))).trans hswap

/-- A replacement's chain waits as the PENDING one while the entry is pinned (R58). -/
theorem State.Shaped.handOver_pinned (hmode : u.mode = .replace) (hpins : (s.entry u.handle).pins ≠ 0) :
    (s.handOver k u).Shaped := by
  have hh := hs.handles u.handle
  have hopen := hh.upload k u hu rfl
  obtain ⟨hreserved, hupload⟩ := hs.complete hu hdone
  obtain ⟨hst, himage, hrepl⟩ :=
    hh.entry.replacing (fun hf => by simp [hopen.filling.mpr hf] at hmode) (by simp [hopen.claimed])
  obtain ⟨hnew, hgone, hothers⟩ := hupload.relabelChain (hrepl ▸ hh.pending) (by simp) hs.sc
  have hv := (s.closeSlot k).scOnly_relabelChain u.image.first .pending
  simp only [State.handOver, hmode]
  rw [if_neg hpins]
  refine hs.handedOver (e := { s.entry u.handle with upload := none, replacement := some u.image }) hu ?_ ?_
    (((State.touches_uploadResult _ _ _ _ _).sc.trans (State.setEntry_sc _ _ _)).trans
      (State.relabelChain_sc_congr (s.closeSlot_sc k) _ _)) (s.keepsCounts_relabelChain u.image.first .pending)
    hreserved (fun o ho => hothers o (fun h => ho (congrArg _ h)) fun h => ho (congrArg _ h))
    ⟨fun j mode hj => (by cases hj), ?_⟩ rfl hgone (hh.current.kept (hothers _ (by simp) (by simp))) hnew
  · rw [(State.touches_uploadResult _ _ _ _ _).ie, State.setEntry_ie, hv]
  · rw [(State.touches_uploadResult _ _ _ _ _).pdir]
    exact State.setEntry_pdir_congr (by rw [hv]; rfl) _ _
  · rcases hst with hst | hst <;> simp [hst, himage, Nat.pos_of_ne_zero hpins]

theorem State.Shaped.handOver : (s.handOver k u).Shaped := by
  cases hmode : u.mode with
  | new => exact hs.handOver_new hu hdone hmode
  | replace =>
    by_cases hpins : (s.entry u.handle).pins = 0
    · exact hs.handOver_replace hu hdone hmode hpins
    · exact hs.handOver_pinned hu hdone hmode hpins

end HandOver

end Sys2Proof.Machine
end

section
/-! PROOFS. Pins, swaps, deletions and faults keep store, uploads and directory shaped (R60 to R64, R181 to R184). -/

set_option Elab.async false

namespace Sys2Proof.Machine

variable {s t : State} {h : Nat}

/-- An entry changes with its images and chains, but not its open upload. -/
theorem State.Shaped.changeImages (hs : s.Shaped) {v : State} {e : DirEntry} (hie : t.ie = s.ie)
    (hpdir : t.pdir = (s.setEntry h e).pdir) (hsc : t.sc = v.sc) (hv : KeepsCounts s v)
    (hothers : ∀ o, o.handle ≠ h ∨ o.kind = .upload → OwnerKept o s v) (hup : e.upload = (s.entry h).upload)
    (hfilling : e.state = .filling ↔ (s.entry h).state = .filling) (hentry : EntrySound s h e)
    (hcurrent : v.Keeps ⟨h, .current⟩ (e.image.map ImageRecord.held))
    (hpending : v.Keeps ⟨h, .pending⟩ (e.replacement.map ImageRecord.held)) : t.Shaped := by
  have hslot (k : Fin 4) : t.slot k = s.slot k := State.slot_congr _ _ k hie
  have he : t.entry h = e := (State.entry_congr _ _ h hpdir).trans ((State.entry_setEntry _ _ _ _).trans (if_pos rfl))
  have hkept (o : Owner) (ho : o.handle ≠ h ∨ o.kind = .upload) : OwnerKept o s t :=
    (hothers o ho).trans (OwnerKept.of_sc hsc)
  refine hs.changeEntry hie hpdir (hsc ▸ hv.sound hs.sc) (by rw [hsc, hv.reserved]) (fun o ho => hkept o (.inl ho))
    ⟨fun k u hu hh => ?_, ?_, fun kind => ?_⟩
  · obtain ⟨hsized, hends, hclaimed, huf⟩ := (hs.handles h).upload k u (hslot k ▸ hu) hh
    subst hh
    exact ⟨hsized, fun last hl => (hends last hl).kept (hkept _ (.inr rfl)), by rw [he, hup, hclaimed],
      by rw [he, hfilling, huf]⟩
  · rw [he]
    exact hentry.kept fun k u _ hu => (hslot k).trans hu
  · cases kind with
    | upload =>
      have hsame : t.holding ⟨h, .upload⟩ = s.holding ⟨h, .upload⟩ := by simp only [State.holding, State.openOn, he, hup, hslot]
      rw [hsame]
      exact ((hs.handles h).chains .upload).kept (hkept _ (.inr rfl))
    | current =>
      rw [State.holding, he]
      exact hcurrent.kept (OwnerKept.of_sc hsc)
    | pending =>
      rw [State.holding, he]
      exact hpending.kept (OwnerKept.of_sc hsc)

/-- An entry changes by itself. -/
theorem State.Shaped.setEntry (hs : s.Shaped) {e : DirEntry} (hup : e.upload = (s.entry h).upload)
    (himage : e.image = (s.entry h).image) (hrepl : e.replacement = (s.entry h).replacement)
    (hfilling : e.state = .filling ↔ (s.entry h).state = .filling) (hentry : EntrySound s h e) : (s.setEntry h e).Shaped :=
  hs.changeImages (v := s) (s.setEntry_ie h e) rfl (s.setEntry_sc h e) (KeepsCounts.refl s) (fun o _ => OwnerKept.refl o s) hup
    hfilling hentry (himage ▸ (hs.handles h).current) (hrepl ▸ (hs.handles h).pending)

/-- A READY or DAMAGED entry has its image; a replacement only without an open upload, and while it is pinned. -/
theorem entrySound_iff {e : DirEntry} (hst : e.state = .ready ∨ e.state = .damaged) :
    EntrySound s h e ↔ (∀ k mode, e.upload = some (k, mode) → ∃ u, s.slot k = some u ∧ u.handle = h ∧ u.mode = mode)
      ∧ e.image ≠ none ∧ (e.replacement ≠ none → e.upload = none ∧ 0 < e.pins) := by
  unfold EntrySound
  rcases hst with hst | hst <;> rw [hst]

/-- An entry with a replacement is READY or DAMAGED. -/
theorem EntrySound.stored {e : DirEntry} (he : EntrySound s h e) (hr : e.replacement ≠ none) :
    e.state = .ready ∨ e.state = .damaged := by
  obtain ⟨-, hstate⟩ := he
  cases hs : e.state with
  | free =>
    rw [hs] at hstate
    rw [hstate] at hr
    exact absurd rfl hr
  | filling =>
    rw [hs] at hstate
    rw [hstate.1] at hr
    exact absurd rfl hr
  | ready | damaged => simp

/-! ### Pins (R60, R61) -/

/-- The entry after a pin. -/
def DirEntry.pinned (e : DirEntry) : DirEntry := { e with pins := e.pins + 1 }

theorem State.Shaped.pin (hs : s.Shaped) (hst : (s.entry h).state = .ready) : (s.pin h).Shaped := by
  obtain ⟨hclaim, himage, hrepl⟩ := (entrySound_iff (.inl hst)).mp (hs.handles h).entry
  have hentry : EntrySound s h (s.entry h).pinned :=
    (entrySound_iff (e := (s.entry h).pinned) (.inl hst)).mpr ⟨hclaim, himage, fun hr => ⟨(hrepl hr).1, Nat.succ_pos _⟩⟩
  exact hs.setEntry rfl rfl rfl Iff.rfl hentry

/-- The entry after the release of a pin. -/
def DirEntry.unpinned (e : DirEntry) : DirEntry := { e with pins := e.pins - 1 }

theorem State.unpin_keeps (hk : (s.entry h).pins - 1 ≠ 0 ∨ (s.entry h).replacement = none) :
    s.unpin h = s.setEntry h (s.entry h).unpinned := by
  have he : (s.setEntry h (s.entry h).unpinned).entry h = (s.entry h).unpinned := by
    rw [State.entry_setEntry, if_pos rfl]
  unfold State.unpin
  simp only
  split
  · next hn =>
    have hr : ((s.setEntry h (s.entry h).unpinned).entry h).replacement = none := by
      rw [he]
      exact hk.resolve_left (not_not.mpr hn)
    change (s.setEntry h (s.entry h).unpinned).swap h = _
    rw [State.swap, hr]
  · rfl

/-- The fall to 0 with a replacement that waits: the old image's chain is freed, the new one's relabelled, the entry READY
and port I told (R62). -/
theorem State.unpin_swaps {new : ImageRecord} (hn : (s.entry h).pins - 1 = 0) (hr : (s.entry h).replacement = some new) :
    s.unpin h = ((((s.setEntry h (s.entry h).unpinned).freeImage (s.entry h).image).relabelChain new.first
      .current).makeReady h { (s.entry h).unpinned with replacement := none } new).notice .i .replacementSwapped
        (bytes2 h ++ bytes1 (s.entry h).generation ++ bytes1 new.clusters) := by
  have he : (s.setEntry h (s.entry h).unpinned).entry h = (s.entry h).unpinned := by
    rw [State.entry_setEntry, if_pos rfl]
  have hr' : ((s.setEntry h (s.entry h).unpinned).entry h).replacement = some new := by rw [he]; exact hr
  have hunpin : s.unpin h = (s.setEntry h (s.entry h).unpinned).swap h := if_pos hn
  rw [hunpin, State.swap, hr']
  simp only [he]
  rfl

/-- A pin count may fall as long as one is left or no replacement waits. -/
theorem EntrySound.unpinned {e : DirEntry} (he : EntrySound s h e) (hpos : e.replacement ≠ none → e.pins - 1 ≠ 0) :
    EntrySound s h e.unpinned := by
  obtain ⟨hclaim, hstate⟩ := he
  refine ⟨hclaim, ?_⟩
  have hst : e.unpinned.state = e.state := rfl
  rw [hst]
  cases hs : e.state with
  | free =>
    rw [hs] at hstate
    exact (congrArg DirEntry.unpinned hstate).trans rfl
  | filling =>
    rw [hs] at hstate
    exact ⟨(congrArg DirEntry.unpinned hstate.1).trans rfl, hstate.2⟩
  | ready | damaged =>
    rw [hs] at hstate
    exact ⟨hstate.1, fun hr => ⟨(hstate.2 hr).1, Nat.pos_of_ne_zero (hpos hr)⟩⟩

theorem State.Shaped.swap (hs : s.Shaped) {new : ImageRecord} (hn : (s.entry h).pins - 1 = 0)
    (hr : (s.entry h).replacement = some new) : (s.unpin h).Shaped := by
  have hh := hs.handles h
  have hst := hh.entry.stored (by simp [hr])
  obtain ⟨-, -, hwaits⟩ := (entrySound_iff hst).mp hh.entry
  obtain ⟨hup, -⟩ := hwaits (by simp [hr])
  have hfreed := hh.current.freeImage hs.sc
  obtain ⟨hnew, hgone, hothers⟩ := ((hr ▸ hh.pending).kept (hfreed.others _ (by simp))).relabelChain hfreed.gone (by simp)
    ((s.keepsCounts_freeImage _).sound hs.sc)
  rw [State.unpin_swaps hn hr]
  set w := ((s.setEntry h (s.entry h).unpinned).freeImage (s.entry h).image).relabelChain new.first .current with hw
  have hwonly : ScOnly (s.setEntry h (s.entry h).unpinned) w :=
    (State.scOnly_freeImage _ _).trans (State.scOnly_relabelChain _ _ _)
  have hready := w.touches_makeReady h { (s.entry h).unpinned with replacement := none } new
  refine hs.changeImages (e := { (s.entry h).unpinned with replacement := none, state := .ready, image := some new })
    (((State.touches_notice _ _ _ _).ie.trans hready.ie).trans (by rw [hwonly, State.setEntry_ie]))
    ((State.touches_notice _ _ _ _).pdir.trans ((w.makeReady_pdir _ _ _).trans ?_))
    (((State.touches_notice _ _ _ _).sc.trans hready.sc).trans
      (State.relabelChain_sc_congr (State.freeImage_sc_congr (s.setEntry_sc _ _) _) _ _))
    ((s.keepsCounts_freeImage _).trans (State.keepsCounts_relabelChain _ _ _)) (fun o ho => ?_) rfl ?_
    (EntrySound.ready rfl (by simp) rfl hup) hnew hgone
  · rw [State.setEntry_pdir_congr (s := s.setEntry h (s.entry h).unpinned) (by rw [hwonly])]
    exact congrArg State.pdir (s.setEntry_setEntry h _ _)
  · have hne (kind : ChainKind) (hk : kind ≠ .upload) : o ≠ ⟨h, kind⟩ := fun he => by
      rw [he] at ho
      simp [hk] at ho
    exact (hfreed.others o (hne _ (by simp))).trans (hothers o (hne _ (by simp)) (hne _ (by simp)))
  · rcases hst with hst | hst <;> simp [hst]

theorem State.Shaped.unpin (hs : s.Shaped) : (s.unpin h).Shaped := by
  have hh := hs.handles h
  cases hr : (s.entry h).replacement with
  | none =>
    rw [State.unpin_keeps (.inr hr)]
    exact hs.setEntry rfl rfl rfl Iff.rfl (hh.entry.unpinned fun h => absurd hr h)
  | some new =>
    by_cases hn : (s.entry h).pins - 1 = 0
    · exact hs.swap hn hr
    · rw [State.unpin_keeps (.inl hn)]
      exact hs.setEntry rfl rfl rfl Iff.rfl (hh.entry.unpinned fun _ => hn)

/-! ### Deletion (R64) -/

theorem State.Shaped.setFree (hs : s.Shaped) (hst : (s.entry h).state = .ready ∨ (s.entry h).state = .damaged)
    (hpins : (s.entry h).pins = 0) (hup : (s.entry h).upload = none) (generation : Nat) :
    ((s.freeImage (s.entry h).image).setEntry h (freeEntry generation)).Shaped := by
  have hh := hs.handles h
  obtain ⟨-, -, hwaits⟩ := (entrySound_iff hst).mp hh.entry
  have hrepl : (s.entry h).replacement = none := by
    by_contra hr
    have := (hwaits hr).2
    omega
  have hfreed := hh.current.freeImage hs.sc
  have honly := s.scOnly_freeImage (s.entry h).image
  refine hs.changeImages (v := s.freeImage (s.entry h).image) (e := freeEntry generation)
    ((State.setEntry_ie _ _ _).trans (by rw [honly])) (State.setEntry_pdir_congr (by rw [honly]) _ _) (State.setEntry_sc _ _ _)
    (s.keepsCounts_freeImage _) (fun o ho => hfreed.others o fun he => ?_) hup.symm ?_ ⟨fun k mode hk => (by cases hk), rfl⟩
    hfreed.gone ((hrepl ▸ hh.pending).kept (hfreed.others _ (by simp)))
  · rw [he] at ho
    simp at ho
  · rcases hst with hst | hst <;> simp [hst, freeEntry]

/-- The open upload's clean-up comes first; it takes the claim from the entry and leaves the rest (R86). -/
theorem State.Shaped.deleteEntry (hs : s.Shaped) (hst : (s.entry h).state = .ready ∨ (s.entry h).state = .damaged)
    (hpins : (s.entry h).pins = 0) : (s.deleteEntry h (s.entry h)).Shaped := by
  have hclaims := hs.claims
  cases ho : s.openOn (s.entry h) with
  | none =>
    rw [State.deleteEntry_idle ho]
    refine hs.setFree hst hpins (Option.eq_none_iff_forall_ne_some.mpr fun ku hku => ?_) _
    obtain ⟨u, hu, -⟩ := hclaims.2 h ku.1 ku.2 hku
    rw [State.openOn_some hku hu] at ho
    cases ho
  | some ku =>
    obtain ⟨k, u⟩ := ku
    obtain ⟨hu, rfl⟩ := (State.openOn_eq_some_iff hclaims).mp ho
    have he : (s.cleanUp k u).entry u.handle = { s.entry u.handle with upload := none } := by
      rw [State.entry_cleanUp, if_pos rfl, DirEntry.disclaimed, if_neg]
      rcases hst with hst | hst <;> simp [hst]
    have hfree := (hs.cleanUp hu).setFree (h := u.handle) (he ▸ hst) (he ▸ hpins) (by rw [he])
      (((s.entry u.handle).generation + 1) % 16)
    rw [he] at hfree
    rw [State.deleteEntry_open ho]
    exact hfree.congr (State.touches_uploadResult _ _ _ _ _).sc (State.touches_uploadResult _ _ _ _ _).pdir
      (State.touches_uploadResult _ _ _ _ _).ie

/-! ### Faults (R181 to R184) -/

theorem State.Shaped.markCluster (hs : s.Shaped) (c : Nat) : (s.markCluster c).Shaped :=
  hs.changeClusters (s.touches_markCluster c).ie (s.touches_markCluster c).pdir ((s.keepsCounts_markCluster c).sound hs.sc)
    (s.keepsCounts_markCluster c).reserved (s.ownerKept_markCluster c)

theorem State.Shaped.currentFault (hs : s.Shaped) (h c : Nat) : (s.currentFault h c).Shaped := by
  unfold State.currentFault
  split
  · exact hs
  · extract_lets marked e damaged flagged payload
    have hmarked : marked.Shaped := hs.markCluster c
    have hdamaged : damaged.Shaped := by
      simp only [damaged]
      split
      · next hst =>
        have hentry := (hmarked.handles h).entry
        refine hmarked.setEntry rfl rfl rfl ?_ ((entrySound_iff (.inr rfl)).mpr ((entrySound_iff (.inl hst)).mp hentry))
        rw [hst]
        simp
      · exact hmarked
    have hflagged : flagged.Shaped := hdamaged.congr (damaged.touches_flagPages h).sc (damaged.touches_flagPages h).pdir
      (damaged.touches_flagPages h).ie
    exact hflagged.congr (by simp [State.notice_eq]) (by simp [State.notice_eq]) (by simp [State.notice_eq])

theorem State.Shaped.pendingFault (hs : s.Shaped) (h c : Nat) : (s.pendingFault h c).Shaped := by
  unfold State.pendingFault
  extract_lets marked e
  have hmarked : marked.Shaped := hs.markCluster c
  split
  · exact hmarked
  · next r hr =>
    have hh := hmarked.handles h
    have hst := hh.entry.stored (by rw [hr]; simp)
    obtain ⟨hclaim, himage, -⟩ := (entrySound_iff hst).mp hh.entry
    have hpending : marked.Keeps ⟨h, .pending⟩ (some (r.first, r.clusters)) := by
      have hp := hh.pending
      rwa [show (marked.entry h).replacement = some r from hr] at hp
    have hfreed := hpending.freeChain hmarked.sc
    have honly := (marked.setEntry h { e with replacement := none }).scOnly_freeChain r.first
    have hentry : EntrySound marked h { e with replacement := none } :=
      (entrySound_iff (e := { e with replacement := none }) hst).mpr ⟨hclaim, himage, fun h => absurd rfl h⟩
    have hkept {o : Owner} (hk : o.handle ≠ h ∨ o.kind ≠ .pending) : OwnerKept o marked (marked.freeChain r.first) :=
      hfreed.others o fun he => by
        rw [he] at hk
        simp at hk
    refine hmarked.changeImages (v := marked.freeChain r.first) (e := { e with replacement := none }) ?_ ?_ ?_
      (marked.keepsCounts_freeChain _) (fun o ho => hkept (ho.imp_right fun hk => by simp [hk])) rfl Iff.rfl hentry
      (hh.current.kept (hkept (.inr (by simp)))) hfreed.gone
    · rw [(State.touches_notice _ _ _ _).ie, honly, State.setEntry_ie]
    · rw [(State.touches_notice _ _ _ _).pdir, honly]
    · rw [(State.touches_notice _ _ _ _).sc]
      exact State.freeImage_sc_congr (State.setEntry_sc _ _ _) (some r)

theorem State.mem_openUploads {k : Fin 4} {u : UploadRecord} :
    (k, u) ∈ s.openUploads ↔ k ∈ s.ie.openList ∧ s.slot k = some u := by
  simp [State.openUploads]

theorem State.Shaped.uploadFault (hs : s.Shaped) (h c : Nat) : (s.uploadFault h c).Shaped := by
  unfold State.uploadFault
  extract_lets marked
  have hmarked : marked.Shaped := hs.markCluster c
  split
  · next k u hku =>
    exact hmarked.failUpload (State.mem_openUploads.mp (List.mem_of_find?_eq_some hku)).2 _
  · exact hmarked

/-! ### Reservations covered (R186) -/

/-- With no slot OPEN nothing is reserved. -/
theorem State.Shaped.reserved_eq_zero (hs : s.Shaped) (hnone : s.openUploads = []) : s.sc.reserved = 0 := by
  obtain ⟨-, hmem⟩ := hs.openList
  have hidle (k : Fin 4) : s.slot k = none := by
    by_contra hsome
    obtain ⟨u, hu⟩ := Option.ne_none_iff_exists'.mp hsome
    have hopen := State.mem_openUploads.mpr ⟨(hmem k).mpr (by rw [hu]; rfl), hu⟩
    rw [hnone] at hopen
    cases hopen
  rw [hs.reserved, List.sum_eq_zero]
  simp [State.slotReserved, hidle]

theorem State.openList_failUpload (s : State) (k : Fin 4) (u : UploadRecord) (o : UploadOutcome) :
    (s.failUpload k u o).ie.openList = s.ie.openList.filter (fun j => decide (j ≠ k)) := by
  rw [State.failUpload, (State.touches_uploadResult _ _ _ _ _).ie, State.openList_cleanUp]

/-- Failing uploads from the end of the open list, as long as it takes, leaves no more reserved than is FREE. -/
theorem State.Shaped.coverReservations (hs : s.Shaped) {fuel : Nat} (hfuel : s.ie.openList.length ≤ fuel) :
    (s.coverReservations fuel).Shaped
      ∧ (s.coverReservations fuel).sc.reserved ≤ (s.coverReservations fuel).sc.freeCount := by
  induction fuel generalizing s with
  | zero =>
    have hnil : s.openUploads = [] := by simp [State.openUploads, List.eq_nil_of_length_eq_zero (Nat.le_zero.mp hfuel)]
    exact ⟨hs, by simp [State.coverReservations, hs.reserved_eq_zero hnil]⟩
  | succ n ih =>
    unfold State.coverReservations
    split
    · split
      · next k u hlast =>
        obtain ⟨hopen, hu⟩ := State.mem_openUploads.mp (List.mem_of_getLast? hlast)
        refine ih (hs.failUpload hu _) ?_
        have hless : (s.ie.openList.filter (fun j => decide (j ≠ k))).length < s.ie.openList.length :=
          List.length_filter_lt_length_iff_exists.mpr ⟨k, hopen, by simp⟩
        rw [State.openList_failUpload]
        omega
      · next hnone =>
        have := hs.reserved_eq_zero (List.getLast?_eq_none_iff.mp hnone)
        omega
    · next hle => exact ⟨hs, not_lt.mp hle⟩

theorem State.Shaped.openList_length (hs : s.Shaped) : s.ie.openList.length ≤ 4 := by
  obtain ⟨hnd, -⟩ := hs.openList
  simpa using hnd.length_le_card

/-- A FREE cluster retired: one FREE cluster less, one RETIRED more (R49). -/
theorem State.Shaped.retireFree (hs : s.Shaped) {c : Nat} (hc : c < 131072) (hfree : s.cluster c = .free) :
    (s.retireFree c).Shaped := by
  have hpos := hs.sc.free_pos hc hfree
  have htaken : s.sc.freeCount - 1 + ClusterEntry.retired.taken = s.sc.freeCount + (s.cluster c).taken := by
    simp only [hfree, ClusterEntry.taken, if_true, reduceCtorEq, if_false]
    omega
  have hlost : s.sc.retiredCount + 1 + (s.cluster c).lost = s.sc.retiredCount + ClusterEntry.retired.lost := by
    simp [hfree, ClusterEntry.lost]
  exact hs.changeClusters rfl rfl (hs.sc.set (.inl hc) htaken hlost) rfl (State.ownerKept_retireFree hfree)

end Sys2Proof.Machine
end

section
/-! PROOFS. Uploads opened and written keep store, uploads and directory shaped (R74, R76, R78). -/

set_option Elab.async false

namespace Sys2Proof.Machine

variable {s t : State} {k : Fin 4} {u v : UploadRecord}

/-! ### An upload goes on -/

/-- An OPEN slot takes another record of the same upload. -/
theorem State.Shaped.changeUpload (hs : s.Shaped) (hu : s.slot k = some u) (hhandle : v.handle = u.handle)
    (hmode : v.mode = u.mode) (hie : t.ie = (s.setSlot k (some v)).ie) (hpdir : t.pdir = s.pdir) (hsc : t.sc.Sound)
    (hreserved : t.sc.reserved + u.reserved = s.sc.reserved + v.reserved)
    (hothers : ∀ o, o ≠ ⟨u.handle, .upload⟩ → OwnerKept o s t) (hsized : v.Sized)
    (hends : ∀ last, v.chain.map Prod.snd = some last → t.Ends ⟨u.handle, .upload⟩ last)
    (hchain : t.Keeps ⟨u.handle, .upload⟩ v.chainHeld) : t.Shaped := by
  have hslot (j : Fin 4) : t.slot j = if j = k then some v else s.slot j :=
    (State.slot_congr _ _ j hie).trans (State.slot_setSlot s k j (some v))
  have hentry (g : Nat) : t.entry g = s.entry g := State.entry_congr _ _ g hpdir
  have hh := hs.handles u.handle
  have hopen := hh.upload k u hu rfl
  refine hs.change u.handle (fun g hg => ⟨hentry g, fun j w hw => ?_, fun kind => hothers _ fun he =>
    hg (congrArg Owner.handle he)⟩) hsc (hpdir ▸ hs.pdir) ⟨fun j w hw hwh => ?_, ⟨fun j mode hj => ?_, ?_⟩, fun kind => ?_⟩ ?_ ⟨?_, fun j => ?_⟩
  · rw [hslot]
    split
    · next hj =>
      subst hj
      exact ⟨fun h => absurd (hw.symm.trans (by rw [← Option.some.inj h, hhandle])) hg,
        fun h => absurd (hw.symm.trans (by rw [Option.some.inj (h.symm.trans hu)])) hg⟩
    · rfl
  · rw [hslot] at hw
    split at hw
    · next hj =>
      obtain rfl := Option.some.inj hw
      subst hj
      refine ⟨hsized, hhandle ▸ hends, ?_, ?_⟩
      · rw [hentry, hmode, hhandle, hopen.claimed]
      · rw [hentry, hmode, hhandle, hopen.filling]
    · next hj => exact absurd (hs.slot_unique hu hw hwh) hj
  · rw [hentry] at hj
    obtain ⟨w, hw, hwh, hwm⟩ := hh.entry.1 j mode hj
    by_cases hjk : j = k
    · subst hjk
      obtain rfl := Option.some.inj (hw.symm.trans hu)
      exact ⟨v, by rw [hslot, if_pos rfl], hhandle, hmode.trans hwm⟩
    · exact ⟨w, by rw [hslot, if_neg hjk, hw], hwh, hwm⟩
  · rw [hentry]
    exact hh.entry.2
  · cases kind with
    | upload =>
      rw [State.holding, State.openOn_some ((congrArg DirEntry.upload (hentry _)).trans hopen.claimed)
        ((hslot k).trans (if_pos rfl))]
      exact hchain
    | current =>
      rw [State.holding, hentry]
      exact hh.current.kept (hothers _ (by simp))
    | pending =>
      rw [State.holding, hentry]
      exact hh.pending.kept (hothers _ (by simp))
  · have hsum := sum_fours_congr (f := s.slotReserved) (g := t.slotReserved) (k := k) fun j hj => by
      simp [State.slotReserved, hslot, hj]
    have hnew : t.slotReserved k = v.reserved := by simp [State.slotReserved, hslot]
    have hold : s.slotReserved k = u.reserved := by simp [State.slotReserved, hu]
    have := hs.reserved
    omega
  · rw [hie]
    exact hs.openList.1
  · rw [hie, hslot]
    refine (hs.openList.2 j).trans ?_
    split
    · next hj => simp [hj, hu]
    · rfl

/-- The idle timer is of no account. -/
theorem State.Shaped.setTimer (hs : s.Shaped) (hu : s.slot k = some u) (ms : Nat) :
    (s.setSlot k (some { u with timer := ms })).Shaped := by
  have hh := hs.handles u.handle
  obtain ⟨hsized, hends, -, -⟩ := hh.upload k u hu rfl
  have hsc := s.setSlot_sc k (some { u with timer := ms })
  exact hs.changeUpload (v := { u with timer := ms }) hu rfl rfl rfl (s.setSlot_pdir k _) (hsc ▸ hs.sc)
    (by rw [hsc]) (fun o _ => OwnerKept.of_sc hsc)
    ⟨hsized.width_ge, hsized.width_le, hsized.height_ge, hsized.height_le, hsized.expected, hsized.received, hsized.total,
      hsized.covered, hsized.tight, hsized.chain⟩
    (fun last hl => (hends last hl).kept (OwnerKept.of_sc hsc))
    ((State.holding_upload hs.claims hu ▸ hh.chains .upload).kept (OwnerKept.of_sc hsc))

/-- The idle timer of a slot after a millisecond. -/
def State.tickSlot (s : State) (k : Fin 4) : State :=
  s.setSlot k ((s.slot k).map (fun u => { u with timer := u.timer - 1 }))

theorem Four.set_get {α : Type} (f : Four α) (k : Fin 4) : f.set k (f.get k) = f := by fin_cases k <;> rfl

theorem State.setSlot_slot (s : State) (k : Fin 4) : s.setSlot k (s.slot k) = s :=
  congrArg (fun f => { s with ie := { s.ie with slots := f } }) (Four.set_get _ k)

theorem State.Shaped.tickSlot (hs : s.Shaped) (k : Fin 4) : (s.tickSlot k).Shaped := by
  cases hu : s.slot k with
  | some u =>
    rw [State.tickSlot, hu]
    exact hs.setTimer hu _
  | none =>
    have hsame : s.tickSlot k = s := by
      rw [State.tickSlot, hu, Option.map_none, ← hu, State.setSlot_slot]
    rwa [hsame]

theorem State.Shaped.tickTimers (hs : s.Shaped) : s.tickTimers.Shaped := by
  have hticked : (fours.foldl State.tickSlot s).Shaped := List.foldlRecOn _ _ hs fun _ hv k _ => hv.tickSlot k
  exact hticked.congr rfl rfl rfl

/-! ### Bytes written (R50, R76) -/

/-- A byte of an upload that has room in its last cluster (R76). -/
def UploadRecord.withByte (u : UploadRecord) (b : Byte) : UploadRecord :=
  { u with received := u.received + 1, crc := crc32Byte u.crc b }

/-- An upload with one cluster more (R50). -/
def UploadRecord.withCluster (u : UploadRecord) (c : Nat) : UploadRecord :=
  { u with chain := some ((u.chain.map Prod.fst).getD c, c), held := u.held + 1, reserved := u.reserved - 1 }

theorem State.putByte_within {ends : Nat × Nat} (hne : u.received ≠ u.held * 65536) (hc : u.chain = some ends) (b : Byte) :
    s.putByte u b = some (s.writeByte (ends.2 * 65536 + u.received % 65536) b, u.withByte b) := by
  simp only [State.putByte, Config.clusterBytes, if_neg hne, hc, UploadRecord.withByte]

theorem State.putByte_next {c : Nat} (heq : u.received = u.held * 65536) (hc : s.nextFree = some c) (b : Byte) :
    s.putByte u b = some ((s.appendCluster u.handle (u.chain.map Prod.snd) c).writeByte (c * 65536 + u.received % 65536) b,
      (u.withCluster c).withByte b) := by
  simp only [State.putByte, Config.clusterBytes, if_pos heq, State.allocate, hc]
  rfl

theorem State.setSlot_setSlot (s : State) (k : Fin 4) (x y : Option UploadRecord) :
    (s.setSlot k x).setSlot k y = s.setSlot k y := by
  have hset : (s.ie.slots.set k x).set k y = s.ie.slots.set k y := by fin_cases k <;> rfl
  exact congrArg (fun f => { s with ie := { s.ie with slots := f } }) hset

theorem StoreController.Sound.writeByte (hs : s.sc.Sound) (a : Nat) (b : Byte) : (s.writeByte a b).sc.Sound :=
  hs.setWord _ (.inr rfl)

section PutByte

variable (hs : (s.setSlot k (some u)).Shaped) (hr : u.received < u.expected)

include hs hr

theorem State.Shaped.putByte_within (hne : u.received ≠ u.held * 65536) (b : Byte) (a : Nat) :
    ((s.writeByte a b).setSlot k (some (u.withByte b))).Shaped := by
  have hu : (s.setSlot k (some u)).slot k = some u := by rw [State.slot_setSlot, if_pos rfl]
  have hh := hs.handles u.handle
  obtain ⟨hz, hends, -, -⟩ := hh.upload k u hu rfl
  have hcovered := hz.covered
  have htight := hz.tight
  have hkept (o : Owner) : OwnerKept o (s.setSlot k (some u)) ((s.writeByte a b).setSlot k (some (u.withByte b))) :=
    fun _ _ => ⟨rfl, rfl⟩
  refine hs.changeUpload (v := u.withByte b) hu rfl rfl (by rw [State.setSlot_setSlot]; rfl) rfl
    (StoreController.Sound.writeByte (s := s) hs.sc a b) rfl (fun o _ => hkept o) ?_ (fun last hl => (hends last hl).kept (hkept _))
    ((State.holding_upload hs.claims hu ▸ hh.chains .upload).kept (hkept _))
  exact ⟨hz.width_ge, hz.width_le, hz.height_ge, hz.height_le, hz.expected, hr, hz.total,
    by simp only [UploadRecord.withByte]; omega, by simp only [UploadRecord.withByte]; omega, hz.chain⟩

theorem State.Shaped.putByte_next {c : Nat} (heq : u.received = u.held * 65536) (hc : s.nextFree = some c) (b : Byte)
    (a : Nat) :
    let w := s.appendCluster u.handle (u.chain.map Prod.snd) c
    ((w.writeByte a b).setSlot k (some ((u.withCluster c).withByte b))).Shaped ∧ w.sc.freeCount + 1 = s.sc.freeCount
      ∧ w.sc.reserved + 1 = s.sc.reserved := by
  intro w
  have hu : (s.setSlot k (some u)).slot k = some u := by rw [State.slot_setSlot, if_pos rfl]
  have hh := hs.handles u.handle
  obtain ⟨hz, hends, -, -⟩ := hh.upload k u hu rfl
  have hupload := State.holding_upload hs.claims hu ▸ hh.chains .upload
  have hupload : s.Keeps ⟨u.handle, .upload⟩ u.chainHeld := hupload.kept (fun _ _ => ⟨rfl, rfl⟩)
  have hsc : s.sc.Sound := hs.sc
  have htotal := hz.total
  have hpos : 0 < u.reserved := by omega
  have hreserved : u.reserved ≤ s.sc.reserved := hs.reserved_le hu
  obtain ⟨hlt, hfree, -⟩ := ((allocationTakesNextFree s hsc.cursor.le).1 c).mp hc
  obtain ⟨hwsc, hwfree, hwreserved⟩ := State.sound_appendCluster (s := s) hsc hlt hfree hends
  have hwreserved : w.sc.reserved = s.sc.reserved - 1 := hwreserved
  obtain ⟨hkeeps, hend, hothers⟩ := State.keeps_appendCluster (s := s) hfree hupload hz.chain.mp hends
  have hkept (o : Owner) : OwnerKept o w ((w.writeByte a b).setSlot k (some ((u.withCluster c).withByte b))) :=
    fun _ _ => ⟨rfl, rfl⟩
  have honly : w.pdir = s.pdir ∧ w.ie = s.ie :=
    ⟨(s.touches_appendCluster _ _ _).pdir, (s.touches_appendCluster _ _ _).ie⟩
  refine ⟨hs.changeUpload (v := (u.withCluster c).withByte b) hu rfl rfl ?_ honly.1
    (StoreController.Sound.writeByte (s := w) hwsc a b) ?_ (fun o ho => (hothers o ho).trans (hkept o)) ?_
    (fun last hl => ?_) (hkeeps.kept (hkept _)), hwfree, by omega⟩
  · rw [State.setSlot_setSlot]
    exact congrArg (fun ie : IngestEngine => { ie with slots := ie.slots.set k (some ((u.withCluster c).withByte b)) }) honly.2
  · have hafter : w.sc.reserved + u.reserved = s.sc.reserved + (u.reserved - 1) := by omega
    exact hafter
  · exact ⟨hz.width_ge, hz.width_le, hz.height_ge, hz.height_le, hz.expected, hr,
      by simp only [UploadRecord.withByte, UploadRecord.withCluster]; omega,
      by simp only [UploadRecord.withByte, UploadRecord.withCluster]; omega,
      by simp only [UploadRecord.withByte, UploadRecord.withCluster]; omega,
      by simp [UploadRecord.withByte, UploadRecord.withCluster]⟩
  · obtain rfl : c = last := Option.some.inj hl
    exact hend.kept (hkept _)

end PutByte

/-- In a part that is shaped, with no more reserved than is FREE, a byte due is written. -/
theorem State.Shaped.putByte (hs : (s.setSlot k (some u)).Shaped) (hcovered : s.sc.reserved ≤ s.sc.freeCount)
    (hr : u.received < u.expected) (b : Byte) :
    ∃ t v, s.putByte u b = some (t, v) ∧ (t.setSlot k (some v)).Shaped ∧ t.sc.reserved ≤ t.sc.freeCount
      ∧ v.received = u.received + 1 ∧ v.expected = u.expected := by
  have hu : (s.setSlot k (some u)).slot k = some u := by rw [State.slot_setSlot, if_pos rfl]
  have hz := ((hs.handles u.handle).upload k u hu rfl).sized
  have htotal := hz.total
  by_cases heq : u.received = u.held * 65536
  · have hreserved : u.reserved ≤ s.sc.reserved := hs.reserved_le hu
    have hfree : s.nextFree ≠ none := State.nextFree_of_freeCount hs.sc (by omega)
    obtain ⟨c, hc⟩ := Option.ne_none_iff_exists'.mp hfree
    obtain ⟨hshaped, hfewer, hless⟩ := hs.putByte_next hr heq hc b (c * 65536 + u.received % 65536)
    refine ⟨_, _, State.putByte_next heq hc b, hshaped, ?_, rfl, rfl⟩
    change (s.appendCluster u.handle (u.chain.map Prod.snd) c).sc.reserved ≤ _
    exact Nat.le_of_add_le_add_right (hless.trans_le (hcovered.trans_eq hfewer.symm))
  · have hchain : u.chain ≠ none := fun hnone => by
      have := hz.chain.mp hnone
      have := hz.covered
      omega
    obtain ⟨ends, hends⟩ := Option.ne_none_iff_exists'.mp hchain
    exact ⟨_, _, State.putByte_within heq hends b, hs.putByte_within hr heq b _, hcovered, rfl, rfl⟩

/-- In a part that is shaped, with no more reserved than is FREE, the bytes due are written. -/
theorem State.Shaped.putBytes {bytes : Bytes} (hs : (s.setSlot k (some u)).Shaped) (hcovered : s.sc.reserved ≤ s.sc.freeCount)
    (hr : u.received + bytes.length ≤ u.expected) :
    ∃ t v, s.putBytes u bytes = some (t, v) ∧ (t.setSlot k (some v)).Shaped ∧ t.sc.reserved ≤ t.sc.freeCount := by
  induction bytes generalizing s u with
  | nil => exact ⟨s, u, rfl, hs, hcovered⟩
  | cons b rest ih =>
    rw [List.length_cons] at hr
    obtain ⟨w, x, hput, hshaped, hcov, hreceived, hexpected⟩ := hs.putByte hcovered (by omega) b
    obtain ⟨t, v, hputs, hrest⟩ := ih hshaped hcov (by omega)
    exact ⟨t, v, by rw [State.putBytes, hput]; exact hputs, hrest⟩

end Sys2Proof.Machine
end

section
/-! PROOFS. An upload opened, and the part cleared (R68, R74, R207). -/

set_option Elab.async false

namespace Sys2Proof.Machine

variable {s t : State} {k : Fin 4} {u v : UploadRecord}

/-! ### An upload opened (R56, R74) -/

/-- A granted claim is of an entry with no upload: FREE, or READY or DAMAGED without a replacement. -/
theorem State.claimRefused_none {h : Nat} {mode : UploadMode} (hc : s.claimRefused h mode = none)
    (hentry : EntrySound s h (s.entry h)) :
    (s.entry h).upload = none ∧ (s.entry h).replacement = none
      ∧ ((mode = .new ∧ (s.entry h).state = .free)
        ∨ (mode = .replace ∧ ((s.entry h).state = .ready ∨ (s.entry h).state = .damaged))) := by
  unfold State.claimRefused at hc
  cases mode with
  | new =>
    simp only [ite_eq_left_iff, reduceCtorEq, imp_false, not_not] at hc
    obtain ⟨-, hstate⟩ := hentry
    rw [hc] at hstate
    exact ⟨congrArg DirEntry.upload hstate, congrArg DirEntry.replacement hstate, .inl ⟨rfl, hc⟩⟩
  | replace =>
    simp only [ite_eq_left_iff, reduceCtorEq, imp_false, not_not, Option.isNone_iff_eq_none] at hc
    exact ⟨hc.2.2, hc.2.1, .inr ⟨rfl, hc.1⟩⟩

/-- An entry that has been claimed (R56). -/
def DirEntry.claimed (e : DirEntry) (k : Fin 4) (mode : UploadMode) : DirEntry :=
  { e with state := if mode = .new then .filling else e.state, upload := some (k, mode) }

theorem State.claim_eq (s : State) (h : Nat) (k : Fin 4) (mode : UploadMode) :
    s.claim h k mode = s.setEntry h ((s.entry h).claimed k mode) := by
  cases mode <;> simp [State.claim, DirEntry.claimed]

theorem sized_openedUpload {f : UploadForm} (hf : uploadFieldsOk f = true) : (openedUpload f).Sized := by
  simp only [uploadFieldsOk, Bool.and_eq_true, decide_eq_true_eq] at hf
  obtain ⟨⟨⟨⟨⟨-, -⟩, hw⟩, hw'⟩, hh⟩, hh'⟩ := hf
  exact ⟨hw, hw', hh, hh', rfl, Nat.zero_le _, Nat.zero_add _, Nat.zero_le _, by simp [openedUpload], by simp [openedUpload]⟩

/-- The entry of a granted claim is as an entry with an open upload should be (R53, R56). -/
theorem EntrySound.claimed {h : Nat} {mode : UploadMode} (hc : s.claimRefused h mode = none) (he : EntrySound s h (s.entry h))
    (hu : t.slot k = some u) (hh : u.handle = h) (hm : u.mode = mode) :
    EntrySound t h ((s.entry h).claimed k mode)
      ∧ (mode = .new ↔ ((s.entry h).claimed k mode).state = .filling) := by
  obtain ⟨-, hrepl, hmode⟩ := State.claimRefused_none hc he
  obtain ⟨-, hstate⟩ := he
  refine ⟨⟨fun j m hj => ?_, ?_⟩, ?_⟩
  · obtain ⟨rfl, rfl⟩ := Prod.mk.inj (Option.some.inj hj)
    exact ⟨u, hu, hh, hm⟩
  · rcases hmode with ⟨rfl, hst⟩ | ⟨rfl, hst⟩
    · rw [hst] at hstate
      rw [hstate]
      exact ⟨rfl, by simp [DirEntry.claimed]⟩
    · have hst' : ((s.entry h).claimed k .replace).state = (s.entry h).state := by simp [DirEntry.claimed]
      rw [hst']
      rcases hst with hst | hst <;> rw [hst] at hstate ⊢ <;> exact ⟨hstate.1, fun hr => absurd hrepl hr⟩
  · rcases hmode with ⟨rfl, hst⟩ | ⟨rfl, hst | hst⟩ <;> simp [DirEntry.claimed, hst]

/-- A granted claim and a new upload with no chain yet, in an IDLE slot. -/
theorem State.Shaped.opened (hs : s.Shaped) (hc : s.claimRefused u.handle u.mode = none) (hidle : s.slot k = none)
    (hsized : u.Sized) (hchain : u.chain = none) (hslot : ∀ j, t.slot j = if j = k then some u else s.slot j)
    (hpdir : t.pdir = (s.setEntry u.handle ((s.entry u.handle).claimed k u.mode)).pdir)
    (hsc : t.sc = { s.sc with reserved := s.sc.reserved + u.reserved }) (hopen : t.ie.openList = s.ie.openList ++ [k]) :
    t.Shaped := by
  have hh := hs.handles u.handle
  obtain ⟨hup, -, -⟩ := State.claimRefused_none hc hh.entry
  have hentries (g : Nat) : t.entry g = if g = u.handle then (s.entry u.handle).claimed k u.mode else s.entry g :=
    (State.entry_congr _ _ g hpdir).trans (State.entry_setEntry _ _ _ _)
  have he : t.entry u.handle = (s.entry u.handle).claimed k u.mode := (hentries _).trans (if_pos rfl)
  have hu : t.slot k = some u := (hslot k).trans (if_pos rfl)
  have hkept (o : Owner) : OwnerKept o s t := fun c _ => by simp [State.cluster, hsc]
  obtain ⟨hentry, hfilling⟩ := EntrySound.claimed (t := t) hc hh.entry hu rfl rfl
  refine hs.change u.handle (fun g hg => ⟨(hentries g).trans (if_neg hg), fun j w hw => ?_, fun _ => hkept _⟩)
    (hsc ▸ hs.sc.setReserved _) (hpdir ▸ Table.wf_set _ _ _ _ hs.pdir) ⟨fun j w hw hwh => ?_, he ▸ hentry, fun kind => ?_⟩ ?_
    ⟨?_, fun j => ?_⟩
  · rw [hslot]
    split
    · next hj =>
      subst hj
      exact ⟨fun h => absurd (hw.symm.trans (congrArg UploadRecord.handle (Option.some.inj h)).symm) hg,
        fun h => by rw [hidle] at h; cases h⟩
    · rfl
  · rw [hslot] at hw
    split at hw
    · next hj =>
      obtain rfl := Option.some.inj hw
      subst hj
      exact ⟨hsized, fun last hl => (by simp [hchain] at hl), congrArg DirEntry.upload he,
        hfilling.trans (by rw [he])⟩
    · have hclaim := (hh.upload j w hw hwh).claimed
      rw [hwh, hup] at hclaim
      cases hclaim
  · have hkeeps := hh.chains kind
    cases kind with
    | upload =>
      rw [State.holding, State.openOn, hup] at hkeeps
      rw [State.holding, State.openOn_some (congrArg DirEntry.upload he) hu]
      change t.Keeps _ u.chainHeld
      rw [UploadRecord.chainHeld, hchain]
      exact hkeeps.kept (hkept _)
    | current =>
      rw [State.holding, he]
      exact hkeeps.kept (hkept _)
    | pending =>
      rw [State.holding, he]
      exact hkeeps.kept (hkept _)
  · have hsum := sum_fours_congr (f := s.slotReserved) (g := t.slotReserved) (k := k) fun j hj => by
      simp [State.slotReserved, hslot, hj]
    have hnew : t.slotReserved k = u.reserved := by simp [State.slotReserved, hu]
    have hold : s.slotReserved k = 0 := by simp [State.slotReserved, hidle]
    have hres := hs.reserved
    have htotal : t.sc.reserved = s.sc.reserved + u.reserved := by rw [hsc]
    omega
  · rw [hopen]
    refine List.nodup_append'.mpr ⟨hs.openList.1, List.nodup_singleton k, List.disjoint_singleton.mpr fun hk => ?_⟩
    have := (hs.openList.2 k).mp hk
    rw [hidle] at this
    cases this
  · rw [hopen, hslot, List.mem_append, hs.openList.2 j, List.mem_singleton]
    by_cases hj : j = k <;> simp [hj]

/-- What a granted Begin Upload leaves of slots, entries and store (R74). -/
theorem State.openUpload_outcome (s : State) (k : Fin 4) (f : UploadForm) :
    let t := s.openUpload k f
    (∀ j, t.slot j = if j = k then some (openedUpload f) else s.slot j)
      ∧ t.pdir = (s.setEntry f.handle ((s.entry f.handle).claimed k (modeOf f.mode))).pdir
      ∧ t.sc = { s.sc with reserved := s.sc.reserved + clustersOf f.width f.height }
      ∧ t.ie.openList = s.ie.openList ++ [k] := by
  intro t
  have ht : t = { s with
      pdir := (s.setEntry f.handle ((s.entry f.handle).claimed k (modeOf f.mode))).pdir
      sc := { s.sc with reserved := s.sc.reserved + clustersOf f.width f.height }
      ie := { slots := s.ie.slots.set k (some (openedUpload f)), openList := s.ie.openList ++ [k] } } := by
    simp only [t, State.openUpload, State.claim_eq, State.reserve, State.setSlot, State.setEntry]
  rw [ht]
  exact ⟨fun j => Four.get_set _ _ _ _, rfl, rfl, rfl⟩

theorem State.Shaped.openUpload (hs : s.Shaped) {f : UploadForm} (hf : uploadFieldsOk f = true)
    (hc : s.claimRefused f.handle (modeOf f.mode) = none) (hidle : s.slot k = none) : (s.openUpload k f).Shaped := by
  obtain ⟨hslot, hpdir, hsc, hopen⟩ := s.openUpload_outcome k f
  exact hs.opened (u := openedUpload f) hc hidle (sized_openedUpload hf) rfl hslot hpdir hsc hopen

/-! ### The part cleared (R68, R207) -/

/-- With no cluster in a chain, no entry listed and no slot OPEN, the part is shaped. -/
theorem State.shaped_empty (hsc : t.sc.Sound) (hreserved : t.sc.reserved = 0) (hpdir : t.pdir = []) (hidle : ∀ k, t.slot k = none)
    (hopen : t.ie.openList = []) (hclusters : ∀ c, (t.cluster c).owner? = none) : t.Shaped := by
  have hentry (h : Nat) : t.entry h = freeEntry 0 := by simp [State.entry, hpdir]
  refine ⟨hsc, by rw [hpdir]; rfl, fun h => ⟨fun k u hu => (by rw [hidle] at hu; cases hu), ?_, fun kind => ?_⟩,
    ?_, ?_, fun k => ?_⟩
  · rw [hentry]
    exact ⟨fun k mode hk => (by cases hk), rfl⟩
  · have hheld : t.holding ⟨h, kind⟩ = none := by cases kind <;> simp [State.holding, State.openOn, hentry, freeEntry]
    rw [hheld]
    exact State.keeps_none.mpr fun c => by simp [hclusters]
  · rw [hreserved, List.sum_eq_zero]
    simp [State.slotReserved, hidle]
  · simp [hopen]
  · simp [hopen, hidle]

theorem shaped_powerOn (phase : Phase) (clock : Nat) (pending : List Instr) : (powerOn phase clock pending).Shaped :=
  State.shaped_empty ⟨rfl, by simp [powerOn], by simp [powerOn], by simp [powerOn, Config.clusters], rfl, by simp [powerOn]⟩
    rfl rfl (fun k => by fin_cases k <;> rfl) rfl
    fun _ => rfl

theorem State.owner?_clearStore (hs : s.sc.Sound) (c : Nat) : (s.clearStore.cluster c).owner? = none := by
  by_cases hc : s.clearStore.cluster c = .free
  · rw [hc]
    rfl
  · have hmem : (c, s.clearStore.cluster c) ∈ s.clearStore.sc.map := (Table.mem_iff (State.wf_clearStore hs.map)).mpr ⟨hc, rfl⟩
    obtain ⟨hretired, -⟩ := State.mem_clearStore hmem
    rw [show s.clearStore.cluster c = .retired from hretired]
    rfl

theorem State.sound_clearStore (hs : s.sc.Sound) : s.clearStore.sc.Sound where
  map := State.wf_clearStore hs.map
  clusters e he := by
    obtain ⟨-, x, hx, hxe⟩ := State.mem_clearStore he
    exact hxe ▸ hs.clusters x hx
  words := hs.words
  free := by
    have hle : s.clearStore.sc.map.length ≤ s.sc.map.length := List.length_filterMap_le _ _
    have := hs.free
    change 131072 - s.clearStore.sc.map.length + s.clearStore.sc.map.length = 131072
    omega
  retired := by
    have hall : s.clearStore.sc.map.filter (fun e => decide (e.2 = ClusterEntry.retired)) = s.clearStore.sc.map :=
      List.filter_eq_self.mpr fun e he => decide_eq_true (State.mem_clearStore he).1
    rw [hall]
    rfl
  cursor := by simp [State.clearStore]

/-- Freeing what an upload holds keeps the counts, whatever the upload. -/
theorem State.sound_cleanUp (hs : s.sc.Sound) (k : Fin 4) (u : UploadRecord) : (s.cleanUp k u).sc.Sound := by
  rw [State.cleanUp_sc]
  exact ((s.keepsCounts_freeUpload u).sound hs).setReserved _

/-- Every OPEN slot abandoned leaves none OPEN. -/
theorem State.slot_cleanUps {l : List (Fin 4 × UploadRecord)} (j : Fin 4) :
    (l.foldl (fun s ku => s.cleanUp ku.1 ku.2) s).slot j = if j ∈ l.map Prod.fst then none else s.slot j := by
  induction l generalizing s with
  | nil => simp
  | cons ku rest ih =>
    rw [List.foldl_cons, ih, State.slot_cleanUp, List.map_cons]
    by_cases hj : j = ku.1 <;> simp only [hj, List.mem_cons, true_or, false_or, if_true, if_false, ite_self]

theorem State.openList_cleanUps {l : List (Fin 4 × UploadRecord)} :
    (l.foldl (fun s ku => s.cleanUp ku.1 ku.2) s).ie.openList
      = s.ie.openList.filter (fun j => decide (j ∉ l.map Prod.fst)) := by
  induction l generalizing s with
  | nil => simp
  | cons ku rest ih =>
    rw [List.foldl_cons, ih, State.openList_cleanUp, List.filter_filter]
    refine List.filter_congr fun j _ => ?_
    rw [List.map_cons, ← Bool.decide_and]
    simp only [List.mem_cons, not_or, and_comm, ne_eq]

/-- The open uploads are those of the open list. -/
theorem State.keys_openUploads (hs : s.openListSound) : s.openUploads.map Prod.fst = s.ie.openList := by
  obtain ⟨-, hmem⟩ := hs
  rw [State.openUploads, List.map_filterMap]
  refine (List.filterMap_congr fun k hk => ?_).trans List.filterMap_some
  obtain ⟨u, hu⟩ := Option.isSome_iff_exists.mp ((hmem k).mp hk)
  simp [hu]

theorem State.Shaped.cleanUps {l : List (Fin 4 × UploadRecord)} (hs : s.Shaped) (hnd : (l.map Prod.fst).Nodup)
    (hslots : ∀ ku ∈ l, s.slot ku.1 = some ku.2) : (l.foldl (fun s ku => s.cleanUp ku.1 ku.2) s).Shaped := by
  induction l generalizing s with
  | nil => exact hs
  | cons ku rest ih =>
    obtain ⟨hnot, hrest⟩ := List.nodup_cons.mp hnd
    refine ih (hs.cleanUp (hslots ku List.mem_cons_self)) hrest fun x hx => ?_
    rw [State.slot_cleanUp, if_neg fun he => hnot (List.mem_map.mpr ⟨x, hx, he⟩)]
    exact hslots x (List.mem_cons_of_mem _ hx)

theorem State.Shaped.abandonUploads (hs : s.Shaped) : s.abandonUploads.Shaped :=
  hs.cleanUps (State.keys_openUploads hs.openList ▸ hs.openList.1) fun _ hku => (State.mem_openUploads.mp hku).2

/-- A channel's reset touches neither store nor uploads, if the return of a plan does not (R68). -/
theorem State.touches_resetChannel_outside (s : State) (k : Fin 4) (cause : CancelCause) (giveBack : State → Snapshot → State)
    (hg : ∀ s p, Touches [.ru, .pdir, .gs] s (giveBack s p)) :
    Touches [.ru, .pdir, .gs, .pln, .pch, .ce] s (s.resetChannel k cause giveBack) :=
  (s.touches_clearChannel k cause).mono.trans (Touches.foldl (fun s p => (hg s p).mono) _ _)

/-- With every slot closed, the store cleared and the directory emptied, the part is shaped. -/
theorem State.shaped_cleared (hs : s.sc.Sound) (hopen : s.openListSound) (hpdir : t.pdir = [])
    (hsc : t.sc = (s.openUploads.foldl (fun s ku => s.cleanUp ku.1 ku.2) s).clearStore.sc)
    (hie : t.ie = (s.openUploads.foldl (fun s ku => s.cleanUp ku.1 ku.2) s).ie) : t.Shaped := by
  have hkeys := State.keys_openUploads hopen
  have hfreed : (s.openUploads.foldl (fun s ku => s.cleanUp ku.1 ku.2) s).sc.Sound :=
    List.foldlRecOn (motive := fun v : State => v.sc.Sound) _ _ hs fun _ hv ku _ => State.sound_cleanUp hv ku.1 ku.2
  refine State.shaped_empty (hsc ▸ State.sound_clearStore hfreed) (by rw [hsc]; rfl) hpdir (fun k => ?_) ?_ fun c => ?_
  · rw [State.slot_congr _ _ k hie, State.slot_cleanUps, hkeys]
    split
    · rfl
    · next hk => simpa [hopen.2 k] using hk
  · rw [hie, State.openList_cleanUps, hkeys]
    simp
  · rw [State.cluster, hsc]
    exact State.owner?_clearStore hfreed c

theorem State.clearStore_reserved (s : State) : s.clearStore.sc.reserved = 0 := rfl

theorem State.shaped_emptied (hs : s.sc.Sound) (hopen : s.openListSound) (ru : RosterUnit) :
    ({ (s.openUploads.foldl (fun s ku => s.cleanUp ku.1 ku.2) s).clearStore with pdir := [], ru := ru, layouts := [] } :
      State).Shaped := State.shaped_cleared hs hopen rfl rfl rfl

/-- Hall Clear empties the store, the slots and the directory, whatever they held (R205). -/
theorem State.shaped_hallClear (hs : s.sc.Sound) (hopen : s.openListSound) :
    s.hallClear.Shaped ∧ s.hallClear.sc.reserved = 0 := by
  have hreset : Touches [.ru, .pdir, .gs, .pln, .pch, .ce] s
      (fours.foldl (fun s k => s.resetChannel k .hallClear State.returnPlanQuietly) s) :=
    Touches.foldl (fun s k => s.touches_resetChannel_outside k .hallClear _ State.touches_returnPlanQuietly) fours s
  unfold State.hallClear
  generalize fours.foldl (fun s k => s.resetChannel k .hallClear State.returnPlanQuietly) s = reset at hreset ⊢
  have hempty := State.shaped_emptied (hreset.sc ▸ hs) (State.openListSound_congr hreset.ie hopen)
    { classes := [], poolFree := Config.poolRecords }
  have hsent := Touches.foldl (fun s (ku : Fin 4 × UploadRecord) => s.touches_uploadResult ku.1 ku.2 .cancelled 0)
    reset.openUploads { (reset.openUploads.foldl (fun s ku => s.cleanUp ku.1 ku.2) reset).clearStore with
      pdir := [], ru := { classes := [], poolFree := Config.poolRecords }, layouts := [] }
  exact ⟨hempty.congr hsent.sc hsent.pdir hsent.ie,
    (congrArg StoreController.reserved hsent.sc).trans (State.clearStore_reserved _)⟩

end Sys2Proof.Machine
end

section
/-! PROOFS. Store, uploads and directory stay as the spec has them at every step (O55): each rule keeps the shape and leaves no more
reserved than is FREE. -/

set_option Elab.async false

namespace Sys2Proof.Machine

variable {s t : State} {k : Fin 4} {u v : UploadRecord}

/-! ### Room for what is reserved (R46, R47) -/

/-- No more is reserved and no less is FREE. -/
structure NoTighter (s t : State) : Prop where
  reserved : t.sc.reserved ≤ s.sc.reserved
  free : s.sc.freeCount ≤ t.sc.freeCount

theorem NoTighter.trans {u : State} (h : NoTighter s t) (h2 : NoTighter t u) : NoTighter s u :=
  ⟨h2.reserved.trans h.reserved, h.free.trans h2.free⟩

theorem NoTighter.of_sc (h : t.sc = s.sc) : NoTighter s t := ⟨by rw [h], by rw [h]⟩

theorem KeepsCounts.noTighter (h : KeepsCounts s t) : NoTighter s t := ⟨h.reserved.le, h.free⟩

/-- Store, uploads and directory have the shape of the spec, with no more reserved than is FREE. -/
def State.Provided (s : State) : Prop := s.Shaped ∧ s.sc.reserved ≤ s.sc.freeCount

theorem State.Provided.of_noTighter (hs : s.Provided) (ht : t.Shaped) (h : NoTighter s t) : t.Provided :=
  ⟨ht, h.reserved.trans (hs.2.trans h.free)⟩

theorem State.noTighter_cleanUp (s : State) (k : Fin 4) (u : UploadRecord) : NoTighter s (s.cleanUp k u) := by
  constructor <;> rw [State.cleanUp_sc]
  · exact Nat.sub_le _ _
  · exact (s.keepsCounts_freeUpload u).free

theorem State.noTighter_failUpload (s : State) (k : Fin 4) (u : UploadRecord) (o : UploadOutcome) :
    NoTighter s (s.failUpload k u o) :=
  (s.noTighter_cleanUp k u).trans (NoTighter.of_sc (State.touches_uploadResult _ _ _ _ _).sc)

theorem State.noTighter_makeReady (s : State) (h : Nat) (e : DirEntry) (image : ImageRecord) :
    NoTighter s (s.makeReady h e image) := NoTighter.of_sc (s.touches_makeReady _ _ _).sc

theorem State.noTighter_relabelChain (s : State) (first : Nat) (kind : ChainKind) : NoTighter s (s.relabelChain first kind) :=
  (s.keepsCounts_relabelChain _ _).noTighter

theorem State.noTighter_freeImage (s : State) (image : Option ImageRecord) : NoTighter s (s.freeImage image) :=
  (s.keepsCounts_freeImage _).noTighter

theorem State.noTighter_handOver (s : State) (k : Fin 4) (u : UploadRecord) : NoTighter s (s.handOver k u) := by
  have hclosed : NoTighter s (s.closeSlot k) := NoTighter.of_sc (s.closeSlot_sc k)
  have hresult (v : State) (o : UploadOutcome) (n : Nat) : NoTighter v (v.uploadResult k u o n) :=
    NoTighter.of_sc (v.touches_uploadResult _ _ _ _).sc
  unfold State.handOver
  extract_lets e image closed
  split
  · exact ((hclosed.trans (State.noTighter_relabelChain _ _ _)).trans (State.noTighter_makeReady _ _ _ _)).trans (hresult _ _ _)
  · split
    · exact (((hclosed.trans (State.noTighter_relabelChain _ _ _)).trans (State.noTighter_freeImage _ _)).trans
        (State.noTighter_makeReady _ _ _ _)).trans (hresult _ _ _)
    · exact ((hclosed.trans (State.noTighter_relabelChain _ _ _)).trans (NoTighter.of_sc (State.setEntry_sc _ _ _))).trans
        (hresult _ _ _)

theorem State.noTighter_unpin (s : State) (h : Nat) : NoTighter s (s.unpin h) := by
  have hset (e : DirEntry) : NoTighter s (s.setEntry h e) := NoTighter.of_sc (s.setEntry_sc h e)
  cases hr : (s.entry h).replacement with
  | none =>
    rw [State.unpin_keeps (.inr hr)]
    exact hset _
  | some new =>
    by_cases hn : (s.entry h).pins - 1 = 0
    · rw [State.unpin_swaps hn hr]
      exact ((((hset _).trans (State.noTighter_freeImage _ _)).trans (State.noTighter_relabelChain _ _ _)).trans
        (State.noTighter_makeReady _ _ _ _)).trans (NoTighter.of_sc (State.touches_notice _ _ _ _).sc)
    · rw [State.unpin_keeps (.inl hn)]
      exact hset _

theorem State.noTighter_deleteEntry (s : State) (h : Nat) (e : DirEntry) : NoTighter s (s.deleteEntry h e) := by
  cases ho : s.openOn e with
  | none =>
    rw [State.deleteEntry_idle ho]
    exact (s.noTighter_freeImage _).trans (NoTighter.of_sc (State.setEntry_sc _ _ _))
  | some ku =>
    rw [State.deleteEntry_open ho]
    exact (((s.noTighter_cleanUp _ _).trans (State.noTighter_freeImage _ _)).trans
      (NoTighter.of_sc (State.setEntry_sc _ _ _))).trans (NoTighter.of_sc (State.touches_uploadResult _ _ _ _ _).sc)

theorem State.noTighter_markCluster (s : State) (c : Nat) : NoTighter s (s.markCluster c) :=
  (s.keepsCounts_markCluster c).noTighter

theorem State.noTighter_currentFault (s : State) (h c : Nat) : NoTighter s (s.currentFault h c) := by
  unfold State.currentFault
  split
  · exact NoTighter.of_sc rfl
  · extract_lets marked e damaged flagged payload
    have hdamaged : NoTighter marked damaged := by
      simp only [damaged]
      split
      · exact NoTighter.of_sc (marked.setEntry_sc h _)
      · exact NoTighter.of_sc rfl
    exact (((s.noTighter_markCluster c).trans hdamaged).trans (NoTighter.of_sc (damaged.touches_flagPages h).sc)).trans
      (NoTighter.of_sc (by simp [State.notice_eq, flagged]))

theorem State.noTighter_pendingFault (s : State) (h c : Nat) : NoTighter s (s.pendingFault h c) := by
  unfold State.pendingFault
  extract_lets marked e
  split
  · exact s.noTighter_markCluster c
  · exact (((s.noTighter_markCluster c).trans (NoTighter.of_sc (marked.setEntry_sc h _))).trans
      (State.keepsCounts_freeChain _ _).noTighter).trans (NoTighter.of_sc (State.touches_notice _ _ _ _).sc)

theorem State.noTighter_uploadFault (s : State) (h c : Nat) : NoTighter s (s.uploadFault h c) := by
  unfold State.uploadFault
  extract_lets marked
  split
  · exact (s.noTighter_markCluster c).trans (State.noTighter_failUpload _ _ _ _)
  · exact s.noTighter_markCluster c

/-! ### The rules -/

theorem State.Provided.congr (hs : s.Provided) (hsc : t.sc = s.sc) (hpdir : t.pdir = s.pdir) (hie : t.ie = s.ie) : t.Provided :=
  hs.of_noTighter (hs.1.congr hsc hpdir hie) (NoTighter.of_sc hsc)

theorem State.Provided.takeFault (hs : s.Provided) (kind : FaultKind) {c : Nat} (hc : c < 131072) (offset : Nat)
    (syndrome : BitVec 8) (channel : Option (Fin 4)) : (s.takeFault kind c offset syndrome channel).Provided := by
  unfold State.takeFault
  simp only
  refine State.Provided.congr ?_ (State.touches_offerLog _ _).sc (State.touches_offerLog _ _).pdir (State.touches_offerLog _ _).ie
  split
  · exact hs.of_noTighter (hs.1.currentFault _ _) (s.noTighter_currentFault _ _)
  · exact hs.of_noTighter (hs.1.pendingFault _ _) (s.noTighter_pendingFault _ _)
  · exact hs.of_noTighter (hs.1.uploadFault _ _) (s.noTighter_uploadFault _ _)
  · split
    · next hfree =>
      have hretired := hs.1.retireFree hc hfree
      exact hretired.coverReservations hretired.openList_length
    · exact hs

/-- A word of the store takes another content or other wrong bits. -/
theorem State.Provided.setWord (hs : s.Provided) (store : List Host.Cell) {w : Nat} {wrong : BitVec 72}
    (hw : w < 131072 * 8192 ∨ wrong = 0#72) :
    State.Provided { s with sc := { s.sc with store := store, errors := Table.set 0#72 s.sc.errors w wrong } } :=
  hs.of_noTighter (hs.1.changeClusters rfl rfl (hs.1.sc.setWord store hw) rfl fun _ _ _ => ⟨rfl, rfl⟩) ⟨le_rfl, le_rfl⟩

theorem State.Provided.upset (hs : s.Provided) (x : Upset) : (s.upset x).Provided := by
  unfold State.upset
  extract_lets before after
  split
  · next hx => exact hs.setWord _ (.inl hx.1)
  · exact hs

theorem State.Provided.openUpload (hs : s.Provided) {f : UploadForm} (hf : uploadFieldsOk f = true)
    (hc : s.claimRefused f.handle (modeOf f.mode) = none) (hidle : s.slot k = none)
    (hcan : s.canReserve (clustersOf f.width f.height) = true) : (s.openUpload k f).Provided := by
  refine ⟨hs.1.openUpload hf hc hidle, ?_⟩
  obtain ⟨-, -, hsc, -⟩ := s.openUpload_outcome k f
  rw [hsc]
  exact of_decide_eq_true hcan

/-- The bytes of a chunk, all of them due, and the idle timer started again. -/
theorem State.Provided.putBytes (hs : s.Provided) {bytes : Bytes} (hu : s.slot k = some u)
    (hr : u.received + bytes.length ≤ u.expected) (h : s.putBytes u bytes = some (t, v)) (ms : Nat) :
    (t.setSlot k (some { v with timer := ms })).Provided := by
  have hsame : s.setSlot k (some u) = s := by rw [← hu, State.setSlot_slot]
  obtain ⟨t', v', hput, hshaped, hcovered⟩ := State.Shaped.putBytes (hsame.symm ▸ hs.1) hs.2 hr
  obtain ⟨rfl, rfl⟩ := Prod.mk.inj (Option.some.inj (hput.symm.trans h))
  have htimer := hshaped.setTimer (by rw [State.slot_setSlot, if_pos rfl]) ms
  rw [State.setSlot_setSlot] at htimer
  exact ⟨htimer, hcovered⟩

theorem State.Provided.hallClear (hs : s.Provided) : s.hallClear.Provided := by
  obtain ⟨hshaped, hzero⟩ := State.shaped_hallClear hs.1.sc hs.1.openList
  exact ⟨hshaped, hzero.trans_le (Nat.zero_le _)⟩

theorem hallRules_provided : HallRules State.Provided where
  elsewhere _ _ hsc hpdir hie _ hs := hs.congr hsc hpdir hie
  setLayout _ _ hs := hs.congr rfl rfl rfl
  setClass _ _ hs := hs.congr rfl rfl rfl
  setPool _ hs := hs.congr rfl rfl rfl
  setGlyph _ _ hs := hs.congr rfl rfl rfl
  setGlyphState _ _ hs := hs.congr rfl rfl rfl

theorem storeRules_provided : StoreRules State.Provided where
  toHallRules := hallRules_provided
  powerOn _ _ _ := ⟨shaped_powerOn _ _ _, Nat.zero_le _⟩
  initialised {s} hs := hs.of_noTighter (hs.1.changeClusters rfl rfl
    ⟨hs.1.sc.map, hs.1.sc.clusters, fun _ he => (by cases he), hs.1.sc.free, hs.1.sc.retired, hs.1.sc.cursor⟩ rfl
    fun _ _ _ => ⟨rfl, rfl⟩) ⟨le_rfl, le_rfl⟩
  pin h hst hs := hs.of_noTighter (hs.1.pin hst) (NoTighter.of_sc rfl)
  unpin h hs := hs.of_noTighter hs.1.unpin (State.noTighter_unpin _ _)
  openUpload k f hf hc hidle hcan hs := hs.openUpload hf hc hidle hcan
  putBytes k bytes ms hu hr h hs := hs.putBytes hu hr h ms
  handOver k hu hdone hs := hs.of_noTighter (hs.1.handOver hu hdone) (State.noTighter_handOver _ _ _)
  failUpload k o hu hs := hs.of_noTighter (hs.1.failUpload hu o) (State.noTighter_failUpload _ _ _ _)
  abandonUploads {s} hs := hs.of_noTighter hs.1.abandonUploads
    (List.foldlRecOn (motive := NoTighter s) _ _ (NoTighter.of_sc rfl) fun _ hv _ _ => hv.trans (State.noTighter_cleanUp _ _ _))
  deleteEntry h hst hp hs := hs.of_noTighter (hs.1.deleteEntry hst hp) (State.noTighter_deleteEntry _ _ _)
  takeFault kind w offset syndrome channel hw hs :=
    hs.takeFault kind (Nat.div_lt_of_lt_mul (by rw [Nat.mul_comm]; exact hs.1.sc.word_lt hw)) offset syndrome channel
  writeBack w bit hs := hs.setWord _ (.inr rfl)
  hallClear hs := hs.hallClear
  upset x hs := hs.upset x
  tickTimers hs := hs.of_noTighter hs.1.tickTimers (NoTighter.of_sc rfl)

end Sys2Proof.Machine
end

section
/-! PROOFS. Which commands can stop the part (O55): none but Put Pixels, and that one only when a cluster is due and none is
FREE (R50, R76; log 16). -/

set_option Elab.async false

namespace Sys2Proof.Machine

variable {s t : State} {u v : UploadRecord}

/-! ### Every other command answers -/

/-- A result is a next state. -/
def Answers (r : Result) : Prop := ∃ t, r = .next t

theorem Answers.next (t : State) : Answers (.next t) := ⟨t, rfl⟩

theorem Answers.ite {c : Prop} [Decidable c] {r r' : Result} (h : Answers r) (h' : Answers r') :
    Answers (if c then r else r') := by
  split
  · exact h
  · exact h'

/-- An order is answered before it reaches its block, or by its block, which sees it with its length checked. -/
theorem takeOrder_cases (o : Order) (p : Port) (tag : Byte) (payload : Bytes) (s : State) (block : State → Result) :
    Answers (takeOrder o p tag payload s block)
      ∨ lengthOk o payload = true ∧ takeOrder o p tag payload s block = block (s.arrival p) := by
  unfold takeOrder
  split
  · exact .inl (.next _)
  · exact .inl (.next _)
  · exact .inl (.next _)
  · next hover =>
    refine .inr ⟨?_, rfl⟩
    by_contra hlen
    unfold admission at hover
    split_ifs at hover

theorem takeOrder_answers {o : Order} {p : Port} {tag : Byte} {payload : Bytes} {block : State → Result}
    (h : ∀ u, Answers (block u)) : Answers (takeOrder o p tag payload s block) := by
  rcases takeOrder_cases o p tag payload s block with ha | ⟨-, he⟩
  · exact ha
  · exact he ▸ h _

theorem takePressOrder_answers {o : Order} {p : Port} {tag : Byte} {payload : Bytes} {act : State → Sender → Fin 4 → State} :
    Answers (takePressOrder o p tag payload s act) :=
  takeOrder_answers fun _ => by
    split
    · exact .next _
    · exact .next _

/-- Every command but Put Pixels answers a next state. -/
theorem exec_answers (c : Instr) (s : State) (hc : ∀ port tag p, c ≠ .putPixels port tag p) : Answers (exec c s) := by
  cases c with
  | porstAsserted | porstReleased => exact .next _
  | storeInitialisationEnd | linkUp | idleFill | silenceTimerExpiry | lineLoss | frameDeparture => exact .ite (.next _) (.next _)
  | frameDropped => exact .ite (.next _) (.ite (.next _) (.next _))
  | unknownOrder => exact .ite (.next _) (.ite (.next _) (.ite (.next _) (.next _)))
  | defineLayout | deleteLayout | queryLayout | openClass | addSubject | updateSubject | removeSubject | setTitle | rebindClass
  | withdrawRebind | freezeClass | deleteClass | queryClass | beginUpload | endUpload | cancelUpload | deletePortrait
  | queryPortrait | queryStore | openGlyphWindow | closeGlyphWindow | loadGlyph | queryGlyph | clearErrorLog
  | queryLink => exact takeOrder_answers fun _ => .next _
  | hallClear =>
    simp only [Machine.exec, execHallClear]
    exact takeOrder_answers fun _ => .next _
  | start | queryChannel =>
    simp only [Machine.exec, execStart, execQueryChannel]
    refine takeOrder_answers fun _ => ?_
    split <;> exact .next _
  | configureChannel | enableChannel | disableChannel | queuePage | cancelPage | sheetReady | grantBands | abortPage
  | channelReset =>
    simp only [Machine.exec, execConfigureChannel, execEnableChannel, execDisableChannel, execQueuePage, execCancelPage,
      execSheetReady, execGrantBands, execAbortPage, execChannelReset]
    exact takePressOrder_answers
  | putPixels port tag p => exact absurd rfl (hc port tag p)
  | idleTimerExpiry =>
    simp only [Machine.exec, execIdleTimerExpiry]
    split
    · exact .ite (.next _) (.next _)
    · exact .next _
  | bandEnd =>
    simp only [Machine.exec, execBandEnd]
    split
    · exact .ite (.next _) (.next _)
    · exact .next _
  | planningStartStep | planningCompletion | engineGrant | rowData =>
    simp only [Machine.exec, execPlanningStartStep, execPlanningCompletion, execEngineGrant, execRowData]
    split <;> exact .next _
  | stallTimerExpiry | scrubTimerExpiry => exact .ite (.next _) (.next _)

/-! ### Put Pixels (R50, R76) -/

/-- Bytes that fit into the clusters held are written. -/
theorem State.putBytes_fits {bytes : Bytes} (hchain : u.chain ≠ none) (hfit : u.received + bytes.length ≤ u.held * 65536) :
    s.putBytes u bytes ≠ none := by
  induction bytes generalizing s u with
  | nil => simp [State.putBytes]
  | cons b rest ih =>
    rw [List.length_cons] at hfit
    obtain ⟨ends, hends⟩ := Option.ne_none_iff_exists'.mp hchain
    rw [State.putBytes, State.putByte_within (by omega) hends]
    exact ih (u := u.withByte b) hchain (by simp only [UploadRecord.withByte]; omega)

/-- A chunk that cannot be written reaches past the clusters held, with none FREE; a chunk needs one new cluster at most. -/
theorem State.putBytes_eq_none {bytes : Bytes} (hcovered : u.received ≤ u.held * 65536) (hchain : u.chain = none ↔ u.held = 0)
    (hlen : bytes.length ≤ 65536) (h : s.putBytes u bytes = none) :
    u.held * 65536 < u.received + bytes.length ∧ s.nextFree = none := by
  induction bytes generalizing s u with
  | nil => simp [State.putBytes] at h
  | cons b rest ih =>
    rw [List.length_cons] at hlen ⊢
    by_cases heq : u.received = u.held * 65536
    · refine ⟨by omega, by_contra fun hfree => ?_⟩
      obtain ⟨c, hc⟩ := Option.ne_none_iff_exists'.mp hfree
      rw [State.putBytes, State.putByte_next heq hc] at h
      exact State.putBytes_fits (by simp [UploadRecord.withByte, UploadRecord.withCluster])
        (by simp only [UploadRecord.withByte, UploadRecord.withCluster]; omega) h
    · have hsome : u.chain ≠ none := fun hnone => by
        have := hchain.mp hnone
        omega
      obtain ⟨ends, hends⟩ := Option.ne_none_iff_exists'.mp hsome
      rw [State.putBytes, State.putByte_within heq hends] at h
      obtain ⟨hpast, hnone⟩ := ih (u := u.withByte b) (by simp only [UploadRecord.withByte]; omega) hchain (by omega) h
      exact ⟨by simp only [UploadRecord.withByte] at hpast; omega, hnone⟩

/-- A Put Pixels answers, or it stops with a chunk that is due and cannot be written. -/
theorem State.putPixels_cases (s : State) (from_ : Sender) (f : PixelsForm) (hlen : f.bytes.length = f.count) :
    Answers (s.putPixels from_ f)
      ∨ s.putPixels from_ f = .fault .noClusterForUpload ∧ ∃ k u, k.val = f.slot ∧ s.slot k = some u ∧ u.handle = f.handle
        ∧ u.received + f.count ≤ u.expected
        ∧ (u.received ≤ u.held * 65536 → (u.chain = none ↔ u.held = 0) →
            u.held * 65536 < u.received + f.count ∧ s.nextFree = none) := by
  unfold State.putPixels
  split
  · exact .inl (.next _)
  · next hfields =>
    split
    · exact .inl (.next _)
    · next k u hopen =>
      obtain ⟨hk, hu, hh⟩ := State.openFor_eq_some hopen
      split
      · exact .inl (.next _)
      · next hoffset =>
        split
        · exact .inl (.next _)
        · next hover =>
          split
          · next hnone =>
            refine .inr ⟨rfl, k, u, hk, hu, hh, by omega, fun hcovered hchain => ?_⟩
            have hfree : (s.ok from_ (bytes4 (u.received + f.count))).nextFree = s.nextFree := by
              simp [State.nextFree, (s.touches_ok _ _).sc]
            obtain ⟨hpast, hnone⟩ := State.putBytes_eq_none hcovered hchain (by omega) hnone
            exact ⟨hlen ▸ hpast, hfree ▸ hnone⟩
          · exact .inl (.next _)

/-- A Put Pixels that stops the part: its upload, the chunk due, and the reason. -/
theorem exec_putPixels_cases (port : Port) (tag : Byte) (p : Bytes) (s : State) :
    Answers (exec (.putPixels port tag p) s)
      ∨ exec (.putPixels port tag p) s = .fault .noClusterForUpload ∧ ∃ k u, k.val = byteAt p 0 ∧ s.slot k = some u
        ∧ u.handle = word16At p 1 ∧ u.received + word16At p 7 ≤ u.expected
        ∧ (u.received ≤ u.held * 65536 → (u.chain = none ↔ u.held = 0) →
            u.held * 65536 < u.received + word16At p 7 ∧ s.nextFree = none) := by
  rcases takeOrder_cases .putPixels port tag p s
    (fun s => s.putPixels ⟨port, tag, Order.code .putPixels⟩ (readPixels p)) with ha | ⟨hlen, he⟩
  · exact .inl ha
  · have hbytes : (readPixels p).bytes.length = (readPixels p).count := by
      simp only [lengthOk, Bool.and_eq_true, decide_eq_true_eq] at hlen
      simp [readPixels, hlen.2]
    have hexec : exec (.putPixels port tag p) s
        = (s.arrival port).putPixels ⟨port, tag, Order.code .putPixels⟩ (readPixels p) := he
    rw [hexec]
    refine (State.putPixels_cases _ _ _ hbytes).imp_right fun ⟨hfault, k, u, hk, hu, hh, hr, hwhy⟩ =>
      ⟨hfault, k, u, hk, by simpa using hu, hh, hr, fun hcovered hchain => ?_⟩
    obtain ⟨hpast, hnone⟩ := hwhy hcovered hchain
    exact ⟨hpast, by simpa [State.nextFree] using hnone⟩

/-- With store, uploads and directory sound a chunk due can be written: the cluster it needs is reserved, so it is FREE. -/
theorem State.storeSound.exec_answers (hs : s.storeSound) (c : Instr) : Answers (exec c s) := by
  by_cases hc : ∃ port tag p, c = .putPixels port tag p
  · obtain ⟨port, tag, p, rfl⟩ := hc
    refine (exec_putPixels_cases port tag p s).resolve_right fun ⟨_, k, u, _, hu, _, hr, hwhy⟩ => ?_
    obtain ⟨hmap, -, hclusters, hwords, hfree, hretired, hreserved, hcovered, hcursor, huploads, -⟩ := hs
    obtain ⟨-, -, -, -, -, -, htotal, hheld, -, hchain, -⟩ := huploads k u hu
    obtain ⟨hpast, hnone⟩ := hwhy hheld hchain
    have hle : s.slotReserved k ≤ s.sc.reserved := by
      rw [hreserved]
      exact List.single_le_sum (fun _ _ => Nat.zero_le _) _ (List.mem_map_of_mem (mem_fours k))
    have hk : s.slotReserved k = u.reserved := by simp [State.slotReserved, hu]
    exact State.nextFree_of_freeCount ⟨hmap, hclusters, hwords, hfree, hretired, hcursor⟩ (by omega) hnone
  · exact Machine.exec_answers c s fun port tag p h => hc ⟨port, tag, p, h⟩

/-- Settles O55: the rules of the store, kept one by one, and the cases of a Put Pixels. -/
theorem commandsNeverStop : Obligations.CommandsNeverStop := by
  refine ⟨fun c s => ?_, fun c s hs => hs.exec_answers c, fun s t hs hopen hstep => ?_, ?_⟩
  · by_cases hc : ∃ port tag p, c = .putPixels port tag p
    · obtain ⟨port, tag, p, rfl⟩ := hc
      exact (exec_putPixels_cases port tag p s).imp_right fun ⟨hfault, k, u, hk, hu, hh, _, hwhy⟩ =>
        ⟨hfault, port, tag, p, k, u, rfl, hk, hu, hh, fun hcovered _ hchain => hwhy hcovered hchain⟩
    · exact .inl (exec_answers c s fun port tag p h => hc ⟨port, tag, p, h⟩)
  · exact (State.shaped_iff.mp (storeRules_provided.step (State.shaped_iff.mpr ⟨hs, hopen⟩) hstep)).1
  · exact (State.shaped_iff.mp (storeRules_provided.powerOn .initialising 0 [])).1

end Sys2Proof.Machine
end

section
/-! PROOFS. The report of an entry that enters READY (R12, R30, R31): which classes switch, what of the layouts' binding counts is
released, and the Rebind Done notices in their order. -/

set_option Elab.async false

namespace Sys2Proof.Machine

variable {s t u : State}

/-! ### Tables of which a listed number changes -/

/-- A listed number that takes a value which is listed stays in its place. -/
theorem Table.keys_set {α : Type} [DecidableEq α] {d : α} {t : Table α} {n : Nat} {v : α} (hw : Table.wf d t = true)
    (hn : Table.get d t n ≠ d) (hv : v ≠ d) : (Table.set d t n v).map Prod.fst = t.map Prod.fst := by
  have hw' := Table.wf_set d t n v hw
  have hrising {t : Table α} (hw : Table.wf d t = true) : (t.map Prod.fst).Pairwise (· < ·) :=
    List.pairwise_map.mpr ((Table.wf_iff d t).mp hw).2
  refine ((List.perm_ext_iff_of_nodup (Table.nodup_keys hw') (Table.nodup_keys hw)).mpr fun m => ?_).eq_of_pairwise
    (fun a b _ _ hab hba => absurd hab (Nat.lt_asymm hba)) (hrising hw') (hrising hw)
  rw [Table.mem_keys_iff hw', Table.mem_keys_iff hw, Table.get_set]
  split
  · next hm =>
    subst hm
    exact iff_of_true hv hn
  · rfl

/-! ### Classes that have switched -/

/-- A class record after its switch: the pending layout is the bound one (R30). -/
def ClassRecord.switched (r : ClassRecord) : ClassRecord := { r with bound := r.pending, pending := none }

/-- The numbers of the classes that are not EMPTY, rising. -/
def State.classNumbers (s : State) : List Nat := s.ru.classes.map Prod.fst

/-- The notice of a switch (R30). -/
def rebindDoneFrame (n c : Nat) : Frame := noticeFrame .rebindDone (bytes2 c ++ bytes1 n)

/-- The classes of `done` have switched since a state, and their Rebind Done notices are on port L. -/
structure Switched (s u : State) (done : Nat → Bool) (frames : List Frame) : Prop where
  classes : ∀ c, u.classAt c = if done c then (s.classAt c).switched else s.classAt c
  wf : Table.wf emptyClass u.ru.classes = true
  numbers : u.classNumbers = s.classNumbers
  pool : u.ru.poolFree = s.ru.poolFree
  layouts : ∀ n, u.layout n = { s.layout n with
    bindings := (s.layout n).bindings - s.classNumbers.countP (fun c => done c && decide ((s.classAt c).bound = some n)) }
  ports : PortsGain none (onPort .l frames) s u
  touched : Touches [.lt, .ru] s u

theorem Switched.refl (hw : Table.wf emptyClass s.ru.classes = true) : Switched s s (fun _ => false) [] where
  classes _ := rfl
  wf := hw
  numbers := rfl
  pool := rfl
  layouts n := by simp
  ports := (PortsGain.of_liu rfl).sent fun q => by simp [onPort]
  touched := Touches.refl _ _

theorem Switched.congr {done done' : Nat → Bool} {frames : List Frame} (h : Switched s u done frames)
    (hd : ∀ c, done' c = done c) : Switched s u done' frames := by
  rwa [show done' = done from funext hd]

/-- What a report leaves of readiness. -/
theorem Switched.layoutReady {done : Nat → Bool} {frames : List Frame} (h : Switched s u done frames) (n : Nat) :
    u.layoutReady n = s.layoutReady n := State.layoutReady_congr n (by rw [h.layouts]) h.touched.pdir

theorem countP_add_one {l : List Nat} {c : Nat} {p q : Nat → Bool} (hnd : l.Nodup) (hc : c ∈ l) (hp : p c = false) :
    l.countP (fun d => (p d || decide (d = c)) && q d) = l.countP (fun d => p d && q d) + (if q c then 1 else 0) := by
  induction l with
  | nil => cases hc
  | cons a rest ih =>
    obtain ⟨hnot, hrest⟩ := List.nodup_cons.mp hnd
    rw [List.countP_cons, List.countP_cons]
    rcases List.mem_cons.mp hc with rfl | hmem
    · have hsame : rest.countP (fun d => (p d || decide (d = c)) && q d) = rest.countP (fun d => p d && q d) :=
        List.countP_congr fun d hd => by simp [ne_of_mem_of_not_mem hd hnot]
      simp [hsame, hp]
    · rw [ih hrest hmem]
      have hne : a ≠ c := fun he => hnot (he ▸ hmem)
      simp only [hne, decide_false, Bool.or_false]
      omega

/-- One more class switches. -/
theorem Switched.switch {done : Nat → Bool} {frames : List Frame} {n c : Nat} (h : Switched s u done frames)
    (hw : Table.wf emptyClass s.ru.classes = true) (hdone : done c = false) (hf : (s.classAt c).inFlight = 0)
    (hp : (s.classAt c).pending = some n) (hr : s.layoutReady n = true) :
    Switched s (u.evalSwitch c) (fun d => done d || decide (d = c)) (frames ++ [rebindDoneFrame n c]) := by
  have hc : u.classAt c = s.classAt c := by simp [h.classes, hdone]
  have hlisted : s.classAt c ≠ emptyClass := fun he => by simp [he, emptyClass] at hp
  have hmem : c ∈ s.classNumbers := (Table.mem_keys_iff hw).mpr hlisted
  rw [State.evalSwitch_switches u (hc ▸ hp) ⟨hc ▸ hf, (h.layoutReady n).trans hr⟩, hc]
  have hswitched : ({ s.classAt c with bound := some n, pending := none } : ClassRecord) = (s.classAt c).switched := by
    simp [ClassRecord.switched, hp]
  have hne : (s.classAt c).switched ≠ emptyClass := fun he => by
    have := congrArg ClassRecord.bound he
    simp [ClassRecord.switched, hp, emptyClass] at this
  rw [hswitched]
  refine ⟨fun d => ?_, ?_, ?_, ?_, fun m => ?_, ?_, ?_⟩
  · simp only [State.classAt_send, State.classAt_release?, State.classAt_setClass, h.classes]
    by_cases hd : d = c <;> simp [hd]
  · rw [State.send_ru, State.release?_ru]
    exact Table.wf_set _ _ _ _ h.wf
  · rw [← h.numbers]
    simp only [State.classNumbers, State.send_ru, State.release?_ru]
    exact Table.keys_set h.wf (show u.classAt c ≠ emptyClass by rwa [hc]) hne
  · simpa using h.pool
  · have hcount := countP_add_one (l := s.classNumbers) (q := fun c => decide ((s.classAt c).bound = some m))
      (Table.nodup_keys hw) hmem hdone
    rw [State.layout_send, State.layout_release?, State.layout_setClass, h.layouts, hcount]
    simp [Nat.sub_sub]
  · have hgain := h.ports.congr (u := (u.setClass c (s.classAt c).switched).release? (s.classAt c).bound) (by simp)
    refine (hgain.send .l (rebindDoneFrame n c)).sent fun q => ?_
    by_cases hq : q = .l <;> simp [andThen, onPort, hq]
  · exact ((h.touched.trans (State.touches_setClass _ _ _).mono).trans (State.touches_release? _ _).mono).trans
      (State.touches_send _ _ _).mono

/-- A class switches to a layout when it is reported (R30): the layout is its pending one and ready, and nothing is in
flight. -/
def State.switchesTo (s : State) (n c : Nat) : Bool :=
  decide ((s.classAt c).inFlight = 0) && decide ((s.classAt c).pending = some n) && s.layoutReady n

/-- A class evaluated for a layout that has become ready switches, or nothing happens (R31). -/
theorem Switched.evaluate {done : Nat → Bool} {frames : List Frame} {n c : Nat} (h : Switched s u done frames)
    (hw : Table.wf emptyClass s.ru.classes = true) (hdone : done c = true → (s.classAt c).pending ≠ some n) :
    Switched s (if (u.classAt c).pending = some n then u.evalSwitch c else u)
      (fun d => done d || (decide (d = c) && s.switchesTo n c))
      (frames ++ if s.switchesTo n c then [rebindDoneFrame n c] else []) := by
  cases hd : done c with
  | true =>
    have hpending : (u.classAt c).pending = none := by simp [h.classes, hd, ClassRecord.switched]
    have hnot : s.switchesTo n c = false := by simp [State.switchesTo, hdone hd]
    simpa [hpending, hnot] using h
  | false =>
    have hc : u.classAt c = s.classAt c := by simp [h.classes, hd]
    rw [hc]
    split
    · next hp =>
      cases hs : s.switchesTo n c with
      | true =>
        simp only [State.switchesTo, Bool.and_eq_true, decide_eq_true_eq] at hs
        obtain ⟨⟨hf, -⟩, hr⟩ := hs
        simpa using h.switch hw hd hf hp hr
      | false =>
        have hwaits : ¬ ((u.classAt c).inFlight = 0 ∧ u.layoutReady n = true) := fun ⟨hf, hr⟩ => by
          rw [h.layoutReady] at hr
          simp [State.switchesTo, hp, hc ▸ hf, hr] at hs
        rw [State.evalSwitch_waits u (hc ▸ hp) hwaits]
        simpa using h
    · next hp =>
      have hnot : s.switchesTo n c = false := by simp [State.switchesTo, hp]
      simpa [hnot] using h

/-- The classes of a list evaluated one after the other. -/
theorem Switched.evaluateAll {done : Nat → Bool} {frames : List Frame} {n : Nat} (h : Switched s u done frames)
    (hw : Table.wf emptyClass s.ru.classes = true) {l : List Nat} (hnd : l.Nodup)
    (hdone : ∀ c ∈ l, done c = true → (s.classAt c).pending ≠ some n) :
    Switched s (l.foldl (fun u c => if (u.classAt c).pending = some n then u.evalSwitch c else u) u)
      (fun d => done d || (decide (d ∈ l) && s.switchesTo n d))
      (frames ++ (l.filter (s.switchesTo n)).map (rebindDoneFrame n)) := by
  induction l generalizing u done frames with
  | nil => simpa using h
  | cons c rest ih =>
    obtain ⟨hnot, hrest⟩ := List.nodup_cons.mp hnd
    have hone := h.evaluate hw (hdone c List.mem_cons_self)
    have hall := ih hone hrest fun d hd hdd => by
      have hne : d ≠ c := ne_of_mem_of_not_mem hd hnot
      simp only [hne, decide_false, Bool.false_and, Bool.or_false] at hdd
      exact hdone d (List.mem_cons_of_mem _ hd) hdd
    rw [List.foldl_cons]
    refine (?_ : frames ++ _ = _) ▸ hall.congr fun d => ?_
    · cases hs : s.switchesTo n c <;> simp [hs]
    · by_cases hd : d = c
      · subst hd
        cases s.switchesTo n d <;> simp [hnot]
      · simp [hd]

/-! ### One layout reported (R12, R31) -/

theorem State.mem_classNumbers (hw : Table.wf emptyClass s.ru.classes = true) {n c : Nat}
    (hp : (s.classAt c).pending = some n) : c ∈ s.classNumbers :=
  (Table.mem_keys_iff hw).mpr fun he => by
    change s.classAt c = emptyClass at he
    simp [he, emptyClass] at hp

theorem State.pending_of_switchesTo {n c : Nat} (h : s.switchesTo n c = true) :
    (s.classAt c).inFlight = 0 ∧ (s.classAt c).pending = some n ∧ s.layoutReady n = true := by
  simp only [State.switchesTo, Bool.and_eq_true, decide_eq_true_eq] at h
  obtain ⟨⟨hf, hp⟩, hr⟩ := h
  exact ⟨hf, hp, hr⟩

/-- A layout's binding count is the number of classes bound to it and of those it is pending on (R1). -/
theorem State.bindings_eq (hb : s.bindingsSound) (n : Nat) :
    (s.layout n).bindings = s.classNumbers.countP (fun c => decide ((s.classAt c).bound = some n))
      + s.classNumbers.countP (fun c => decide ((s.classAt c).pending = some n)) := by
  obtain ⟨hw, -, hcount, -⟩ := hb
  have hsplit (l : List Nat) : (l.map (fun c => namedBy n (s.classAt c))).sum
      = l.countP (fun c => decide ((s.classAt c).bound = some n))
        + l.countP (fun c => decide ((s.classAt c).pending = some n)) := by
    induction l with
    | nil => rfl
    | cons c rest ih =>
      rw [List.map_cons, List.sum_cons, ih, List.countP_cons, List.countP_cons]
      simp only [decide_eq_true_eq, namedBy]
      omega
  rw [hcount, ← hsplit, State.classNumbers, List.map_map]
  refine congrArg List.sum (List.map_congr_left fun e he => ?_)
  exact congrArg (namedBy n) ((Table.mem_iff hw).mp he).2.symm

/-- While a class waits for a layout, the releases of a report leave its binding count above 0. -/
theorem Switched.bindings_pos {done : Nat → Bool} {frames : List Frame} {n c : Nat} (h : Switched s u done frames)
    (hb : s.bindingsSound) (hp : (s.classAt c).pending = some n) : 0 < (u.layout n).bindings := by
  have hreleased : s.classNumbers.countP (fun c => done c && decide ((s.classAt c).bound = some n))
      ≤ s.classNumbers.countP (fun c => decide ((s.classAt c).bound = some n)) :=
    List.countP_mono_left fun c _ hc => (Bool.and_eq_true _ _ ▸ hc).2
  have hwaiting : 0 < s.classNumbers.countP (fun c => decide ((s.classAt c).pending = some n)) :=
    List.countP_pos_iff.mpr ⟨c, State.mem_classNumbers hb.1 hp, decide_eq_true hp⟩
  have hsum := State.bindings_eq hb n
  rw [h.layouts]
  simp only
  omega

theorem Switched.reportReady {done : Nat → Bool} {frames : List Frame} {n : Nat} (h : Switched s u done frames)
    (hb : s.bindingsSound) (hdone : ∀ c, done c = true → (s.classAt c).pending ≠ some n) :
    Switched s (u.reportReady n) (fun d => done d || s.switchesTo n d)
      (frames ++ (s.classNumbers.filter (s.switchesTo n)).map (rebindDoneFrame n)) := by
  have hw := hb.1
  unfold State.reportReady
  split
  · have hall := h.evaluateAll hw (Table.nodup_keys hw) fun c _ => hdone c
    rw [show u.ru.classes.map Prod.fst = s.ru.classes.map Prod.fst from h.numbers]
    refine hall.congr fun d => ?_
    cases hs : s.switchesTo n d with
    | false => simp
    | true =>
      obtain ⟨-, hp, -⟩ := State.pending_of_switchesTo hs
      have hmem : d ∈ s.ru.classes.map Prod.fst := State.mem_classNumbers hw hp
      simp only [hmem, decide_true]
      rfl
  · next hgate =>
    have hnone (d : Nat) : s.switchesTo n d = false := by
      by_contra hs
      obtain ⟨-, hp, hr⟩ := State.pending_of_switchesTo (Bool.not_eq_false _ ▸ hs)
      exact hgate ⟨h.bindings_pos hb hp, (h.layoutReady n).trans hr⟩
    simpa [show s.switchesTo n = fun _ => false from funext hnone] using h

/-! ### An entry reported (R12) -/

/-- The classes that switch when the layouts of a list that name a handle are reported. -/
def State.switchesFor (s : State) (h : Nat) (l : List Nat) (c : Nat) : Bool :=
  l.any (fun n => (s.layout n).names h && s.switchesTo n c)

/-- Their Rebind Done notices (R30). -/
def State.rebindDonesFor (s : State) (h : Nat) (l : List Nat) : List Frame :=
  l.flatMap (fun n => (s.classNumbers.filter (fun c => (s.layout n).names h && s.switchesTo n c)).map (rebindDoneFrame n))

theorem Switched.reportAll {done : Nat → Bool} {frames : List Frame} (h : Switched s u done frames) (hb : s.bindingsSound)
    (handle : Nat) {l : List Nat} (hnd : l.Nodup) (hdone : ∀ n ∈ l, ∀ c, done c = true → (s.classAt c).pending ≠ some n) :
    Switched s (l.foldl (fun u n => if (u.layout n).names handle then u.reportReady n else u) u)
      (fun c => done c || s.switchesFor handle l c) (frames ++ s.rebindDonesFor handle l) := by
  induction l generalizing u done frames with
  | nil => simpa [State.switchesFor, State.rebindDonesFor] using h
  | cons n rest ih =>
    obtain ⟨hnot, hrest⟩ := List.nodup_cons.mp hnd
    have hone : Switched s (if (u.layout n).names handle then u.reportReady n else u)
        (fun d => done d || ((s.layout n).names handle && s.switchesTo n d))
        (frames ++ (s.classNumbers.filter (fun c => (s.layout n).names handle && s.switchesTo n c)).map (rebindDoneFrame n)) := by
      have hnames : (u.layout n).names handle = (s.layout n).names handle := by rw [h.layouts]; rfl
      rw [hnames]
      cases (s.layout n).names handle with
      | true => simpa using h.reportReady hb (hdone n List.mem_cons_self)
      | false => simpa using h
    have hall := ih hone hrest fun m hm c hc hp => by
      simp only [Bool.or_eq_true, Bool.and_eq_true] at hc
      rcases hc with hc | ⟨-, hc⟩
      · exact hdone m (List.mem_cons_of_mem _ hm) c hc hp
      · obtain ⟨-, hp', -⟩ := State.pending_of_switchesTo hc
        exact hnot (Option.some.inj (hp'.symm.trans hp) ▸ hm)
    rw [List.append_assoc] at hall
    exact hall.congr fun c => by simp [State.switchesFor, Bool.or_assoc]

theorem State.switched_reportEntry (hb : s.bindingsSound) (hl : Table.wf emptyLayout s.layouts = true) (h : Nat) :
    Switched s (s.reportEntry h) (s.switchesFor h (s.layouts.map Prod.fst)) (s.rebindDonesFor h (s.layouts.map Prod.fst)) := by
  have hall := (Switched.refl hb.1).reportAll hb h (Table.nodup_keys hl) fun _ _ _ hc => by cases hc
  exact (hall.congr fun c => (Bool.false_or _).symm)

end Sys2Proof.Machine
end

section
/-! PROOFS. What the return of a plan sets off (O32): the release of a pin, of a class's count and of the page count, above 0 and at
the fall to 0. -/

set_option Elab.async false

namespace Sys2Proof.Machine

variable {s t : State}

/-! ### The glyph window (R133, R135) -/

theorem State.lowerPages_keeps (h : s.gs.inFlight - 1 ≠ 0 ∨ s.gs.window ≠ .opening) :
    s.lowerPages = { s with gs := { s.gs with inFlight := s.gs.inFlight - 1 } } :=
  if_neg fun ⟨hn, hw⟩ => h.elim (· hn) (· hw)

theorem State.lowerPages_opens (hn : s.gs.inFlight - 1 = 0) (hw : s.gs.window = .opening) :
    s.lowerPages = ({ s with gs := { s.gs with inFlight := s.gs.inFlight - 1, window := .opened } } : State).send .l
      (noticeFrame .glyphWindowOpen (bytes2 s.gs.glyphs.length)) := if_pos ⟨hn, hw⟩

/-! ### A class's in-flight count (R18, R31) -/

section LowerInFlight

variable (s : State) (c : Nat)

/-- A class with one plan less in flight. -/
def State.lowered (s : State) (c : Nat) : State :=
  s.setClass c { s.classAt c with inFlight := (s.classAt c).inFlight - 1 }

theorem State.classAt_lowered (d : Nat) :
    (s.lowered c).classAt d = if d = c then { s.classAt c with inFlight := (s.classAt c).inFlight - 1 } else s.classAt d :=
  State.classAt_setClass _ _ _ _

theorem State.layoutReady_lowered (n : Nat) : (s.lowered c).layoutReady n = s.layoutReady n :=
  State.layoutReady_congr n rfl rfl

/-- Above 0, or without a pending layout that is ready, only the count falls. -/
theorem State.lowerInFlight_waits
    (h : (s.classAt c).inFlight - 1 ≠ 0 ∨ ∀ n, (s.classAt c).pending = some n → s.layoutReady n = false) :
    s.lowerInFlight c = s.lowered c := by
  unfold State.lowerInFlight
  simp only
  split
  · next hn =>
    have hwaits := h.resolve_left (not_not.mpr hn)
    change (s.lowered c).evalSwitch c = s.lowered c
    cases hp : (s.classAt c).pending with
    | none =>
      have hp' : ((s.lowered c).classAt c).pending = none := by rw [State.classAt_lowered, if_pos rfl, hp]
      simp only [State.evalSwitch, hp']
    | some n =>
      refine State.evalSwitch_waits (n := n) _ (by rw [State.classAt_lowered, if_pos rfl, hp]) fun ⟨_, hr⟩ => ?_
      rw [State.layoutReady_lowered, hwaits n hp] at hr
      cases hr
  · rfl

/-- At 0 a ready pending layout becomes the bound one (R30). -/
theorem State.lowerInFlight_switches {n : Nat} (hn : (s.classAt c).inFlight - 1 = 0) (hp : (s.classAt c).pending = some n)
    (hr : s.layoutReady n = true) :
    s.lowerInFlight c = (((s.lowered c).setClass c { s.classAt c with inFlight := 0, bound := some n, pending := none }).release?
      (s.classAt c).bound).send .l (noticeFrame .rebindDone (bytes2 c ++ bytes1 n)) := by
  have hc : (s.lowered c).classAt c = { s.classAt c with inFlight := 0 } := by rw [State.classAt_lowered, if_pos rfl, hn]
  have heval : s.lowerInFlight c = (s.lowered c).evalSwitch c := if_pos hn
  rw [heval, State.evalSwitch_switches _ (by rw [hc]; exact hp) ⟨by rw [hc], (s.layoutReady_lowered c n).trans hr⟩, hc]

/-- Nothing else of any class changes but the class's own record. -/
theorem State.lowerInFlight_others :
    (∀ d, d ≠ c → (s.lowerInFlight c).classAt d = s.classAt d) ∧ (s.lowerInFlight c).ru.poolFree = s.ru.poolFree := by
  by_cases hwaits : (s.classAt c).inFlight - 1 ≠ 0 ∨ ∀ n, (s.classAt c).pending = some n → s.layoutReady n = false
  · rw [s.lowerInFlight_waits c hwaits]
    exact ⟨fun d hd => (s.classAt_lowered c d).trans (if_neg hd), rfl⟩
  · push Not at hwaits
    obtain ⟨hn, n, hp, hr⟩ := hwaits
    rw [s.lowerInFlight_switches c hn hp (Bool.not_eq_false _ ▸ hr)]
    refine ⟨fun d hd => ?_, by simp [State.lowered, State.setClass]⟩
    rw [State.classAt_send, State.classAt_release?, State.classAt_setClass, if_neg hd, State.classAt_lowered, if_neg hd]

end LowerInFlight

/-! ### Pins (R61, R62) -/

theorem State.store_freeCluster (s : State) (c : Nat) : (s.freeCluster c).sc.store = s.sc.store := by
  cases ho : (s.cluster c).owner?.isSome with
  | false => rw [State.freeCluster_unchained ho]
  | true => rw [State.freeCluster_chained ho]

theorem State.store_freeImage (s : State) (image : Option ImageRecord) : (s.freeImage image).sc.store = s.sc.store := by
  cases image with
  | none => rfl
  | some r =>
    exact List.foldlRecOn (motive := fun v : State => v.sc.store = s.sc.store) _ _ rfl fun v hv c _ =>
      (v.store_freeCluster c).trans hv

theorem State.store_relabelChain (s : State) (first : Nat) (kind : ChainKind) :
    (s.relabelChain first kind).sc.store = s.sc.store := by
  obtain ⟨-, hsc⟩ := s.relabelChain_outcome first kind
  rw [hsc]

/-- The entry that the report is about is listed with its layouts. -/
theorem State.names_mem (hl : Table.wf emptyLayout s.layouts = true) {n h : Nat} (hn : (s.layout n).names h = true) :
    n ∈ s.layouts.map Prod.fst := (Table.mem_keys_iff hl).mpr fun he => by
  change s.layout n = emptyLayout at he
  simp [he, LayoutRecord.names, emptyLayout] at hn

section Report

variable {v : State} (hru : v.ru = s.ru) (hlayouts : v.layouts = s.layouts) (hready : ∀ n, t.layoutReady n = v.layoutReady n)

include hru hlayouts hready

/-- The switches of the statement, layout by layout, are those of the report. -/
theorem switchesAt_to (h n c : Nat) :
    (switchesAt h s t c && decide ((s.classAt c).pending = some n)) = ((v.layout n).names h && v.switchesTo n c) := by
  rw [State.switchesTo, State.classAt_congr _ _ _ hru, State.layout_congr _ _ _ hlayouts, ← hready, switchesAt]
  by_cases hp : (s.classAt c).pending = some n
  · simp only [hp, Option.any_some, decide_true, Bool.and_true]
    cases (s.layout n).names h <;> cases t.layoutReady n <;> simp
  · simp [hp]

theorem switchesAt_eq (hl : Table.wf emptyLayout s.layouts = true) (h c : Nat) :
    switchesAt h s t c = v.switchesFor h (s.layouts.map Prod.fst) c := by
  have hto := switchesAt_to hru hlayouts hready h
  rw [Bool.eq_iff_iff, State.switchesFor, List.any_eq_true]
  constructor
  · intro hs
    have hs' := hs
    simp only [switchesAt, Bool.and_eq_true, Option.any_eq_true] at hs
    obtain ⟨-, n, hp, hn, -⟩ := hs
    refine ⟨n, State.names_mem hl hn, ?_⟩
    rw [← hto n c, hs', hp]
    simp
  · rintro ⟨n, -, hn⟩
    rw [← hto n c, Bool.and_eq_true] at hn
    exact hn.1

theorem rebindDones_eq (h : Nat) : rebindDones true h s t = v.rebindDonesFor h (s.layouts.map Prod.fst) := by
  refine congrArg (List.flatMap · _) (funext fun n => ?_)
  have hnumbers : v.classNumbers = s.ru.classes.map Prod.fst := by rw [State.classNumbers, hru]
  rw [hnumbers]
  refine congrArg (List.map _) (List.filter_congr fun c _ => ?_)
  rw [← switchesAt_to hru hlayouts hready h n c]
  rfl

end Report

/-- An entry made READY: it is reported, if it was not READY before (R54, R62). -/
theorem State.switched_makeReady (hb : s.bindingsSound) (hl : Table.wf emptyLayout s.layouts = true) (h : Nat) (e : DirEntry)
    (image : ImageRecord) :
    let v := s.setEntry h { e with state := .ready, image := some image }
    let enters := decide (e.state ≠ .ready)
    Switched v (s.makeReady h e image) (fun c => enters && v.switchesFor h (v.layouts.map Prod.fst) c)
      (if enters then v.rebindDonesFor h (v.layouts.map Prod.fst) else []) := by
  intro v enters
  have hb : v.bindingsSound := hb
  by_cases hst : e.state = .ready
  · have hsame : s.makeReady h e image = v := if_pos hst
    simpa [hsame, enters, hst] using Switched.refl hb.1
  · have hreport : s.makeReady h e image = v.reportEntry h := if_neg hst
    simpa [hreport, enters, hst] using State.switched_reportEntry hb hl h

/-- What a report leaves, as the statement has it (R12, R30, R31); a notice sent after it changes none of that. -/
theorem Switched.reported {v r : State} {enters : Bool} {h : Nat} {frames : List Frame}
    (hs : Switched v r (fun c => enters && v.switchesFor h (s.layouts.map Prod.fst) c) frames) (hru : v.ru = s.ru)
    (hlayouts : v.layouts = s.layouts) (hl : Table.wf emptyLayout s.layouts = true) (ht : Touches [] r t) :
    ReadinessReported enters h s t
      ∧ rebindDones enters h s t = if enters then v.rebindDonesFor h (s.layouts.map Prod.fst) else [] := by
  have htlayout (n : Nat) : t.layout n = r.layout n := State.layout_congr _ _ n ht.layouts
  have hready (n : Nat) : t.layoutReady n = v.layoutReady n :=
    (State.layoutReady_congr n (by rw [htlayout]) ht.pdir).trans (hs.layoutReady n)
  have hat := switchesAt_eq hru hlayouts hready hl h
  refine ⟨⟨fun c => ?_, by rw [ht.ru, hs.pool, hru], fun n => ?_⟩, ?_⟩
  · rw [State.classAt_congr _ _ _ ht.ru, hs.classes, State.classAt_congr _ _ _ hru]
    simp only [hat]
    rfl
  · rw [htlayout, hs.layouts, State.layout_congr _ _ _ hlayouts, List.countP_eq_length_filter]
    simp only [State.classNumbers, State.classAt_congr _ _ _ hru, hru, hat]
  · cases enters with
    | true => exact rebindDones_eq hru hlayouts hready h
    | false => simp [rebindDones]

/-- The pin's release with a replacement that waits (R61, R62). -/
theorem State.unpin_swap_outcome {h : Nat} {new : ImageRecord} (hn : (s.entry h).pins - 1 = 0)
    (hl : Table.wf emptyLayout s.layouts = true) (hb : s.bindingsSound) (hr : (s.entry h).replacement = some new) :
    let e := s.entry h
    let t := s.unpin h
    let enters := decide (e.state ≠ .ready)
    t.entry h = { e with state := .ready, pins := 0, image := some new, replacement := none }
      ∧ (∀ g, g ≠ h → t.entry g = s.entry g)
      ∧ PortsGain none (andThen (onPort .l (rebindDones enters h s t))
          (onPort .i [noticeFrame .replacementSwapped
            (bytes2 h ++ bytes1 e.generation ++ bytes1 new.clusters)])) s t
      ∧ ReadinessReported enters h s t
      ∧ OnlyChanges [.liu, .lt, .ru, .sc, .pdir] s t
      ∧ t.sc = ((s.freeImage e.image).relabelChain new.first .current).sc := by
  intro e t enters
  -- the state with the chains settled, the entry set, and the report made
  set w := ((s.setEntry h e.unpinned).freeImage e.image).relabelChain new.first .current with hw
  have honly : ScOnly (s.setEntry h e.unpinned) w := (State.scOnly_freeImage _ _).trans (State.scOnly_relabelChain _ _ _)
  have hwru : w.ru = s.ru := by rw [honly]; rfl
  have hwlayouts : w.layouts = s.layouts := by rw [honly]; rfl
  have hwliu : w.liu = s.liu := by rw [honly]; rfl
  have hwbindings : w.bindingsSound := by
    have hclass (c : Nat) : w.classAt c = s.classAt c := State.classAt_congr _ _ _ hwru
    have hlayout (n : Nat) : w.layout n = s.layout n := State.layout_congr _ _ _ hwlayouts
    simpa only [State.bindingsSound, hclass, hlayout, hwru] using hb
  set v := w.setEntry h { e.unpinned with replacement := none, state := .ready, image := some new } with hv
  set r := w.makeReady h { e.unpinned with replacement := none } new with hr'
  have hswitched : Switched v r (fun c => enters && v.switchesFor h (w.layouts.map Prod.fst) c)
      (if enters then v.rebindDonesFor h (w.layouts.map Prod.fst) else []) :=
    State.switched_makeReady hwbindings (hwlayouts ▸ hl) h { e.unpinned with replacement := none } new
  rw [hwlayouts] at hswitched
  have ht : t = r.send .i (noticeFrame .replacementSwapped (bytes2 h ++ bytes1 e.generation ++ bytes1 new.clusters)) := by
    rw [show t = s.unpin h from rfl, State.unpin_swaps hn hr, State.notice_eq]
  have hsent : Touches [] r t := ht ▸ r.touches_send _ _
  obtain ⟨hreported, hdones⟩ := hswitched.reported hwru hwlayouts hl hsent
  have htouched : Touches [.lt, .ru, .sc, .pdir] s t :=
    ((((s.touches_setEntry h e.unpinned).mono.trans (State.touches_freeImage _ _).mono).trans
      (State.touches_relabelChain _ _ _).mono).trans (w.touches_makeReady _ _ _).mono).trans hsent.mono
  have hentry (g : Nat) : t.entry g = v.entry g :=
    (State.entry_congr _ _ g hsent.pdir).trans (State.entry_congr _ _ g (w.makeReady_pdir _ _ _))
  refine ⟨?_, fun g hg => ?_, ?_, hreported, htouched.2, ?_⟩
  · rw [hentry, hv, State.entry_setEntry, if_pos rfl]
    simp [DirEntry.unpinned, hn, e]
  · rw [hentry, hv, State.entry_setEntry, if_neg hg, honly]
    exact (State.entry_setEntry _ _ _ _).trans (if_neg hg)
  · rw [ht]
    have hgain := ((PortsGain.of_liu (show v.liu = s.liu from hwliu)).trans hswitched.ports).send .i
      (noticeFrame .replacementSwapped (bytes2 h ++ bytes1 e.generation ++ bytes1 new.clusters))
    refine hgain.sent fun q => ?_
    rw [← ht, hdones]
    rfl
  · rw [hsent.sc, (w.touches_makeReady _ _ _).sc]
    exact State.relabelChain_sc_congr (State.freeImage_sc_congr (s.setEntry_sc _ _) _) _ _

/-- Settles O32: each count above 0 and at its fall to 0; the swap's report by its classes. -/
theorem returnsSetOffAtZero : Obligations.ReturnsSetOffAtZero := by
  intro s
  refine ⟨fun h => ⟨fun hkeeps => ?_, fun hn hl hb new hr => ?_⟩, fun c =>
    ⟨(s.lowerInFlight_others c).1, (s.lowerInFlight_others c).2,
    fun hwaits => ?_, fun hn n hp hr => ?_⟩,
    fun hkeeps => ?_, fun hn hw => ?_⟩
  · rw [State.unpin_keeps hkeeps]
    exact ⟨(State.entry_setEntry _ _ _ _).trans (if_pos rfl), fun g hg => (State.entry_setEntry _ _ _ _).trans (if_neg hg),
      (s.touches_setEntry h _).only rfl⟩
  · obtain ⟨hentry, hothers, hports, hreported, honly, hsc⟩ := State.unpin_swap_outcome hn hl hb hr
    refine ⟨hentry, hothers, hports, hreported, honly, hsc, ?_, ?_⟩
    · rw [hsc, State.store_relabelChain, State.store_freeImage]
    · rw [hsc, (State.keepsCounts_relabelChain _ _ _).reserved, (s.keepsCounts_freeImage _).reserved]
  · rw [s.lowerInFlight_waits c hwaits]
    exact ⟨(s.classAt_lowered c c).trans (if_pos rfl), (s.touches_setClass c _).only rfl⟩
  · rw [s.lowerInFlight_switches c hn hp hr]
    have hgain : PortsGain none (fun _ => []) s (((s.lowered c).setClass c { s.classAt c with
        inFlight := 0, bound := some n, pending := none }).release? (s.classAt c).bound) :=
      PortsGain.of_liu (by simp [State.lowered])
    refine ⟨?_, (hgain.send .l _).sent fun q => by simp [andThen], ?_, fun m => ?_⟩
    · rw [State.classAt_send, State.classAt_release?, State.classAt_setClass, if_pos rfl]
    · exact ((((s.touches_setClass c _).mono.trans (State.touches_setClass _ c _).mono).trans
        (State.touches_release? _ _).mono).trans (State.touches_send _ _ _).mono : Touches [.lt, .ru] _ _).2
    · rw [State.layout_send, State.layout_release?, State.layout_setClass, State.lowered, State.layout_setClass]
  · rw [State.lowerPages_keeps hkeeps]
    exact ⟨rfl, (s.touches_gs _).only rfl⟩
  · rw [State.lowerPages_opens hn hw]
    refine ⟨?_, ((PortsGain.of_liu rfl).send .l _).sent fun q => by simp [andThen],
      ((s.touches_gs _).mono.trans (State.touches_send _ _ _).mono : Touches [.gs] _ _).2⟩
    rw [State.send_gs, hn]

end Sys2Proof.Machine
end

section
/-! PROOFS. What the layout and class orders can touch, each once, and the ends of uploads by an order. -/

set_option Elab.async false

namespace Sys2Proof.Machine

/-! ### Layout orders (R5 to R10) -/

theorem State.touches_defineLayout (s : State) (from_ : Sender) (f : LayoutForm) :
    Touches [.lt, .ru] s (s.defineLayout from_ f) := by
  unfold State.defineLayout
  split
  · exact (s.touches_refuse _ _).mono
  split
  · exact (s.touches_refuse _ _).mono
  split
  · exact (s.touches_refuse _ _).mono
  · exact ((s.touches_ok _ _).mono.trans (State.touches_setLayout _ _ _).mono).trans (State.touches_reportReady _ _)

theorem State.touches_deleteLayout (s : State) (from_ : Sender) (n : Nat) :
    Touches [.lt] s (s.deleteLayout from_ n) := by
  unfold State.deleteLayout
  split_ifs
  · exact (s.touches_refuse _ _).mono
  · exact (s.touches_refuse _ _).mono
  · exact (s.touches_refuse _ _).mono
  · exact (s.touches_ok _ _).mono.trans (State.touches_setLayout _ _ _)

/-! ### Class orders (R22 to R34) -/

theorem State.touches_openClass (s : State) (from_ : Sender) (c n : Nat) :
    Touches [.lt, .ru] s (s.openClass from_ c n) := by
  unfold State.openClass
  split_ifs
  · exact (s.touches_refuse _ _).mono
  · exact (s.touches_refuse _ _).mono
  · exact (s.touches_refuse _ _).mono
  · exact ((s.touches_ok _ _).mono.trans (State.touches_setLayout _ _ _).mono).trans (State.touches_setClass _ _ _).mono

/-- An order that acts in an OPEN class touches what its act there does. -/
theorem State.touches_inOpenClass {blocks : List Block} {s act : State} (from_ : Sender) (c : Nat)
    (h : Touches blocks s act) : Touches blocks s (s.inOpenClass from_ c act) := by
  have hrefuse (status : Status) : Touches blocks s (s.refuse from_ status) := (s.touches_refuse _ _).mono nofun
  unfold State.inOpenClass
  split
  · exact hrefuse _
  · split
    · exact hrefuse _
    · exact hrefuse _
    · exact h

theorem State.touches_ok_setRoster (s : State) (from_ : Sender) (fields : Bytes) (c : Nat) (roster : List Subject) :
    Touches [.ru] s ((s.ok from_ fields).setRoster c roster) :=
  (s.touches_ok _ _).mono.trans (State.touches_setClass _ _ _)

theorem State.touches_addSubject (s : State) (from_ : Sender) (f : SubjectForm) :
    Touches [.ru] s (s.addSubject from_ f) := by
  have hrefuse (status : Status) : Touches [.ru] s (s.refuse from_ status) := (s.touches_refuse _ _).mono
  unfold State.addSubject
  extract_lets x roster
  split
  · exact hrefuse _
  refine State.touches_inOpenClass _ _ ?_
  split_ifs
  · exact hrefuse _
  · exact hrefuse _
  · exact hrefuse _
  · exact hrefuse _
  · exact (s.touches_ok_setRoster _ _ _ _).trans (State.touches_setPool _ _)

theorem State.touches_updateSubject (s : State) (from_ : Sender) (f : SubjectForm) :
    Touches [.ru] s (s.updateSubject from_ f) := by
  have hrefuse (status : Status) : Touches [.ru] s (s.refuse from_ status) := (s.touches_refuse _ _).mono
  unfold State.updateSubject
  extract_lets x roster others
  split
  · exact hrefuse _
  refine State.touches_inOpenClass _ _ ?_
  split
  · exact hrefuse _
  split
  · exact hrefuse _
  · exact s.touches_ok_setRoster _ _ _ _

theorem State.touches_removeSubject (s : State) (from_ : Sender) (c id : Nat) :
    Touches [.ru] s (s.removeSubject from_ c id) := by
  unfold State.removeSubject
  refine State.touches_inOpenClass _ _ ?_
  split
  · exact (s.touches_refuse _ _).mono
  · exact (s.touches_ok_setRoster _ _ _ _).trans (State.touches_setPool _ _)

theorem State.touches_setTitle (s : State) (from_ : Sender) (c count : Nat) (title : List Nat) :
    Touches [.ru] s (s.setTitle from_ c count title) := by
  unfold State.setTitle
  split
  · exact (s.touches_refuse _ _).mono
  · exact State.touches_inOpenClass _ _ ((s.touches_ok _ _).mono.trans (State.touches_setClass _ _ _))

theorem State.touches_rebindClass (s : State) (from_ : Sender) (c n : Nat) :
    Touches [.lt, .ru] s (s.rebindClass from_ c n) := by
  unfold State.rebindClass
  split
  · exact (s.touches_refuse _ _).mono
  refine State.touches_inOpenClass _ _ ?_
  split_ifs
  · exact (s.touches_ok _ _).mono.trans (State.touches_clearPending _ c)
  · exact (s.touches_refuse _ _).mono
  · exact ((((s.touches_ok _ _).mono.trans (State.touches_setLayout _ _ _).mono).trans
      (State.touches_release? _ _).mono).trans (State.touches_setClass _ _ _).mono).trans (State.touches_evalSwitch _ c)

theorem State.touches_withdrawRebind (s : State) (from_ : Sender) (c : Nat) :
    Touches [.lt, .ru] s (s.withdrawRebind from_ c) :=
  State.touches_inOpenClass _ _ ((s.touches_ok _ _).mono.trans (State.touches_clearPending _ c))

theorem State.touches_freezeClass (s : State) (from_ : Sender) (c : Nat) :
    Touches [.lt, .ru] s (s.freezeClass from_ c) := by
  have hfrozen : Touches [.lt, .ru] s ((s.ok from_ []).freeze c) := (s.touches_ok _ _).mono.trans (State.touches_freeze _)
  unfold State.freezeClass
  split
  · exact (s.touches_refuse _ _).mono
  split
  · exact (s.touches_refuse _ _).mono
  · exact (s.touches_ok _ _).mono
  · extract_lets frozen
    split
    · exact hfrozen.trans (State.touches_notice _ _ _ _).mono
    · exact hfrozen

/-! ### The glyph window and the ends of uploads (R79, R82, R134, R136) -/

theorem State.touches_ok_setWindow (s : State) (from_ : Sender) (fields : Bytes) (w : WindowState) :
    Touches [.gs] s ((s.ok from_ fields).setWindow w) :=
  (s.touches_ok _ _).mono.trans (State.touches_setWindow _ _)

theorem State.touches_endUploadOf (s : State) (k : Fin 4) (u : UploadRecord) :
    Touches [.lt, .ru, .sc, .pdir, .ie] s (s.endUploadOf k u) := by
  unfold State.endUploadOf
  split
  · exact (s.touches_failUpload k u _).mono
  split
  · exact (s.touches_failUpload k u _).mono
  · exact s.touches_handOver k u

theorem State.touches_onSlot {blocks : List Block} {act : State → Fin 4 → UploadRecord → State} (s : State)
    (from_ : Sender) (slot handle : Nat) (h : ∀ s k u, Touches blocks s (act s k u)) :
    Touches blocks s (s.onSlot from_ slot handle act) := by
  unfold State.onSlot
  split
  · exact (s.touches_refuse _ _).mono nofun
  split
  · exact (s.touches_refuse _ _).mono nofun
  · exact ((s.touches_ok _ _).mono nofun).trans (h _ _ _)

end Sys2Proof.Machine
end

section
/-! PROOFS. One channel's record: when it is ARMED, PAUSED or RUNNING, what a release makes of it, and the shape of its job list,
job before job (R149, R152, R157, R167). -/

set_option Elab.async false

namespace Sys2Proof.Machine

variable {c : Channel} {j : Job} {rest : List Job} {p : Plan} {r : Rendering}

/-! ### The first job (R149) -/

theorem Channel.plannedPlan?_of_planned (hjobs : c.jobs = j :: rest) (hj : j.stage = .planned p) :
    c.plannedPlan? = some p := by
  simp [Channel.plannedPlan?, hjobs, Job.plannedPlan?, hj]

theorem Channel.renderingPlan?_of_planned (hjobs : c.jobs = j :: rest) (hj : j.stage = .planned p) :
    c.renderingPlan? = none := by
  simp [Channel.renderingPlan?, hjobs, Job.renderingPlan?, hj]

/-- With no first job RENDERING, or with no rendering record, an enabled channel is ARMED or IDLE. -/
theorem Channel.state_not_rendering (hon : c.enabled = true) (h : c.renderingPlan? = none ∨ c.rendering = none) :
    c.state = if c.plannedPlan?.isSome then .armed else .idle := by
  unfold Channel.state
  rw [if_pos hon]
  split
  · next hp hr => rcases h with h | h <;> simp_all
  · rfl

theorem Channel.state_off (h : c.enabled = false) : c.state = .off := by simp [Channel.state, h]

theorem Channel.state_rendering (hon : c.enabled = true) (hp : c.renderingPlan? = some p) (hr : c.rendering = some r) :
    c.state = if r.inFlight ∨ r.started < r.released then .running else .paused := by
  simp only [Channel.state, if_pos hon, hp, hr]

theorem Channel.armed_iff :
    c.state = .armed ↔ c.enabled = true ∧ ∃ j rest p, c.jobs = j :: rest ∧ j.stage = .planned p := by
  constructor
  · intro h
    by_cases hon : c.enabled = true
    · unfold Channel.state at h
      rw [if_pos hon] at h
      split at h
      · split at h <;> cases h
      · split at h
        · next hp =>
          obtain ⟨p, hp⟩ := Option.isSome_iff_exists.mp hp
          obtain ⟨j, rest, hjobs, hj⟩ := Channel.plannedPlan?_eq_some hp
          exact ⟨hon, j, rest, p, hjobs, hj⟩
        · cases h
    · simp [Channel.state_off (by simpa using hon)] at h
  · rintro ⟨hon, j, rest, p, hjobs, hj⟩
    rw [Channel.state_not_rendering hon (.inl (Channel.renderingPlan?_of_planned hjobs hj)),
      Channel.plannedPlan?_of_planned hjobs hj]
    rfl

theorem Channel.rendering_of_state (h : c.state = .paused ∨ c.state = .running) :
    c.enabled = true ∧ ∃ p r, c.renderingPlan? = some p ∧ c.rendering = some r := by
  by_cases hon : c.enabled = true
  · cases hp : c.renderingPlan? with
    | none => rw [Channel.state_not_rendering hon (.inl hp)] at h; split at h <;> simp at h
    | some p =>
      cases hr : c.rendering with
      | none => rw [Channel.state_not_rendering hon (.inr hr)] at h; split at h <;> simp at h
      | some r => exact ⟨hon, p, r, rfl, rfl⟩
  · simp [Channel.state_off (by simpa using hon)] at h

/-- Bands in flight or released keep a channel from being PAUSED. -/
theorem Channel.not_inFlight_of_paused (h : c.state = .paused) (hr : c.rendering = some r) : r.inFlight = false := by
  obtain ⟨hon, p, r', hp, hr'⟩ := Channel.rendering_of_state (.inl h)
  obtain rfl : r = r' := Option.some.inj (hr.symm.trans hr')
  rw [Channel.state_rendering hon hp hr] at h
  split at h
  · cases h
  · next hn => simpa using (not_or.mp hn).1

/-! ### Releases (R157) -/

theorem Channel.releaseNeeded_iff : c.releaseNeeded = true ↔ c.state = .armed ∨ c.state = .paused := by
  simp [Channel.releaseNeeded]

@[simp] theorem Rendering.raise_inFlight (r : Rendering) (mode : ChannelMode) (bandHeight : Nat) (p : Plan) :
    (r.raise mode bandHeight p).inFlight = r.inFlight := by cases mode <;> rfl

theorem Channel.afterRelease_planned (damaged : Nat → Bool) (hjobs : c.jobs = j :: rest) (hj : j.stage = .planned p) :
    c.afterRelease damaged =
      (let q := p.flagDamage damaged
       { c.consume with
          jobs := { classNo := p.snap.classNo, page := p.snap.page, copies := p.snap.copies, stage := .rendering q } :: rest
          rendering :=
            some ((freshRendering (bandCount p.snap.layout.h c.bandHeight)).raise c.mode c.bandHeight q) }) := by
  simp only [Channel.afterRelease, hjobs, hj, Channel.consume]

theorem Channel.afterRelease_rendering (damaged : Nat → Bool) (hjobs : c.jobs = j :: rest)
    (hj : j.stage = .rendering p) (hr : c.rendering = some r) :
    c.afterRelease damaged = { c.consume with rendering := some (r.raise c.mode c.bandHeight p) } := by
  simp only [Channel.afterRelease, hjobs, hj, hr, Channel.consume]

/-- All that the taking of a release does: nothing, unless one is needed and the trigger counts as set. -/
theorem State.takeRelease_eq (s : State) (k : Fin 4) :
    s.takeRelease k =
      if (s.channel k).triggered = true ∧ (s.channel k).releaseNeeded = true then
        s.putChannel k ((s.channel k).afterRelease s.damagedEntry)
      else s := by
  unfold State.takeRelease
  extract_lets c
  by_cases htrigger : c.triggered = true
  swap
  · simp [htrigger, c]
  rw [if_pos htrigger]
  split
  · next hstate =>
    obtain ⟨-, j, rest, p, hjobs, hj⟩ := Channel.armed_iff.mp hstate
    rw [if_pos ⟨htrigger, Channel.releaseNeeded_iff.mpr (.inl hstate)⟩, Channel.plannedPlan?_of_planned hjobs hj,
      Channel.afterRelease_planned _ hjobs hj]
    simp only [hjobs, replaceFirst]
    rfl
  · next hstate =>
    obtain ⟨-, p, r, hp, hr⟩ := Channel.rendering_of_state (.inl hstate)
    obtain ⟨j, rest, hjobs, hj⟩ := Channel.renderingPlan?_eq_some hp
    rw [if_pos ⟨htrigger, Channel.releaseNeeded_iff.mpr (.inr hstate)⟩, hp, hr,
      Channel.afterRelease_rendering _ hjobs hj hr]
  · next harmed hpaused =>
    rw [if_neg fun h => (Channel.releaseNeeded_iff.mp h.2).elim harmed hpaused]

/-! ### The wait on the press (R167) -/

/-- A channel that waits on its press has no band in flight, if its rendering record belongs to a RENDERING job. -/
theorem Channel.not_inFlight_of_pressWait (hw : c.pressWait.isSome = true)
    (hrecord : c.rendering.isSome = true → c.renderingPlan?.isSome = true) (hr : c.rendering = some r) :
    r.inFlight = false := by
  obtain ⟨p, hp⟩ := Option.isSome_iff_exists.mp (hrecord (by simp [hr]))
  cases hs : c.state with
  | off => simp [Channel.pressWait, hs] at hw
  | idle => simp [Channel.pressWait, hs] at hw
  | armed =>
    obtain ⟨-, j, rest, q, hjobs, hj⟩ := Channel.armed_iff.mp hs
    simp [Channel.renderingPlan?_of_planned hjobs hj] at hp
  | paused => exact Channel.not_inFlight_of_paused hs hr
  | running =>
    simp only [Channel.pressWait, hs, hr] at hw
    split at hw
    · next hidle => simpa using hidle.1
    · cases hw

/-! ### The shape of a job list (R152) -/

/-- A job may stand before another: any before a QUEUED one, and a RENDERING one before one in PLANNING or PLANNED. -/
def Job.MayPrecede (i j : Job) : Prop := j.queued = true ∨ (Job.renderingPlan? i).isSome = true ∧ j.inPlan = true

/-- A job is RENDERING, in PLANNING or PLANNED, or QUEUED. -/
theorem Job.kinds (j : Job) :
    ((Job.renderingPlan? j).isSome = true ∧ j.queued = false ∧ j.inPlan = false)
      ∨ ((Job.renderingPlan? j).isSome = false ∧ j.queued = false ∧ j.inPlan = true)
      ∨ ((Job.renderingPlan? j).isSome = false ∧ j.queued = true ∧ j.inPlan = false) := by
  cases hs : j.stage <;> simp [Job.renderingPlan?, Job.queued, Job.inPlan, Job.inFlight, hs]

theorem Job.inPlan_of_planned (hj : j.stage = .planned p) : j.inPlan = true := by
  simp [Job.inPlan, Job.inFlight, Job.queued, Job.renderingPlan?, hj]

theorem Job.inPlan_of_planningSnap? (h : (Job.planningSnap? j).isSome = true) : j.inPlan = true := by
  cases hs : j.stage <;> simp_all [Job.planningSnap?, Job.inPlan, Job.inFlight, Job.queued, Job.renderingPlan?]

/-- No job stands before a RENDERING one. -/
theorem Job.MayPrecede.not_rendering {i : Job} (h : i.MayPrecede j) : (Job.renderingPlan? j).isSome = false := by
  rcases j.kinds with ⟨-, hq, hp⟩ | ⟨hr, -⟩ | ⟨hr, -⟩
  · rcases h with h | ⟨-, h⟩
    · exact absurd (h.symm.trans hq) nofun
    · exact absurd (h.symm.trans hp) nofun
  · exact hr
  · exact hr

/-- The shape of a list, job before job. -/
theorem jobsShaped_iff {jobs : List Job} : JobsShaped jobs ↔ jobs.Pairwise Job.MayPrecede := by
  constructor
  · rintro ⟨rendering, planned, queued, rfl, hlr, hr, hlp, hp, hq⟩
    have hone {l : List Job} (h : l.length ≤ 1) : l.Pairwise Job.MayPrecede := by
      rcases l with _ | ⟨i, _ | ⟨j, rest⟩⟩
      · exact List.Pairwise.nil
      · exact List.pairwise_singleton _ _
      · simp at h
    have hfront : (rendering ++ planned).Pairwise Job.MayPrecede :=
      List.pairwise_append.mpr ⟨hone hlr, hone hlp, fun i hi j hj => .inr ⟨hr i hi, hp j hj⟩⟩
    exact List.pairwise_append.mpr ⟨hfront,
      List.pairwise_of_forall_mem_list fun i _ j hj => .inl (hq j hj), fun i _ j hj => .inl (hq j hj)⟩
  · intro h
    induction jobs with
    | nil => exact ⟨[], [], [], rfl, by simp, by simp, by simp, by simp, by simp⟩
    | cons j rest ih =>
      obtain ⟨hj, hrest⟩ := List.pairwise_cons.mp h
      rcases j.kinds with ⟨hkind, -, -⟩ | ⟨hnot, -, hkind⟩ | ⟨hnot, hkind, -⟩
      · obtain ⟨rendering, planned, queued, rfl, -, hr, hlp, hp, hq⟩ := ih hrest
        have hnone : rendering = [] := List.eq_nil_iff_forall_not_mem.mpr fun i hi =>
          absurd ((hr i hi).symm.trans (hj i (by simp [hi])).not_rendering) Bool.noConfusion
        subst hnone
        exact ⟨[j], planned, queued, rfl, by simp, by simpa using hkind, hlp, hp, hq⟩
      all_goals
        have hqueued : ∀ i ∈ rest, i.queued = true := fun i hi =>
          (hj i hi).elim id fun hb => by simp [hnot] at hb
      · exact ⟨[], [j], rest, rfl, by simp, by simp, by simp, by simpa using hkind, hqueued⟩
      · exact ⟨[], [], j :: rest, rfl, by simp, by simp, by simp, by simp, List.forall_mem_cons.mpr ⟨hkind, hqueued⟩⟩

/-- Behind a job that is not RENDERING every job is QUEUED. -/
theorem queued_behind {a b : List Job} (h : (a ++ j :: b).Pairwise Job.MayPrecede)
    (hj : (Job.renderingPlan? j).isSome = false) : ∀ x ∈ b, x.queued = true := fun x hx => by
  obtain ⟨-, hb, -⟩ := List.pairwise_append.mp h
  exact ((List.pairwise_cons.mp hb).1 x hx).elim id fun hr => by simp [hj] at hr

/-- No job behind the first one is RENDERING. -/
theorem not_rendering_behind (h : (j :: rest).Pairwise Job.MayPrecede) :
    ∀ x ∈ rest, (Job.renderingPlan? x).isSome = false := fun x hx =>
  ((List.pairwise_cons.mp h).1 x hx).not_rendering

/-- A RENDERING job stands first. -/
theorem Channel.isSome_renderingPlan?_iff (h : c.jobs.Pairwise Job.MayPrecede) :
    c.renderingPlan?.isSome = true ↔ ∃ j ∈ c.jobs, (Job.renderingPlan? j).isSome = true := by
  cases hjobs : c.jobs with
  | nil => simp [Channel.renderingPlan?, hjobs]
  | cons j rest =>
    have hrest := not_rendering_behind (hjobs ▸ h)
    simp only [Channel.renderingPlan?, hjobs, List.head?_cons, Option.bind_some, List.exists_mem_cons_iff]
    exact ⟨.inl, fun hx => hx.elim id fun ⟨x, hx, hr⟩ => by simp [hrest x hx] at hr⟩

/-- A job's place is taken by one that may stand there. -/
theorem mayPrecede_replace {a b : List Job} {new : Job} (h : (a ++ j :: b).Pairwise Job.MayPrecede)
    (ha : ∀ x ∈ a, x.MayPrecede new) (hb : ∀ x ∈ b, x.queued = true) : (a ++ new :: b).Pairwise Job.MayPrecede := by
  obtain ⟨hpa, hpb, hab⟩ := List.pairwise_append.mp h
  refine List.pairwise_append.mpr ⟨hpa, List.pairwise_cons.mpr ⟨fun x hx => .inl (hb x hx), (List.pairwise_cons.mp hpb).2⟩,
    fun x hx y hy => ?_⟩
  rcases List.mem_cons.mp hy with rfl | hy
  · exact ha x hx
  · exact .inl (hb y hy)

theorem removeFirst_eq_eraseP (test : Job → Bool) (jobs : List Job) : removeFirst test jobs = jobs.eraseP test := by
  induction jobs with
  | nil => rfl
  | cons j rest ih => simp only [removeFirst, List.eraseP_cons, ih, Bool.cond_eq_ite]

theorem removeFirst_sublist (test : Job → Bool) (jobs : List Job) : (removeFirst test jobs).Sublist jobs := by
  rw [removeFirst_eq_eraseP]; exact List.eraseP_sublist

theorem removeLast_sublist (test : Job → Bool) (jobs : List Job) : (removeLast test jobs).Sublist jobs := by
  have h := (removeFirst_sublist test jobs.reverse).reverse
  rwa [List.reverse_reverse] at h

theorem mem_removeFirst {test : Job → Bool} {jobs : List Job} (hj : test j = false) (h : j ∈ jobs) :
    j ∈ removeFirst test jobs := by
  rw [removeFirst_eq_eraseP]
  exact (List.mem_eraseP_of_neg (by simp [hj])).mpr h

theorem mem_removeLast {test : Job → Bool} {jobs : List Job} (hj : test j = false) (h : j ∈ jobs) :
    j ∈ removeLast test jobs :=
  List.mem_reverse.mpr (mem_removeFirst hj (List.mem_reverse.mpr h))

end Sys2Proof.Machine
end

section
/-! PROOFS. Channels, planner and engine in agreement, channel by channel: what fits together in one record, and the changes of a
record that keep it so (R88, R124, R148, R149, R152, R167). -/

set_option Elab.async false

namespace Sys2Proof.Machine

variable {planning banded : Prop} {c c' : Channel} {j new : Job} {a b : List Job} {r r' : Rendering} {s t u : State}
  {k : Fin 4}

/-! ### One channel -/

/-- A channel's record as the spec has it beside planner and engine: `planning` says that the planner plans a job of it,
`banded` that the engine holds a band of it. -/
structure Channel.Fits (planning banded : Prop) (c : Channel) : Prop where
  shaped : c.jobs.Pairwise Job.MayPrecede
  off : c.enabled = false → ∀ j ∈ c.jobs, j.queued = true
  record : c.rendering.isSome = true ↔ ∃ j ∈ c.jobs, (Job.renderingPlan? j).isSome = true
  planner : planning ↔ ∃ j ∈ c.jobs, (Job.planningSnap? j).isSome = true
  engine : banded ↔ ∃ r, c.rendering = some r ∧ r.inFlight = true

/-- The stall timer runs only while the channel waits on its press (R167). -/
def Channel.TimerFits (c : Channel) : Prop := c.stallTimer.isSome = true → c.pressWait.isSome = true

/-- The rendering record is that of a first job that is RENDERING. -/
theorem Channel.Fits.record_iff (h : c.Fits planning banded) :
    c.rendering.isSome = true ↔ c.renderingPlan?.isSome = true :=
  h.record.trans (Channel.isSome_renderingPlan?_iff h.shaped).symm

/-- The statement's invariant, channel by channel. -/
theorem State.channelsSound_iff :
    s.channelsSound ↔ ∀ k, (s.channel k).Fits (s.pln.planning = some k) (s.ce.map Band.channel = some k)
      ∧ (s.channel k).TimerFits := by
  refine forall_congr' fun k => ⟨?_, ?_⟩
  · rintro ⟨hshape, hoff, hrecord, hplanner, hengine, htimer⟩
    have hshaped := jobsShaped_iff.mp hshape
    exact ⟨⟨hshaped, hoff, hrecord.trans (Channel.isSome_renderingPlan?_iff hshaped), hplanner, hengine⟩, htimer⟩
  · rintro ⟨hfits, htimer⟩
    exact ⟨jobsShaped_iff.mpr hfits.shaped, hfits.off, hfits.record_iff, hfits.planner, hfits.engine, htimer⟩

theorem State.channelsSound.fits (h : s.channelsSound) (k : Fin 4) :
    (s.channel k).Fits (s.pln.planning = some k) (s.ce.map Band.channel = some k) := (State.channelsSound_iff.mp h k).1

theorem State.channelsSound.timer (h : s.channelsSound) (k : Fin 4) : (s.channel k).TimerFits :=
  (State.channelsSound_iff.mp h k).2

/-- A settled timer runs only while the record waits. -/
theorem Channel.timerFits_settled (before c : Channel) :
    Channel.TimerFits { c with stallTimer := settleTimer before c } := fun h => by
  change c.pressWait.isSome = true
  cases hw : c.pressWait with
  | none => rw [settleTimer_of_no_wait hw] at h; cases h
  | some w => rfl

/-! ### Jobs of one kind -/

theorem Job.isSome_renderingPlan?_of_queued (h : j.queued = true) : (Job.renderingPlan? j).isSome = false := by
  simp [Job.renderingPlan?, Job.queued_iff.mp h]

theorem Job.isSome_planningSnap?_of_queued (h : j.queued = true) : (Job.planningSnap? j).isSome = false := by
  simp [Job.planningSnap?, Job.queued_iff.mp h]

theorem Job.isSome_planningSnap?_of_rendering (h : (Job.renderingPlan? j).isSome = true) :
    (Job.planningSnap? j).isSome = false := by
  obtain ⟨p, hp⟩ := Job.isSome_renderingPlan?.mp h
  simp [Job.planningSnap?, hp]

theorem Job.isSome_renderingPlan?_of_inPlan (h : j.inPlan = true) : (Job.renderingPlan? j).isSome = false := by
  simp only [Job.inPlan, Bool.and_eq_true] at h
  simpa using h.2

/-- Some job of a list is of a kind: one picked out, or one of the others. -/
theorem exists_mem_insert {test : Job → Bool} :
    (∃ x ∈ a ++ j :: b, test x = true) ↔ test j = true ∨ ∃ x ∈ a ++ b, test x = true := by
  simp only [List.mem_append, List.mem_cons, or_and_right, exists_or, exists_eq_left, or_left_comm]

/-! ### Changes of a record -/

/-- Jobs, rendering record and the enabling decide. -/
theorem Channel.Fits.congr (h : c.Fits planning banded) (hjobs : c'.jobs = c.jobs := by rfl)
    (hon : c'.enabled = c.enabled := by rfl) (hr : c'.rendering = c.rendering := by rfl) : c'.Fits planning banded := by
  obtain ⟨hshaped, hoff, hrecord, hplanner, hengine⟩ := h
  exact ⟨hjobs ▸ hshaped, by rwa [hjobs, hon], by rwa [hjobs, hr], by rwa [hjobs], by rwa [hr]⟩

theorem Channel.Fits.congr_iff {planning' banded' : Prop} (h : c.Fits planning banded) (hp : planning' ↔ planning)
    (hb : banded' ↔ banded) : c.Fits planning' banded' :=
  ⟨h.shaped, h.off, h.record, hp.trans h.planner, hb.trans h.engine⟩

/-- The rendering record of the page changes, `banded'` saying whether a band is then in flight. -/
theorem Channel.Fits.setRendering {banded' : Prop} (h : c.Fits planning banded) (hr : c.rendering = some r)
    (hr' : c'.rendering = some r') (hb : banded' ↔ r'.inFlight = true) (hjobs : c'.jobs = c.jobs := by rfl)
    (hon : c'.enabled = c.enabled := by rfl) : c'.Fits planning banded' := by
  obtain ⟨hshaped, hoff, hrecord, hplanner, -⟩ := h
  refine ⟨hjobs ▸ hshaped, by rwa [hjobs, hon], ?_, by rwa [hjobs], hb.trans ?_⟩
  · rw [hjobs, ← hrecord, hr, hr', Option.isSome_some, Option.isSome_some]
  · simp [hr']

theorem Channel.Fits.inFlight_iff (h : c.Fits planning banded) (hr : c.rendering = some r) :
    banded ↔ r.inFlight = true := by
  simp [h.engine, hr]

/-- The rendering record changes with the band in flight, or none, as it was. -/
theorem Channel.Fits.updateRendering (h : c.Fits planning banded) (hr : c.rendering = some r)
    (hr' : c'.rendering = some r') (hflight : r'.inFlight = r.inFlight := by rfl) (hjobs : c'.jobs = c.jobs := by rfl)
    (hon : c'.enabled = c.enabled := by rfl) : c'.Fits planning banded :=
  h.setRendering hr hr' (by rw [h.inFlight_iff hr, hflight]) hjobs hon

/-- A list that holds QUEUED jobs alone fits an enabled channel and a disabled one. -/
theorem Channel.Fits.setEnabled (h : c.Fits planning banded) (hq : ∀ j ∈ c.jobs, j.queued = true)
    (hjobs : c'.jobs = c.jobs := by rfl) (hr : c'.rendering = c.rendering := by rfl) : c'.Fits planning banded := by
  obtain ⟨hshaped, -, hrecord, hplanner, hengine⟩ := h
  exact ⟨hjobs ▸ hshaped, fun _ => by rwa [hjobs], by rwa [hjobs, hr], by rwa [hjobs], by rwa [hr]⟩

/-- QUEUED jobs leave the list. -/
theorem Channel.Fits.dropQueued (h : c.Fits planning banded) (hsub : c'.jobs.Sublist c.jobs)
    (hkeep : ∀ x ∈ c.jobs, x.queued = false → x ∈ c'.jobs) (hon : c'.enabled = c.enabled := by rfl)
    (hr : c'.rendering = c.rendering := by rfl) : c'.Fits planning banded := by
  have hsame {test : Job → Bool} (htest : ∀ x : Job, x.queued = true → test x = false) :
      (∃ x ∈ c.jobs, test x = true) ↔ ∃ x ∈ c'.jobs, test x = true := by
    refine ⟨fun ⟨x, hx, hj⟩ => ⟨x, hkeep x hx ?_, hj⟩, fun ⟨x, hx, hj⟩ => ⟨x, hsub.subset hx, hj⟩⟩
    exact Bool.eq_false_iff.mpr fun hq => by simp [htest x hq] at hj
  obtain ⟨hshaped, hoff, hrecord, hplanner, hengine⟩ := h
  refine ⟨hshaped.sublist hsub, fun hc x hx => hoff (hon ▸ hc) x (hsub.subset hx), ?_, ?_, by rwa [hr]⟩
  · rw [hr, hrecord, hsame fun _ => Job.isSome_renderingPlan?_of_queued]
  · rw [hplanner, hsame fun _ => Job.isSome_planningSnap?_of_queued]

/-- A QUEUED job joins the end of the list (R153). -/
theorem Channel.Fits.append (h : c.Fits planning banded) (hj : j.queued = true) (hjobs : c'.jobs = c.jobs ++ [j])
    (hon : c'.enabled = c.enabled := by rfl) (hr : c'.rendering = c.rendering := by rfl) : c'.Fits planning banded := by
  have hsame {test : Job → Bool} (htest : test j = false) :
      (∃ x ∈ c'.jobs, test x = true) ↔ ∃ x ∈ c.jobs, test x = true := by
    simp [hjobs, or_and_right, exists_or, htest]
  obtain ⟨hshaped, hoff, hrecord, hplanner, hengine⟩ := h
  refine ⟨?_, fun hc x hx => ?_, ?_, ?_, by rwa [hr]⟩
  · rw [hjobs]
    exact List.pairwise_append.mpr ⟨hshaped, List.pairwise_singleton _ _, fun x _ y hy => .inl (by simp_all)⟩
  · rw [hjobs] at hx
    rcases List.mem_append.mp hx with hx | hx
    · exact hoff (hon ▸ hc) x hx
    · simp_all
  · rw [hr, hrecord, hsame (Job.isSome_renderingPlan?_of_queued hj)]
  · rw [hplanner, hsame (Job.isSome_planningSnap?_of_queued hj)]

/-- The first job leaves the list with its rendering record, no band being in flight (R164, step 4). -/
theorem Channel.Fits.dropFirst (h : c.Fits planning banded) (hidle : ¬ banded) (hjobs : c.jobs = j :: b)
    (hj : (Job.planningSnap? j).isSome = false) (hjobs' : c'.jobs = b) (hr : c'.rendering = none)
    (hon : c'.enabled = c.enabled := by rfl) : c'.Fits planning banded := by
  obtain ⟨hshaped, hoff, -, hplanner, -⟩ := h
  rw [hjobs] at hshaped hoff hplanner
  have hlater := not_rendering_behind hshaped
  refine ⟨?_, fun hc x hx => hoff (hon ▸ hc) x (List.mem_cons_of_mem _ (hjobs' ▸ hx)), ?_, ?_, ?_⟩
  · rw [hjobs']; exact (List.pairwise_cons.mp hshaped).2
  · rw [hr, hjobs']
    refine iff_of_false (by simp) fun ⟨x, hx, hrendering⟩ => ?_
    simp [hlater x hx] at hrendering
  · rw [hplanner, hjobs']
    simp [hj]
  · exact iff_of_false hidle fun ⟨r, hsome, _⟩ => by simp [hr] at hsome

/-- A QUEUED job behind RENDERING ones enters PLANNING (R92). -/
theorem Channel.Fits.begin (h : c.Fits planning banded) (hon : c.enabled = true) (hjobs : c.jobs = a ++ j :: b)
    (ha : ∀ x ∈ a, (Job.renderingPlan? x).isSome = true) (hj : j.queued = true)
    (hnew : (Job.planningSnap? new).isSome = true) (hjobs' : c'.jobs = a ++ new :: b)
    (hon' : c'.enabled = c.enabled := by rfl) (hr : c'.rendering = c.rendering := by rfl) : c'.Fits True banded := by
  obtain ⟨hshaped, -, hrecord, -, hengine⟩ := h
  rw [hjobs] at hshaped hrecord
  have hplan := Job.inPlan_of_planningSnap? hnew
  have hbehind := queued_behind hshaped (Job.isSome_renderingPlan?_of_queued hj)
  refine ⟨?_, fun hc => by simp [hon', hon] at hc, ?_, ?_, by rwa [hr]⟩
  · rw [hjobs']
    exact mayPrecede_replace hshaped (fun x hx => .inr ⟨ha x hx, hplan⟩) hbehind
  · rw [hr, hrecord, hjobs', exists_mem_insert, exists_mem_insert, Job.isSome_renderingPlan?_of_queued hj,
      Job.isSome_renderingPlan?_of_inPlan hplan]
  · rw [hjobs']
    exact iff_of_true trivial ⟨new, by simp, hnew⟩

/-- The job in PLANNING becomes PLANNED (R104). -/
theorem Channel.Fits.complete (h : c.Fits planning banded) (hjobs : c.jobs = a ++ j :: b)
    (hj : (Job.planningSnap? j).isSome = true) {p : Plan} (hnew : new.stage = .planned p)
    (hjobs' : c'.jobs = a ++ new :: b) (hon : c'.enabled = c.enabled := by rfl)
    (hr : c'.rendering = c.rendering := by rfl) : c'.Fits False banded := by
  obtain ⟨hshaped, hoff, hrecord, -, hengine⟩ := h
  rw [hjobs] at hshaped hoff hrecord
  have hplan := Job.inPlan_of_planningSnap? hj
  have hplan' := Job.inPlan_of_planned hnew
  have hbehind := queued_behind hshaped (Job.isSome_renderingPlan?_of_inPlan hplan)
  have hbefore : ∀ x ∈ a, (Job.renderingPlan? x).isSome = true := fun x hx => by
    obtain ⟨-, -, hprecede⟩ := List.pairwise_append.mp hshaped
    refine (hprecede x hx j List.mem_cons_self).elim (fun hq => ?_) And.left
    simp [Job.isSome_planningSnap?_of_queued hq] at hj
  refine ⟨?_, fun hc => ?_, ?_, ?_, by rwa [hr]⟩
  · rw [hjobs']
    exact mayPrecede_replace hshaped (fun x hx => .inr ⟨hbefore x hx, hplan'⟩) hbehind
  · have hq := hoff (hon ▸ hc) j (by simp)
    simp [Job.isSome_planningSnap?_of_queued hq] at hj
  · rw [hr, hrecord, hjobs', exists_mem_insert, exists_mem_insert, Job.isSome_renderingPlan?_of_inPlan hplan,
      Job.isSome_renderingPlan?_of_inPlan hplan']
  · have hothers : ∀ x ∈ a ++ b, (Job.planningSnap? x).isSome = false := fun x hx =>
      (List.mem_append.mp hx).elim (fun hx => Job.isSome_planningSnap?_of_rendering (hbefore x hx))
        fun hx => Job.isSome_planningSnap?_of_queued (hbehind x hx)
    rw [hjobs', exists_mem_insert]
    refine iff_of_false id (not_or.mpr ⟨by simp [Job.planningSnap?, hnew], fun ⟨x, hx, hplanning⟩ => ?_⟩)
    simp [hothers x hx] at hplanning

/-- A release keeps the record fitting: an ARMED channel's job becomes RENDERING with its record, and a PAUSED one has more
bands released (R157). -/
theorem Channel.Fits.afterRelease (h : c.Fits planning banded) (hneeded : c.releaseNeeded = true)
    (damaged : Nat → Bool) : (c.afterRelease damaged).Fits planning banded := by
  rcases Channel.releaseNeeded_iff.mp hneeded with harmed | hpaused
  · obtain ⟨hon, j, rest, p, hjobs, hj⟩ := Channel.armed_iff.mp harmed
    have hplan := Job.inPlan_of_planned hj
    obtain ⟨hshaped, -, hrecord, hplanner, hengine⟩ := h
    rw [hjobs] at hshaped hrecord hplanner
    have hbehind : ∀ x ∈ rest, x.queued = true :=
      queued_behind (a := []) hshaped (Job.isSome_renderingPlan?_of_inPlan hplan)
    have hnone : c.rendering = none := by
      rw [← Option.not_isSome_iff_eq_none, hrecord]
      rintro ⟨x, hx, hr⟩
      rcases List.mem_cons.mp hx with rfl | hx
      · simp [Job.isSome_renderingPlan?_of_inPlan hplan] at hr
      · simp [Job.isSome_renderingPlan?_of_queued (hbehind x hx)] at hr
    rw [Channel.afterRelease_planned damaged hjobs hj]
    refine ⟨List.pairwise_cons.mpr ⟨fun x hx => .inl (hbehind x hx), (List.pairwise_cons.mp hshaped).2⟩,
      fun hc => absurd (hc.symm.trans hon) Bool.noConfusion, iff_of_true rfl ⟨_, List.mem_cons_self, rfl⟩, ?_, ?_⟩
    · rw [hplanner]
      simp [Job.planningSnap?, hj]
    · rw [hengine, hnone]
      simp [freshRendering]
  · obtain ⟨-, p, r, hp, hr⟩ := Channel.rendering_of_state (.inl hpaused)
    obtain ⟨j, rest, hjobs, hj⟩ := Channel.renderingPlan?_eq_some hp
    rw [Channel.afterRelease_rendering damaged hjobs hj hr]
    exact h.updateRendering hr rfl (Rendering.raise_inFlight _ _ _ _)

/-! ### RENDERING jobs flagged (R184) -/

section Flags

variable (test : Nat → Bool)

@[simp] theorem queued_flagRendering (j : Job) : (flagRendering test j).queued = j.queued := by
  cases hs : j.stage <;> simp [flagRendering, hs, Job.queued]

@[simp] theorem renderingPlan?_flagRendering (j : Job) :
    (flagRendering test j).renderingPlan? = j.renderingPlan?.map (fun p => p.flagDamage test) := by
  cases hs : j.stage <;> simp [flagRendering, hs, Job.renderingPlan?]

@[simp] theorem planningSnap?_flagRendering (j : Job) : (flagRendering test j).planningSnap? = j.planningSnap? := by
  cases hs : j.stage <;> simp [flagRendering, hs, Job.planningSnap?]

@[simp] theorem plannedPlan?_flagRendering (j : Job) : (flagRendering test j).plannedPlan? = j.plannedPlan? := by
  cases hs : j.stage <;> simp [flagRendering, hs, Job.plannedPlan?]

theorem Job.MayPrecede.flagRendering {i : Job} (h : i.MayPrecede j) :
    (flagRendering test i).MayPrecede (flagRendering test j) := by
  simpa [Job.MayPrecede, Job.inPlan, Job.inFlight] using h

/-- A channel's RENDERING jobs with the cells of damaged handles flagged. -/
def Channel.flagged (c : Channel) : Channel := { c with jobs := c.jobs.map (flagRendering test) }

theorem Channel.Fits.flagged (h : c.Fits planning banded) : (c.flagged test).Fits planning banded := by
  obtain ⟨hshaped, hoff, hrecord, hplanner, hengine⟩ := h
  refine ⟨List.pairwise_map.mpr (hshaped.imp fun h => h.flagRendering test), fun hc x hx => ?_, hrecord.trans ?_,
    hplanner.trans ?_, hengine⟩
  · obtain ⟨y, hy, rfl⟩ := List.mem_map.mp hx
    rw [queued_flagRendering]
    exact hoff hc y hy
  · simp [Channel.flagged]
  · simp [Channel.flagged]

/-- The flags change nothing of what a channel waits for. -/
theorem Channel.pressWait_flagged (c : Channel) : (c.flagged test).pressWait = c.pressWait := by
  have hrendering : (c.flagged test).renderingPlan? = c.renderingPlan?.map (fun p => p.flagDamage test) := by
    cases hjobs : c.jobs with
    | nil => simp [Channel.flagged, Channel.renderingPlan?, hjobs]
    | cons j rest => simp [Channel.flagged, Channel.renderingPlan?, hjobs]
  have hplanned : (c.flagged test).plannedPlan? = c.plannedPlan? := by
    cases hjobs : c.jobs with
    | nil => simp [Channel.flagged, Channel.plannedPlan?, hjobs]
    | cons j rest => simp [Channel.flagged, Channel.plannedPlan?, hjobs]
  have hstate : (c.flagged test).state = c.state := by
    cases hp : c.renderingPlan? <;> cases hr : c.rendering <;>
      simp [Channel.state, hrendering, hplanned, hp, show (c.flagged test).rendering = c.rendering from rfl, hr,
        show (c.flagged test).enabled = c.enabled from rfl]
  unfold Channel.pressWait
  rw [hstate, hrendering, hplanned]
  cases c.renderingPlan? <;> rfl

end Flags

/-! ### The part -/

/-- Channels, planner and engine decide. -/
theorem State.channelsSound.of_same (h : s.channelsSound) (hpch : t.pch = s.pch) (hpln : t.pln.planning = s.pln.planning)
    (hce : t.ce.map Band.channel = s.ce.map Band.channel) : t.channelsSound :=
  State.channelsSound_iff.mpr fun k => by
    rw [State.channel_congr _ _ k hpch, hpln, hce]
    exact State.channelsSound_iff.mp h k

theorem Touches.ce {blocks : List Block} (h : Touches blocks s t) (hc : .ce ∉ blocks := by decide) : t.ce = s.ce := by
  obtain ⟨-, -, -, -, hsame⟩ := h
  exact hsame .ce (by simpa using hc)

/-- An operation that touches neither channels nor planner nor engine. -/
theorem State.channelsSound.touched (h : s.channelsSound) {blocks : List Block} (ht : Touches blocks s t)
    (hpch : .pch ∉ blocks := by decide) (hpln : .pln ∉ blocks := by decide) (hce : .ce ∉ blocks := by decide) :
    t.channelsSound :=
  h.of_same (ht.pch hpch) (by rw [ht.pln hpln]) (by rw [ht.ce hce])

/-- A channel takes a record, `u` being the part before it with planner and engine as they are for the other channels. -/
theorem State.channelsSound.settled (h : s.channelsSound) (hothers : ∀ i, i ≠ k → u.channel i = s.channel i)
    (hpln : ∀ i, i ≠ k → (u.pln.planning = some i ↔ s.pln.planning = some i))
    (hce : ∀ i, i ≠ k → (u.ce.map Band.channel = some i ↔ s.ce.map Band.channel = some i))
    (hc : c.Fits (u.pln.planning = some k) (u.ce.map Band.channel = some k)) : (u.putChannel k c).channelsSound :=
  State.channelsSound_iff.mpr fun i => by
    by_cases hi : i = k
    · subst hi
      rw [State.channel_putChannel, if_pos rfl]
      exact ⟨hc.congr, Channel.timerFits_settled _ _⟩
    · rw [State.channel_putChannel, if_neg hi, hothers i hi]
      exact ⟨(h.fits i).congr_iff (hpln i hi) (hce i hi), h.timer i⟩

theorem State.channelsSound.putChannel (h : s.channelsSound)
    (hc : c.Fits (s.pln.planning = some k) (s.ce.map Band.channel = some k)) : (s.putChannel k c).channelsSound :=
  h.settled (fun _ _ => rfl) (fun _ _ => .rfl) (fun _ _ => .rfl) hc

/-- A channel takes a record after an operation that touches neither channels nor planner nor engine. -/
theorem State.channelsSound.touched_putChannel (h : s.channelsSound) {blocks : List Block} (ht : Touches blocks s u)
    (hc : c.Fits (s.pln.planning = some k) (s.ce.map Band.channel = some k)) (hpch : .pch ∉ blocks := by decide)
    (hpln : .pln ∉ blocks := by decide) (hce : .ce ∉ blocks := by decide) : (u.putChannel k c).channelsSound :=
  (h.touched ht hpch hpln hce).putChannel (by rwa [ht.pln hpln, ht.ce hce])

end Sys2Proof.Machine
end

section
/-! PROOFS. Every step keeps channels, planner and engine in agreement (O59): the channel orders, the planning commands, the
engine's, and every end of a page. -/

set_option Elab.async false

namespace Sys2Proof.Machine

variable {s t u : State} {k : Fin 4} {c : Channel}

/-! ### Channel orders (R150 to R160) -/

theorem State.channelsSound.ok (h : s.channelsSound) (f : Sender) (fields : Bytes) : (s.ok f fields).channelsSound :=
  h.touched (s.touches_ok f fields)

theorem State.channelsSound.refuse (h : s.channelsSound) (f : Sender) (status : Status) :
    (s.refuse f status).channelsSound := h.touched (s.touches_refuse f status)

/-- An order is answered and its channel takes a record. -/
theorem State.channelsSound.ok_putChannel (h : s.channelsSound) (f : Sender) (fields : Bytes)
    (hc : c.Fits (s.pln.planning = some k) (s.ce.map Band.channel = some k)) :
    ((s.ok f fields).putChannel k c).channelsSound := h.touched_putChannel (s.touches_ok f fields) hc

theorem State.channelsSound.setPort (h : s.channelsSound) (p : Port) (v : PortState) : (s.setPort p v).channelsSound :=
  h.of_same (by simp) (by simp) (by simp)

theorem State.channelsSound.foldl {α : Type} {f : State → α → State} (h : s.channelsSound)
    (hf : ∀ {s : State}, s.channelsSound → ∀ a, (f s a).channelsSound) (l : List α) : (l.foldl f s).channelsSound :=
  List.foldlRecOn _ _ h fun _ hs a _ => hf hs a

theorem State.channelsSound.takeRelease (h : s.channelsSound) (k : Fin 4) : (s.takeRelease k).channelsSound := by
  rw [State.takeRelease_eq]
  split
  · next hneeded => exact h.putChannel ((h.fits k).afterRelease hneeded.2 _)
  · exact h

theorem State.channelsSound.trigger (h : s.channelsSound) (k : Fin 4) : (s.trigger k).channelsSound :=
  (h.putChannel (h.fits k).congr).takeRelease k

theorem State.channelsSound.takeTrigger (h : s.channelsSound) (f : Sender) (k : Fin 4) (applies : Bool) :
    (s.takeTrigger f k applies).channelsSound := by
  unfold State.takeTrigger
  extract_lets c
  split
  · exact (h.ok f _).trigger k
  · exact h.refuse f _

theorem State.channelsSound.configureChannel (h : s.channelsSound) (f : Sender) (k : Fin 4) (payload : Bytes) :
    (s.configureChannel f k payload).channelsSound := by
  unfold State.configureChannel
  extract_lets c
  split
  · exact h.refuse f _
  split
  · exact h.refuse f _
  · exact h.ok_putChannel f _ (h.fits k).congr

theorem State.channelsSound.enableChannel (h : s.channelsSound) (f : Sender) (k : Fin 4) :
    (s.enableChannel f k).channelsSound := by
  unfold State.enableChannel
  split
  · exact h.ok f _
  · next hoff => exact h.ok_putChannel f _ ((h.fits k).setEnabled ((h.fits k).off (by simpa using hoff)))

theorem State.channelsSound.disableChannel (h : s.channelsSound) (f : Sender) (k : Fin 4) :
    (s.disableChannel f k).channelsSound := by
  unfold State.disableChannel
  extract_lets c
  split
  · exact h.ok f _
  · split
    · next hnone => exact h.ok_putChannel f _ ((h.fits k).setEnabled (by simp [show (s.channel k).jobs = [] from hnone]))
    · exact h.refuse f _
  · exact h.refuse f _

theorem State.channelsSound.queuePage (h : s.channelsSound) (f : Sender) (k : Fin 4) (classNo page copies : Nat) :
    (s.queuePage f k classNo page copies).channelsSound := by
  unfold State.queuePage
  extract_lets c
  split_ifs
  · exact h.refuse f _
  · exact h.refuse f _
  · exact h.refuse f _
  · exact h.ok_putChannel f _ ((h.fits k).append (j := ⟨classNo, page, copies, .queued⟩) rfl rfl)

theorem State.channelsSound.cancelPage (h : s.channelsSound) (f : Sender) (k : Fin 4) (classNo page : Nat) :
    (s.cancelPage f k classNo page).channelsSound := by
  unfold State.cancelPage
  extract_lets c named target
  split_ifs
  · exact h.refuse f _
  · refine h.ok_putChannel f _ ((h.fits k).dropQueued (removeLast_sublist _ _) fun j hj hq => mem_removeLast ?_ hj)
    simp [target, hq]
  · exact h.refuse f _
  · exact h.refuse f _

theorem State.channelsSound.grantBands (h : s.channelsSound) (f : Sender) (k : Fin 4) (n : Nat) :
    (s.grantBands f k n).channelsSound := by
  unfold State.grantBands
  extract_lets c credits
  split
  · exact h.refuse f _
  split
  · exact h.refuse f _
  · exact h.ok_putChannel f _ (h.fits k).congr

/-! ### Delete Class (R36) -/

theorem State.channelsSound.removeQueued (h : s.channelsSound) (classNo : Nat) (k : Fin 4) :
    (s.removeQueued classNo k).channelsSound := by
  rw [State.removeQueued_eq]
  refine h.touched_putChannel (s.touches_deletionNotices classNo k)
    ((h.fits k).dropQueued List.filter_sublist fun j hj hq => List.mem_filter.mpr ⟨hj, ?_⟩)
  simp [Job.queuedOf, hq]

theorem State.channelsSound.deleteClass (h : s.channelsSound) (f : Sender) (classNo : Nat) :
    (s.deleteClass f classNo).channelsSound := by
  by_cases hc : 511 < classNo
  · rw [State.deleteClass_badField _ _ hc]; exact h.refuse f _
  by_cases hs : (s.classAt classNo).state = .empty
  · rw [State.deleteClass_notFound _ _ (not_lt.mp hc) hs]; exact h.refuse f _
  rcases Nat.eq_zero_or_pos (s.classAt classNo).inFlight with hn | hn
  · rw [State.deleteClass_accepted _ _ (not_lt.mp hc) hs hn]
    exact ((h.ok f []).foldl (fun hs k => hs.removeQueued classNo k) fours).touched (State.touches_emptied _)
  · rw [State.deleteClass_busy _ _ (not_lt.mp hc) hs hn]; exact h.refuse f _

/-! ### Ends of pages (R164 to R167) -/

theorem State.channelsSound.recordPageDone (h : s.channelsSound) (k : Fin 4) (d : PageDone) :
    (s.recordPageDone k d).channelsSound :=
  h.touched_putChannel (s.touches_notice (.p k) .pageDone (bytesPageDone d)) (h.fits k).congr

theorem State.channelsSound.chain_ (h : s.channelsSound) (k : Fin 4) : (s.chain_ k).channelsSound := by
  refine h.foldl (fun {s} hs j => ?_) fours
  extract_lets c flagged
  split
  · have hflagged : flagged.channelsSound := hs.putChannel (hs.fits j).congr
    split
    · exact hflagged
    · exact hflagged.takeRelease j
  · exact hs

/-- The page of a first job that is PLANNED, or RENDERING with no band in flight, ends. -/
theorem State.channelsSound.endPage (h : s.channelsSound) (p : Plan) (d : PageDone) {j : Job} {rest : List Job}
    (hidle : s.ce.map Band.channel ≠ some k) (hjobs : (s.channel k).jobs = j :: rest)
    (hj : (Job.planningSnap? j).isSome = false) : (s.endPage k p d).channelsSound := by
  have hdone := s.touches_recordPageDone k d
  have hreturned := (s.recordPageDone k d).touches_returnPlan p.snap
  have hsound := (h.recordPageDone k d).touched hreturned
  have hlist : (((s.recordPageDone k d).returnPlan p.snap).channel k).jobs = j :: rest := by
    rw [State.channel_congr _ _ k hreturned.pch, State.jobs_recordPageDone, hjobs]
  have hdropped : (((s.recordPageDone k d).returnPlan p.snap).dropFirstJob k).channelsSound :=
    hsound.putChannel ((hsound.fits k).dropFirst (by rwa [hreturned.ce, hdone.ce]) hlist hj (by simp [hlist]) rfl)
  unfold State.endPage
  extract_lets dropped chained
  refine State.channelsSound.takeRelease ?_ k
  simp only [chained]
  split
  · exact hdropped.chain_ k
  · exact hdropped

theorem State.channelsSound.endRendering (h : s.channelsSound) (hidle : s.ce.map Band.channel ≠ some k)
    (result : PageResult) : (s.endRendering k result).channelsSound := by
  unfold State.endRendering
  split
  · next p r hp _ =>
    obtain ⟨j, rest, hjobs, hj⟩ := Channel.renderingPlan?_eq_some hp
    exact h.endPage p _ hidle hjobs (by simp [Job.planningSnap?, hj])
  · exact h

/-- The engine holds no band of a channel that waits on its press. -/
theorem State.channelsSound.idle_of_pressWait (h : s.channelsSound) (hw : (s.channel k).pressWait.isSome = true) :
    s.ce.map Band.channel ≠ some k := fun hband => by
  obtain ⟨r, hr, hflight⟩ := (h.fits k).engine.mp hband
  have hidle := Channel.not_inFlight_of_pressWait hw (h.fits k).record_iff.mp hr
  exact absurd (hflight.symm.trans hidle) Bool.noConfusion

theorem State.channelsSound.stall (h : s.channelsSound) (hexpired : (s.channel k).stallTimer = some 0) :
    (s.stall k).channelsSound := by
  have hidle := h.idle_of_pressWait (h.timer k (by simp [hexpired]))
  unfold State.stall
  extract_lets c
  split
  · split
    · next p hp =>
      obtain ⟨j, rest, hjobs, hj⟩ := Channel.plannedPlan?_eq_some hp
      exact h.endPage p _ hidle hjobs (by simp [Job.planningSnap?, hj])
    · exact h
  · exact h.endRendering hidle _

theorem State.channelsSound.abortPage (h : s.channelsSound) (f : Sender) (k : Fin 4) :
    (s.abortPage f k).channelsSound := by
  unfold State.abortPage
  extract_lets c answered
  split
  · next p r _ hr =>
    split
    · exact h.ok_putChannel f _ ((h.fits k).updateRendering hr rfl)
    · next hflight =>
      refine (h.ok f []).endRendering ?_ _
      rw [(s.touches_ok f []).ce]
      exact fun hband => hflight (((h.fits k).inFlight_iff hr).mp hband)
  · exact h.ok_putChannel f _ (h.fits k).congr

/-! ### The channel reset (R108, R168) -/

theorem State.channel_abortRendering_of_ne {i : Fin 4} (hi : i ≠ k) : (s.abortRendering k).channel i = s.channel i := by
  unfold State.abortRendering
  split
  · rw [State.recordPageDone, State.channel_putChannel, if_neg hi, State.channel_congr _ _ i (s.touches_notice _ _ _).pch]
  · rfl

/-- The cleared record fits a planner and an engine that have nothing of the channel. -/
theorem Channel.fits_cleared (c : Channel) : c.cleared.Fits False False :=
  ⟨List.Pairwise.nil, fun _ _ hj => absurd hj List.not_mem_nil, by simp [Channel.cleared], by simp [Channel.cleared],
    by simp [Channel.cleared]⟩

theorem State.freePlanner_putChannel (s : State) (k : Fin 4) (c : Channel) :
    (s.putChannel k c).freePlanner k = (s.freePlanner k).putChannel k c := by
  unfold State.freePlanner
  split
  · next hp => rw [if_pos (by exact hp)]; rfl
  · next hp => rw [if_neg (by exact hp)]

theorem State.channelsSound.clearChannel (h : s.channelsSound) (k : Fin 4) (cause : CancelCause) :
    (s.clearChannel k cause).channelsSound := by
  unfold State.clearChannel
  extract_lets others cancelled
  have hcut := s.touches_cutBand k
  have haborted := (s.cutBand k).touches_abortRendering k
  have hnotices := ((s.cutBand k).abortRendering k).touches_cancelNotices k others cause
  have hfreed := cancelled.touches_freePlanner k
  have hpln : (cancelled.freePlanner k).pln.planning = if s.pln.planning = some k then none else s.pln.planning := by
    have hbefore : cancelled.pln = s.pln := hnotices.pln.trans (haborted.pln.trans hcut.pln)
    unfold State.freePlanner
    rw [hbefore]
    split
    · rfl
    · rw [hbefore]
  have hce : (cancelled.freePlanner k).ce.map Band.channel =
      if s.ce.map Band.channel = some k then none else s.ce.map Band.channel := by
    rw [hfreed.ce, show cancelled.ce = (s.cutBand k).ce from hnotices.ce.trans haborted.ce]
    unfold State.cutBand
    cases hb : s.ce with
    | none => simp [hb]
    | some b => by_cases hk : b.channel = k <;> simp [hb, hk]
  rw [State.freePlanner_putChannel]
  refine h.settled (fun i hi => ?_) (fun i hi => ?_) (fun i hi => ?_) ((Channel.fits_cleared _).congr_iff ?_ ?_)
  · rw [State.channel_congr _ _ i hfreed.pch, State.channel_congr _ _ i hnotices.pch,
      State.channel_abortRendering_of_ne hi, State.channel_congr _ _ i hcut.pch]
  · rw [hpln]
    split
    · next hp => simp [hp, Ne.symm hi]
    · rfl
  · rw [hce]
    split
    · next hb => simp [hb, Ne.symm hi]
    · rfl
  · rw [hpln]; split <;> simp [*]
  · rw [hce]; split <;> simp [*]

theorem State.channelsSound.resetChannel (h : s.channelsSound) (k : Fin 4) (cause : CancelCause)
    {giveBack : State → Snapshot → State} (hg : ∀ s p, Touches [.lt, .ru, .sc, .pdir, .gs] s (giveBack s p)) :
    (s.resetChannel k cause giveBack).channelsSound :=
  (h.clearChannel k cause).foldl (fun hs p => hs.touched (hg _ p)) _

/-! ### Faults (R181 to R184) -/

theorem State.channelsSound.flagPages (h : s.channelsSound) (handle : Nat) : (s.flagPages handle).channelsSound := by
  refine h.foldl (fun {s} hs k => State.channelsSound_iff.mpr fun i => ?_) fours
  rw [State.channel_setChannel]
  split
  · next hi =>
    subst hi
    refine ⟨(hs.fits i).flagged _, fun hrunning => ?_⟩
    exact (congrArg Option.isSome (Channel.pressWait_flagged _ _)).trans (hs.timer i hrunning)
  · exact State.channelsSound_iff.mp hs i

theorem State.channelsSound.takeFault (h : s.channelsSound) (kind : FaultKind) (cluster offset : Nat)
    (syndrome : BitVec 8) (channel : Option (Fin 4)) :
    (s.takeFault kind cluster offset syndrome channel).channelsSound := by
  have hcurrent (handle : Nat) : (s.currentFault handle cluster).channelsSound := by
    unfold State.currentFault
    split
    · exact h
    · extract_lets marked e damaged flagged payload
      have hmarked := h.touched (s.touches_markCluster cluster)
      have hdamaged : damaged.channelsSound := by
        simp only [damaged]
        split
        · exact hmarked.touched (State.touches_setEntry _ _ _)
        · exact hmarked
      exact (hdamaged.flagPages handle).touched ((State.touches_notice _ _ _ _).trans (State.touches_notice _ _ _ _))
  unfold State.takeFault
  simp only
  refine State.channelsSound.touched ?_ (State.touches_offerLog _ _)
  split
  · exact hcurrent _
  · exact h.touched (s.touches_pendingFault _ _)
  · exact h.touched (s.touches_uploadFault _ _)
  · split
    · exact h.touched ((s.touches_retireFree _).mono.trans (State.touches_coverReservations _ _))
    · exact h

theorem State.channelsSound.visit (h : s.channelsSound) (cluster : Nat) : (s.visit cluster).channelsSound := by
  refine h.foldl (fun {s} hs w => ?_) _
  unfold State.scrubWord
  split
  · exact hs
  · exact hs.touched ((s.touches_sel _).mono.trans (State.touches_sc _ _).mono : Touches [.sc, .sel] _ _)
  · exact hs.takeFault _ _ _ _ _

theorem State.channelsSound.scrub (h : s.channelsSound) : s.scrub.channelsSound := by
  unfold State.scrub
  split
  · exact (h.touched (s.touches_sel _)).visit _
  · extract_lets emptied
    have hemptied : emptied.channelsSound := h.touched (s.touches_sel _)
    split
    · exact (hemptied.touched (State.touches_sel _ _)).visit _
    · exact hemptied

/-! ### The engine (R124, R161 to R163) -/

theorem State.channelsSound.readForCell (h : s.channelsSound) (cell w : Nat) : (s.readForCell cell w).channelsSound := by
  have hread (k : Fin 4) : (s.renderRead k w).1.channelsSound := by
    unfold State.renderRead
    extract_lets held cluster
    split
    · exact h
    · exact h.touched ((s.touches_sel _).trans (State.touches_offerRescrub _ _))
    · exact h.takeFault _ _ _ _ _
  unfold State.readForCell
  split
  · exact h
  next b hb =>
  split
  · exact h
  · refine (hread b.channel).of_same rfl rfl ?_
    rw [(s.touches_renderRead b.channel w).ce, hb]
    rfl

theorem State.channelsSound.produceRow (h : s.channelsSound) (b : Band) : (s.produceRow b).channelsSound := by
  unfold State.produceRow
  extract_lets row read
  have hread : read.channelsSound := h.foldl (fun hs cw => hs.readForCell cw.1 cw.2) _
  split
  · exact hread
  · next b' hb' =>
    refine State.channelsSound.foldl ?_ (fun {s} hs payload => hs.touched (s.touches_notice _ _ payload)) _
    exact hread.of_same rfl rfl (by rw [hb']; rfl)

theorem State.channelsSound.grantEngine (h : s.channelsSound) (hfree : s.ce = none) (k : Fin 4) :
    (s.grantEngine k).channelsSound := by
  unfold State.grantEngine
  extract_lets c
  split
  · next p r _ hr =>
    extract_lets b granted
    refine State.channelsSound.touched ?_ (State.touches_notice _ _ _ _)
    refine h.settled (u := granted) (fun _ _ => rfl) (fun _ _ => .rfl) (fun i hi => ?_)
      ((h.fits k).setRendering hr rfl ?_)
    · simp [granted, b, State.newBand, hfree, Ne.symm hi]
    · simp [granted, b, State.newBand]
  · exact h

/-- The band of a channel has been sent: the engine is free and the channel goes on (R163). -/
theorem State.channelsSound.afterBand (h : s.channelsSound) (hband : s.ce.map Band.channel = some k) :
    ({ s with ce := none }.afterBand k).channelsSound := by
  obtain ⟨r, hr, -⟩ := (h.fits k).engine.mp hband
  obtain ⟨p, hp⟩ := Option.isSome_iff_exists.mp ((h.fits k).record_iff.mp (by simp [hr]))
  unfold State.afterBand
  extract_lets c
  simp only [show c.renderingPlan? = some p from hp, show c.rendering = some r from hr]
  have hsent : ({ s with ce := none }.putChannel k
      { c with rendering := some { r with inFlight := false } }).channelsSound :=
    h.settled (u := { s with ce := none }) (fun _ _ => rfl) (fun _ _ => .rfl) (fun i hi => by simp [hband, Ne.symm hi])
      ((h.fits k).setRendering hr rfl (by simp))
  generalize hv : ({ s with ce := none } : State).putChannel k
    { c with rendering := some { r with inFlight := false } } = v at hsent ⊢
  have hidle : v.ce.map Band.channel ≠ some k := by rw [← hv]; exact nofun
  have hrest : (v.channel k).rendering = some { r with inFlight := false } := by
    rw [← hv, State.channel_putChannel, if_pos rfl]
  split
  · exact hsent.endRendering hidle _
  split
  · split
    · exact hsent.endRendering hidle _
    · exact (hsent.putChannel ((hsent.fits k).updateRendering hrest rfl)).takeRelease k
  split
  · exact hsent.takeRelease k
  · exact hsent

/-- A row handed on, and the end of its band with it. -/
theorem State.channelsSound.row (h : s.channelsSound) (b : Band) :
    (if 0 < b.rowsLeft then s.produceRow b else s).endBandIfSent.channelsSound := by
  have hrow : (if 0 < b.rowsLeft then s.produceRow b else s).channelsSound := by
    split
    · exact h.produceRow b
    · exact h
  unfold State.endBandIfSent
  split
  · next b' hb' =>
    split
    · exact hrow.afterBand (by rw [hb']; rfl)
    · exact hrow
  · exact hrow

end Sys2Proof.Machine
end

section
/-! PROOFS. Every command keeps channels, planner and engine in agreement (O59): the planning commands, links, Hall Clear, idle
time, and the statement. -/

set_option Elab.async false

namespace Sys2Proof.Machine

variable {s t u : State} {k : Fin 4}

/-! ### The planning commands (R92, R96, R104) -/

/-- The job of a list in PLANNING is the first one of its kind. -/
theorem findSome?_planningSnap? {jobs : List Job} {p : Snapshot} (h : jobs.findSome? Job.planningSnap? = some p) :
    ∃ a j b, jobs = a ++ j :: b ∧ (∀ x ∈ a, Job.planningSnap? x = none) ∧ Job.planningSnap? j = some p := by
  obtain ⟨a, j, b, hjobs, hj, ha⟩ := List.findSome?_eq_some_iff.mp h
  exact ⟨a, j, b, hjobs, ha, hj⟩

theorem State.channelsSound.completePlanning (h : s.channelsSound) (hbusy : s.pln.planning = some k) :
    (s.completePlanning k).channelsSound := by
  obtain ⟨j, hmem, hplanning⟩ := (h.fits k).planner.mp hbusy
  cases hfound : (s.channel k).jobs.findSome? Job.planningSnap? with
  | none => simp [List.findSome?_eq_none_iff.mp hfound j hmem] at hplanning
  | some p =>
    obtain ⟨a, i, b, hjobs, ha, hi⟩ := findSome?_planningSnap? hfound
    simp only [State.completePlanning, hfound]
    refine State.channelsSound.takeRelease ?_ k
    refine h.settled (fun _ _ => rfl) (fun i hi => by simp [hbusy, Ne.symm hi]) (fun _ _ => .rfl) ?_
    refine ((h.fits k).complete (p := s.completePlan p) hjobs (by simp [hi])
      (new := ⟨p.classNo, p.page, p.copies, .planned (s.completePlan p)⟩) rfl ?_).congr_iff (by simp) .rfl
    rw [hjobs]
    exact replaceFirst_append (fun x hx => by simp [ha x hx]) (by simp [hi])

theorem State.channelsSound.numbered (h : s.channelsSound) (k : Fin 4) : (s.numbered k).channelsSound :=
  h.settled (fun _ _ => rfl) (fun _ _ => .rfl) (fun _ _ => .rfl) (h.fits k).congr

theorem State.channelsSound.endEmptyPage (h : s.channelsSound) (k : Fin 4) (p : Snapshot) :
    (s.endEmptyPage k p).channelsSound := by
  unfold State.endEmptyPage
  extract_lets d _ removed
  have hremoved : removed.channelsSound :=
    h.putChannel ((h.fits k).dropQueued (removeFirst_sublist _ _) fun _ hj hq => mem_removeFirst hq hj)
  refine State.channelsSound.recordPageDone ?_ k d
  exact hremoved.touched ((((removed.touches_setClass p.classNo _).mono.trans (State.touches_gs _ _).mono).trans
    (State.touches_lowerInFlight _ _).mono).trans (State.touches_lowerPages _).mono : Touches [.lt, .ru, .gs] _ _)

/-- The planner begins with the candidate of an enabled channel whose jobs before it are RENDERING. -/
theorem State.channelsSound.begun (h : s.channelsSound) (hfree : s.pln.planning = none)
    (hon : (s.channel k).enabled = true) {j : Job} (hc : (s.channel k).candidate = some j) (p : Snapshot) :
    (s.begun k j p).channelsSound := by
  obtain ⟨a, b, hjobs, ha, hq⟩ := Channel.candidate_eq_some_iff.mp hc
  refine h.settled (u := { s with pln := { s.pln with planning := some k } }) (fun _ _ => rfl)
    (fun i hi => by simp [hfree, Ne.symm hi]) (fun _ _ => .rfl) ?_
  refine ((h.fits k).begin hon hjobs ha (Job.queued_iff.mpr hq) (new := { j with stage := .planning p }) rfl
    ?_).congr_iff (by simp) .rfl
  rw [hjobs]
  exact replaceFirst_append (fun x hx => Job.queued_of_rendering (ha x hx)) (Job.queued_iff.mpr hq)

theorem State.planning_of_planningTurn (h : s.planningTurn = some k) : s.pln.planning = none := by
  unfold State.planningTurn at h
  split at h
  · cases h
  · next hp => exact hp

theorem State.channelsSound.startStep (h : s.channelsSound) (hturn : s.planningTurn = some k) :
    (s.startStep k).channelsSound := by
  obtain ⟨hon, -, -, j, hc, -⟩ := State.eligible_iff.mp (State.eligible_of_planningTurn hturn)
  cases hl : s.boundLayout j.classNo with
  | none => simpa only [State.startStep, hc, hl] using h
  | some nf =>
    obtain ⟨n, f⟩ := nf
    have htaken := (s.numbered k).touches_taken (s.snapshot k j n f)
    have hchannel : ((s.numbered k).taken (s.snapshot k j n f)).channel k = (s.numbered k).channel k :=
      State.channel_congr _ _ k htaken.pch
    rw [State.channel_numbered, if_pos rfl] at hchannel
    rw [State.startStep_eq hc hl]
    extract_lets p
    split
    · exact (h.numbered k).endEmptyPage k p
    · refine ((h.numbered k).touched htaken).begun ?_ (by rw [hchannel]; exact hon) (by rw [hchannel]; exact hc) p
      rw [htaken.pln, State.pln_numbered]
      exact State.planning_of_planningTurn hturn

/-! ### Links, power-on, Hall Clear and idle time -/

theorem State.channelsSound.linkDown (h : s.channelsSound) (p : Port) : (s.linkDown p).channelsSound := by
  unfold State.linkDown
  extract_lets _ down
  have hdown : down.channelsSound := h.setPort p _
  split
  · exact hdown.touched (State.touches_setWindow _ _)
  · exact hdown.touched (State.touches_abandonUploads _)
  · exact hdown.resetChannel _ _ State.touches_returnPlan

theorem State.channelsSound_powerOn (phase : Phase) (clock : Nat) (pending : List Instr) :
    (powerOn phase clock pending).channelsSound :=
  State.channelsSound_iff.mpr fun k => by
    have hoff : (powerOn phase clock pending).channel k = offChannel := by fin_cases k <;> rfl
    rw [hoff]
    exact ⟨(Channel.fits_cleared offChannel).congr.congr_iff (by simp [powerOn]) (by simp [powerOn]),
      fun h => absurd h (by simp [offChannel])⟩

theorem State.channelsSound.hallClear (h : s.channelsSound) : s.hallClear.channelsSound := by
  have hreset : (fours.foldl (fun s k => s.resetChannel k .hallClear State.returnPlanQuietly) s).channelsSound :=
    h.foldl (fun hs k => hs.resetChannel k _ fun s p => (s.touches_returnPlanQuietly p).mono) fours
  unfold State.hallClear
  generalize fours.foldl (fun s k => s.resetChannel k .hallClear State.returnPlanQuietly) s = reset at hreset ⊢
  extract_lets _ uploads stored cleared
  have hstored : stored.channelsSound :=
    (hreset.foldl (fun {s} hs ku => hs.touched (s.touches_cleanUp ku.1 ku.2)) uploads).touched (State.touches_sc _ _)
  have hcleared : cleared.channelsSound := hstored.of_same rfl rfl rfl
  exact hcleared.foldl (fun {s} hs ku => hs.touched (s.touches_uploadResult ku.1 ku.2 _ _)) uploads

/-- A millisecond leaves every running timer running. -/
theorem State.channelsSound.tick (h : s.channelsSound) : s.tick.channelsSound := by
  have htimers : s.tickTimers.channelsSound := State.channelsSound_iff.mpr fun k => by
    have hk : s.tickTimers.channel k = { s.channel k with stallTimer := tickTimer (s.channel k).stallTimer } := by
      simp [State.tickTimers, State.channel]
    rw [hk]
    refine ⟨(h.fits k).congr, fun hrunning => h.timer k ?_⟩
    simpa [tickTimer] using hrunning
  have hupsets := htimers.foldl (fun {s} hs u => hs.touched (s.touches_upset u)) (Config.upsets s.clock)
  exact hupsets.of_same rfl rfl rfl

/-! ### Every command -/

/-- An order that its block answers with a next state. -/
theorem State.channelsSound.order {o : Order} {p : Port} {tag : Byte} {payload : Bytes} {block : State → Result}
    (h : s.channelsSound) (hb : ∀ {u : State}, u.channelsSound → Yields State.channelsSound (block u)) :
    Yields State.channelsSound (takeOrder o p tag payload s block) := by
  have harrival : (s.arrival p).channelsSound := h.setPort p _
  unfold takeOrder
  split
  · exact .next h
  · exact .next (harrival.setPort p _)
  · exact .next (harrival.touched (State.touches_send _ _ _))
  · exact hb harrival

theorem State.channelsSound.orderTouches {o : Order} {p : Port} {tag : Byte} {payload : Bytes} {act : State → State}
    (h : s.channelsSound) {blocks : List Block} (hact : ∀ u, Touches blocks u (act u))
    (hpch : .pch ∉ blocks := by decide) (hpln : .pln ∉ blocks := by decide) (hce : .ce ∉ blocks := by decide) :
    Yields State.channelsSound (takeOrder o p tag payload s fun s => .next (act s)) :=
  h.order fun hu => .next (hu.touched (hact _) hpch hpln hce)

theorem State.channelsSound.pressOrder {o : Order} {p : Port} {tag : Byte} {payload : Bytes}
    {act : State → Sender → Fin 4 → State} (h : s.channelsSound)
    (ha : ∀ {u : State}, u.channelsSound → ∀ f k, (act u f k).channelsSound) :
    Yields State.channelsSound (takePressOrder o p tag payload s act) := by
  refine h.order fun hu => ?_
  split
  · exact .next (ha hu _ _)
  · exact .next hu

theorem State.channelsSound.exec (x : Instr) (h : s.channelsSound) : Yields State.channelsSound (exec x s) := by
  cases x with
  | porstAsserted => exact .next (State.channelsSound_powerOn _ _ _)
  | porstReleased => exact .next (State.channelsSound_powerOn _ _ _)
  | storeInitialisationEnd =>
    simp only [Machine.exec, execStoreInitialisationEnd]
    split
    · exact .next (h.of_same rfl rfl rfl)
    · exact .next h
  | linkUp p =>
    simp only [Machine.exec, execLinkUp]
    split
    · exact .next h
    · exact .next (h.setPort p _)
  | idleFill p =>
    simp only [Machine.exec, execIdleFill]
    split
    · exact .next (h.setPort p _)
    · exact .next h
  | silenceTimerExpiry p =>
    simp only [Machine.exec, execSilenceTimerExpiry]
    split
    · exact .next (h.linkDown p)
    · exact .next h
  | lineLoss p =>
    simp only [Machine.exec, execLineLoss]
    split
    · exact .next (h.linkDown p)
    · exact .next h
  | frameDropped p frame =>
    simp only [Machine.exec, execFrameDropped]
    split
    · exact .next h
    split
    · exact .next h
    · exact .next ((h.setPort p _).setPort p _)
  | frameDeparture p =>
    simp only [Machine.exec, execFrameDeparture]
    split
    · exact .next (h.setPort p _)
    · exact .next h
  | unknownOrder p tag code payload =>
    simp only [Machine.exec, execUnknownOrder]
    split
    · exact .next h
    split
    · exact .next ((h.setPort p _).setPort p _)
    split
    · exact .next h
    · exact .next ((h.setPort p _).touched (State.touches_send _ _ _))
  | defineLayout => exact h.orderTouches fun u => u.touches_defineLayout _ _
  | deleteLayout => exact h.orderTouches fun u => u.touches_deleteLayout _ _
  | queryLayout => exact h.orderTouches fun u => u.touches_queryLayout _ _
  | openClass => exact h.orderTouches fun u => u.touches_openClass _ _ _
  | addSubject => exact h.orderTouches fun u => u.touches_addSubject _ _
  | updateSubject => exact h.orderTouches fun u => u.touches_updateSubject _ _
  | removeSubject => exact h.orderTouches fun u => u.touches_removeSubject _ _ _
  | setTitle => exact h.orderTouches fun u => u.touches_setTitle _ _ _ _
  | rebindClass => exact h.orderTouches fun u => u.touches_rebindClass _ _ _
  | withdrawRebind => exact h.orderTouches fun u => u.touches_withdrawRebind _ _
  | freezeClass => exact h.orderTouches fun u => u.touches_freezeClass _ _
  | deleteClass => exact h.order fun hu => .next (hu.deleteClass _ _)
  | queryClass => exact h.orderTouches fun u => u.touches_queryClass _ _ _
  | beginUpload => exact h.orderTouches fun u => u.touches_beginUpload _ _
  | putPixels => exact h.order fun hu _ ht => hu.touched (State.touches_putPixels ht)
  | endUpload => exact h.orderTouches fun u => u.touches_onSlot _ _ _ State.touches_endUploadOf
  | cancelUpload => exact h.orderTouches fun u => u.touches_onSlot _ _ _ fun v k r => v.touches_failUpload k r _
  | idleTimerExpiry slot =>
    simp only [Machine.exec, execIdleTimerExpiry]
    split
    · split
      · exact .next (h.touched (s.touches_failUpload _ _ _))
      · exact .next h
    · exact .next h
  | deletePortrait => exact h.orderTouches fun u => u.touches_deletePortrait _ _
  | queryPortrait => exact h.orderTouches fun u => u.touches_queryPortrait _ _
  | queryStore => exact h.order fun hu => .next (hu.ok _ _)
  | openGlyphWindow => exact h.orderTouches fun u => u.touches_ok_setWindow _ _ _
  | closeGlyphWindow => exact h.orderTouches fun u => u.touches_ok_setWindow _ _ _
  | loadGlyph => exact h.orderTouches fun u => u.touches_loadGlyph _ _
  | queryGlyph => exact h.orderTouches fun u => u.touches_ite_refuse_ok _ _ _ _
  | planningStartStep =>
    simp only [Machine.exec, execPlanningStartStep]
    split
    · next k hk => exact .next (h.startStep hk)
    · exact .next h
  | planningCompletion =>
    simp only [Machine.exec, execPlanningCompletion]
    split
    · next k hk => exact .next (h.completePlanning hk)
    · exact .next h
  | configureChannel => exact h.pressOrder fun hu f k => hu.configureChannel f k _
  | enableChannel => exact h.pressOrder fun hu f k => hu.enableChannel f k
  | disableChannel => exact h.pressOrder fun hu f k => hu.disableChannel f k
  | queuePage => exact h.pressOrder fun hu f k => hu.queuePage f k _ _ _
  | cancelPage => exact h.pressOrder fun hu f k => hu.cancelPage f k _ _
  | sheetReady =>
    simp only [Machine.exec, execSheetReady]
    exact h.pressOrder fun hu f k => hu.takeTrigger f k _
  | start =>
    simp only [Machine.exec, execStart]
    refine h.order fun hu => ?_
    split
    · exact .next (hu.refuse _ _)
    · exact .next (hu.takeTrigger _ _ _)
  | grantBands => exact h.pressOrder fun hu f k => hu.grantBands f k _
  | abortPage => exact h.pressOrder fun hu f k => hu.abortPage f k
  | channelReset => exact h.pressOrder fun hu f k => (hu.ok f []).resetChannel k _ State.touches_returnPlan
  | queryChannel =>
    simp only [Machine.exec, execQueryChannel]
    refine h.order fun hu => ?_
    split
    · exact .next (hu.refuse _ _)
    · exact .next (hu.ok _ _)
  | engineGrant =>
    simp only [Machine.exec, execEngineGrant]
    split
    · next k hk =>
      refine .next (h.grantEngine ?_ k)
      unfold State.engineTurn at hk
      split at hk
      · cases hk
      · next hfree => exact hfree
    · exact .next h
  | rowData =>
    simp only [Machine.exec, execRowData]
    split
    · exact .next (h.row _)
    · exact .next h
  | bandEnd =>
    simp only [Machine.exec, execBandEnd]
    split
    · split
      · exact .next h
      · exact .next (h.row _)
    · exact .next h
  | stallTimerExpiry k =>
    simp only [Machine.exec, execStallTimerExpiry]
    split
    · next hexpired => exact .next (h.stall hexpired)
    · exact .next h
  | scrubTimerExpiry =>
    simp only [Machine.exec, execScrubTimerExpiry]
    split
    · exact .next (h.touched (s.touches_sel _)).scrub
    · exact .next h
  | clearErrorLog =>
    exact h.orderTouches fun u => (u.touches_ok _ _).mono.trans (State.touches_sel _ _)
  | hallClear =>
    simp only [Machine.exec, execHallClear]
    exact h.order fun hu => .next (hu.ok _ _).hallClear
  | queryLink => exact h.order fun hu => .next ((hu.ok _ _).setPort _ _)

/-- Settles O59: by what every command keeps, and an idle millisecond. -/
theorem stepKeepsChannelsSound : Obligations.StepKeepsChannelsSound := by
  intro s t h hstep
  unfold step at hstep
  split at hstep
  · cases hstep
    exact h.tick
  · next x rest _ =>
    have hrest : State.channelsSound { s with pending := rest } := h.of_same rfl rfl rfl
    exact hrest.exec x t hstep

end Sys2Proof.Machine
end

section
/-! PROOFS. The grid of a page (O38): cell width and height, what is left over, the last row's shift, and where the cells stand
(R98 to R101). -/

set_option Elab.async false

namespace Sys2Proof.Machine

variable {f : LayoutFields} {m i j : Nat}

/-! ### Sizes and margins (R8, R98, R99) -/

/-- Cells of a quotient's size and the gaps fit, and cells one larger do not. -/
theorem quotient_fits {n gaps size : Nat} (hn : 1 ≤ n) (h : 32 * n + gaps ≤ size) :
    32 ≤ (size - gaps) / n ∧ n * ((size - gaps) / n) + gaps ≤ size ∧ size < n * ((size - gaps) / n + 1) + gaps := by
  have hleast : 32 ≤ (size - gaps) / n := (Nat.le_div_iff_mul_le hn).mpr (by omega)
  have hfits : n * ((size - gaps) / n) ≤ size - gaps := Nat.mul_div_le _ _
  have hlargest : size - gaps < n * ((size - gaps) / n + 1) := Nat.lt_mul_div_succ _ hn
  exact ⟨hleast, by omega, by omega⟩

theorem cellWidth_fits (hc : 1 ≤ f.c) (hw : 32 * f.c + (f.c - 1) * f.g ≤ f.w) :
    32 ≤ cellWidth f ∧ f.c * cellWidth f + (f.c - 1) * f.g ≤ f.w
      ∧ f.w < f.c * (cellWidth f + 1) + (f.c - 1) * f.g := quotient_fits hc hw

theorem cellHeight_fits (hr : 1 ≤ f.r) (hh : 32 * f.r + f.t + f.r * f.cap + (f.r - 1) * f.v ≤ f.h) :
    32 ≤ cellHeight f ∧ f.t + f.r * (cellHeight f + f.cap) + (f.r - 1) * f.v ≤ f.h
      ∧ f.h < f.t + f.r * (cellHeight f + 1 + f.cap) + (f.r - 1) * f.v := by
  have hsize : cellHeight f = (f.h - (f.t + f.r * f.cap + (f.r - 1) * f.v)) / f.r := by
    rw [cellHeight, Nat.sub_sub, Nat.sub_sub, Nat.add_assoc]
  obtain ⟨hleast, hfits, hlargest⟩ := quotient_fits (size := f.h) (gaps := f.t + f.r * f.cap + (f.r - 1) * f.v) hr (by omega)
  rw [← hsize] at hleast hfits hlargest
  rw [Nat.mul_add, Nat.mul_add f.r (cellHeight f + 1)]
  exact ⟨hleast, by omega, by omega⟩

/-! ### Rows and columns (R100, R101) -/

/-- The last row that holds a cell. -/
theorem occupiedRows_eq {c : Nat} (hc : 1 ≤ c) (hm : 0 < m) : occupiedRows c m = (m - 1) / c + 1 := by
  rw [occupiedRows, show m + c - 1 = m - 1 + c by omega, Nat.add_div_right _ hc]

/-- The cells of the last row: a full row, or the remainder. -/
theorem lastRow_eq {c : Nat} (hc : 1 ≤ c) (hm : 0 < m) :
    m - (m - 1) / c * c = if m % c = 0 then c else m % c := by
  have hsplit : m = (m - 1) / c * c + ((m - 1) % c + 1) := by
    have := Nat.div_add_mod' (m - 1) c
    omega
  have hlt : (m - 1) % c < c := Nat.mod_lt _ hc
  have hmod : m % c = ((m - 1) % c + 1) % c := by
    conv_lhs => rw [hsplit, Nat.add_comm, Nat.add_mul_mod_self_right]
  rcases Nat.lt_or_ge ((m - 1) % c + 1) c with h | h
  · rw [Nat.mod_eq_of_lt h] at hmod
    rw [if_neg (by omega)]
    omega
  · rw [show (m - 1) % c + 1 = c by omega, Nat.mod_self] at hmod
    rw [if_pos hmod]
    omega

/-- The shift of a cell: that of a last row that is not full, with CENTRED, and none else (R101). -/
def cellShift (f : LayoutFields) (m i : Nat) : Nat :=
  if f.alignment = .centred ∧ i / f.c = (m - 1) / f.c ∧ m % f.c ≠ 0 then
    (f.c - m % f.c) * (cellWidth f + f.g) / 2
  else 0

/-- Where a placed cell stands (R98 to R101). -/
theorem cellOrigin_gridOf (hc : 1 ≤ f.c) (hi : i < m) :
    cellOrigin f (gridOf f m) i =
      ((gridOf f m).mx + i % f.c * (cellWidth f + f.g) + cellShift f m i,
        f.t + (gridOf f m).my + i / f.c * (cellHeight f + f.cap + f.v)) := by
  have hshift : (if i / f.c + 1 = (gridOf f m).occupiedRows then (gridOf f m).shift else 0) = cellShift f m i := by
    have hm : 0 < m := by omega
    simp only [gridOf, lastRowShift, occupiedRows_eq hc hm, Nat.add_sub_cancel, lastRow_eq hc hm, cellShift, hm,
      true_and, Nat.add_right_cancel_iff]
    have hmod : m % f.c < f.c := Nat.mod_lt _ hc
    cases f.alignment with
    | left => simp
    | centred =>
      by_cases hrow : i / f.c = (m - 1) / f.c
      · by_cases hfull : m % f.c = 0
        · simp [hrow, hfull]
        · simp [hrow, hfull, hmod]
      · simp [hrow]
  rw [← hshift]
  simp only [cellOrigin]
  split <;> rfl

/-- The shift leaves room for the columns to the right of a cell. -/
theorem cellShift_le (hc : 1 ≤ f.c) (hi : i < m) :
    cellShift f m i ≤ (f.c - 1 - i % f.c) * (cellWidth f + f.g) := by
  unfold cellShift
  split
  · next h =>
    obtain ⟨-, hrow, hpart⟩ := h
    have hlast := lastRow_eq hc (show 0 < m by omega)
    rw [if_neg hpart] at hlast
    have hcolumn : i / f.c * f.c + i % f.c = i := Nat.div_add_mod' i f.c
    rw [hrow] at hcolumn
    exact (Nat.div_le_self _ _).trans (Nat.mul_le_mul_right _ (by omega))
  · exact Nat.zero_le _

/-- Every cell ends within the live width. -/
theorem cellOrigin_width (hc : 1 ≤ f.c) (hw : 32 * f.c + (f.c - 1) * f.g ≤ f.w) (hi : i < m) :
    (gridOf f m).mx + i % f.c * (cellWidth f + f.g) + cellShift f m i + cellWidth f ≤ f.w := by
  have hcolumn : i % f.c < f.c := Nat.mod_lt _ hc
  have hshift := cellShift_le hc hi
  have hall : i % f.c * (cellWidth f + f.g) + (f.c - 1 - i % f.c) * (cellWidth f + f.g) + cellWidth f
      = f.c * cellWidth f + (f.c - 1) * f.g := by
    rw [← Nat.add_mul, show i % f.c + (f.c - 1 - i % f.c) = f.c - 1 by omega, Nat.mul_add]
    have : (f.c - 1) * cellWidth f + cellWidth f = f.c * cellWidth f := by
      rw [← Nat.succ_mul, show (f.c - 1).succ = f.c by omega]
    omega
  obtain ⟨-, hfits, -⟩ := cellWidth_fits hc hw
  have hmargin : (gridOf f m).mx = (f.w - f.c * cellWidth f - (f.c - 1) * f.g) / 2 := rfl
  omega

/-- Every cell with its caption band ends within the live height. -/
theorem cellOrigin_height (hr : 1 ≤ f.r) (hh : 32 * f.r + f.t + f.r * f.cap + (f.r - 1) * f.v ≤ f.h)
    (hm : m ≤ f.c * f.r) (hi : i < m) :
    f.t + (gridOf f m).my + i / f.c * (cellHeight f + f.cap + f.v) + cellHeight f + f.cap ≤ f.h := by
  have hrow : i / f.c ≤ f.r - 1 := by
    have : i / f.c < f.r := Nat.div_lt_of_lt_mul (hi.trans_le hm)
    omega
  have hrows := Nat.mul_le_mul_right (cellHeight f + f.cap + f.v) hrow
  have hall : (f.r - 1) * (cellHeight f + f.cap + f.v) + (cellHeight f + f.cap)
      = f.r * cellHeight f + f.r * f.cap + (f.r - 1) * f.v := by
    rw [Nat.mul_add, ← Nat.mul_add f.r]
    have : (f.r - 1) * (cellHeight f + f.cap) + (cellHeight f + f.cap) = f.r * (cellHeight f + f.cap) := by
      rw [← Nat.succ_mul, show (f.r - 1).succ = f.r by omega]
    omega
  obtain ⟨-, hfits, -⟩ := cellHeight_fits hr hh
  rw [Nat.mul_add] at hfits
  have hmargin : (gridOf f m).my =
      (f.h - f.t - f.r * cellHeight f - f.r * f.cap - (f.r - 1) * f.v) / 2 := rfl
  omega

/-- A later cell of the same row stands a pitch further on, with the same shift. -/
theorem column_pitch (hij : i < j) (hrow : i / f.c = j / f.c) :
    i % f.c * (cellWidth f + f.g) + (cellWidth f + f.g) ≤ j % f.c * (cellWidth f + f.g)
      ∧ cellShift f m i = cellShift f m j := by
  have hi := Nat.div_add_mod i f.c
  have hj := Nat.div_add_mod j f.c
  rw [hrow] at hi
  refine ⟨?_, by simp only [cellShift, hrow]⟩
  rw [← Nat.succ_mul]
  exact Nat.mul_le_mul_right _ (by omega)

/-- Settles O38: the quotients of width and height, what they leave over, and the places of the cells. -/
theorem gridFillsPage : Obligations.GridFillsPage := by
  intro f m hc hr hw hh hm g x y
  obtain ⟨hwide, hacross, hwidest⟩ := cellWidth_fits hc hw
  obtain ⟨hhigh, hdown, hhighest⟩ := cellHeight_fits hr hh
  have hmx : g.mx = (f.w - f.c * cellWidth f - (f.c - 1) * f.g) / 2 := rfl
  have hmy : g.my = (f.h - f.t - f.r * cellHeight f - f.r * f.cap - (f.r - 1) * f.v) / 2 := rfl
  have hplace (i : Nat) (hi : i < m) : x i = g.mx + i % f.c * (cellWidth f + f.g) + cellShift f m i
      ∧ y i = f.t + g.my + i / f.c * (cellHeight f + f.cap + f.v) := by
    simp only [x, y, g, cellOrigin_gridOf hc hi, and_self]
  refine ⟨hwide, hhigh, hacross, hwidest, ?_, hdown, hhighest, ?_, fun i hi => ⟨(hplace i hi).2, (hplace i hi).1⟩,
    fun i hi => ?_, fun i j hij hj => ?_⟩
  · change 2 * g.mx = f.w - (f.c * cellWidth f + (f.c - 1) * f.g)
      ∨ 2 * g.mx + 1 = f.w - (f.c * cellWidth f + (f.c - 1) * f.g)
    omega
  · have hrows : f.r * (cellHeight f + f.cap) = f.r * cellHeight f + f.r * f.cap := Nat.mul_add _ _ _
    change 2 * g.my = f.h - (f.t + f.r * (cellHeight f + f.cap) + (f.r - 1) * f.v)
      ∨ 2 * g.my + 1 = f.h - (f.t + f.r * (cellHeight f + f.cap) + (f.r - 1) * f.v)
    omega
  · obtain ⟨hx, hy⟩ := hplace i hi
    rw [hx, hy]
    exact ⟨cellOrigin_width hc hw hi, by omega, cellOrigin_height hr hh hm hi⟩
  · obtain ⟨hxi, hyi⟩ := hplace i (hij.trans hj)
    obtain ⟨hxj, hyj⟩ := hplace j hj
    rw [hxi, hxj, hyi, hyj]
    rcases (Nat.div_le_div_right (c := f.c) hij.le).eq_or_lt with hrow | hrow
    · obtain ⟨hpitch, hshift⟩ := column_pitch (m := m) hij hrow
      refine .inl ⟨hrow, ?_, by rw [hrow]⟩
      change _ + cellWidth f + f.g ≤ _
      omega
    · have hpitch := Nat.mul_le_mul_right (cellHeight f + f.cap + f.v) (Nat.succ_le_of_lt hrow)
      rw [Nat.succ_mul] at hpitch
      refine .inr ⟨hrow, ?_⟩
      change _ + cellHeight f + f.cap + f.v ≤ _
      omega

end Sys2Proof.Machine
end

section
/-! PROOFS. The snapshot of the start step (O36): the records of the page's slice with their sources and reasons, and the pinned
list (R94, R95, R97). -/

set_option Elab.async false

namespace Sys2Proof.Machine

variable {s : State} {cells : List SliceCell} {h : Nat}

/-! ### Sources and reasons (R95) -/

/-- Why a record does not show its subject's own portrait, if it does not (R95). -/
def State.sliceReason (s : State) (x : Subject) : Option PlaceholderReason :=
  match x.ref with
  | none => some .noPortrait
  | some q =>
    if (s.entry q.handle).state = .free ∨ (s.entry q.handle).generation ≠ q.generation then some .stale
    else if (s.entry q.handle).state = .filling then some .notReady
    else if (s.entry q.handle).state = .damaged then some .damaged
    else none

/-- A record of the slice takes its own portrait without a reason, and the placeholder with one. -/
theorem State.sliceCell_eq (s : State) (placeholder : Option Nat) (position : Nat) (x : Subject) :
    s.sliceCell placeholder position x =
      { position, subjectId := x.id, caption := x.caption, ref := x.ref,
        source := if s.sliceReason x = none then x.ref.map PortraitRef.handle else placeholder
        reason := s.sliceReason x } := by
  unfold State.sliceCell State.sliceReason
  cases hr : x.ref with
  | none => simp
  | some q =>
    simp only
    by_cases hstale : (s.entry q.handle).state = .free ∨ (s.entry q.handle).generation ≠ q.generation
    · simp [hstale]
    · simp only [if_neg hstale]
      cases hs : (s.entry q.handle).state with
      | free => exact absurd (.inl hs) hstale
      | _ => simp

/-- The placeholder's handle is shown when the placeholder is live (R55, R95). -/
theorem State.livePlaceholder_eq (s : State) (f : LayoutFields) :
    s.livePlaceholder f = match f.placeholder with
      | some q => if (s.entry q.handle).generation = q.generation ∧ (s.entry q.handle).state = .ready then some q.handle
          else none
      | none => none := by
  unfold State.livePlaceholder
  cases f.placeholder with
  | none => rfl
  | some q => simp only [State.live_iff]

/-! ### The roster slice (R94) -/

theorem getElem?_rosterSlice (roster : List Subject) (perPage page i : Nat) :
    (rosterSlice roster perPage page)[i]? =
      if i < perPage then roster[page * perPage + i]?.map (fun x => (page * perPage + i, x)) else none := by
  simp only [rosterSlice, List.getElem?_map, List.getElem?_zipIdx, List.getElem?_take, List.getElem?_drop]
  split
  · cases roster[page * perPage + i]? <;> simp
  · rfl

theorem map_snd_rosterSlice (roster : List Subject) (perPage page : Nat) :
    (rosterSlice roster perPage page).map Prod.snd = (roster.drop (page * perPage)).take perPage := by
  simp only [rosterSlice, List.map_map, Function.comp_def]
  exact List.zipIdx_map_fst _ _

/-- The cells of a snapshot, by the records of the slice. -/
theorem State.cells_snapshot (s : State) (k : Fin 4) (j : Job) (n : Nat) (f : LayoutFields) :
    (s.snapshot k j n f).cells = (rosterSlice (s.classAt j.classNo).roster (f.c * f.r) j.page).map
      (fun px => s.sliceCell (s.livePlaceholder f) px.1 px.2) := rfl

/-! ### The pinned list (R97) -/

/-- Handles once each are those that come first, and then what is left of the others. -/
theorem distinct_append {seen l r : List Nat} (hl : l.Nodup) (hseen : ∀ n ∈ l, n ∉ seen) :
    distinct seen (l ++ r) = l ++ distinct (l.reverse ++ seen) r := by
  induction l generalizing seen with
  | nil => rfl
  | cons n rest ih =>
    obtain ⟨hn, hrest⟩ := List.nodup_cons.mp hl
    obtain ⟨hnew, hseen⟩ := List.forall_mem_cons.mp hseen
    have hlater : ∀ m ∈ rest, m ∉ n :: seen := fun m hm hc =>
      (List.mem_cons.mp hc).elim (fun he => hn (he ▸ hm)) (hseen m hm)
    rw [List.cons_append, distinct, if_neg hnew, ih hrest hlater, List.reverse_cons, List.append_assoc]
    rfl

/-- One handle, however often, is left once, and only when it has not been seen. -/
theorem distinct_constant {seen r : List Nat} (hr : ∀ n ∈ r, n = h) :
    distinct seen r = if r ≠ [] ∧ h ∉ seen then [h] else [] := by
  induction r generalizing seen with
  | nil => rfl
  | cons n rest ih =>
    obtain ⟨rfl, hrest⟩ := List.forall_mem_cons.mp hr
    unfold distinct
    by_cases hn : n ∈ seen
    · simp [hn, ih hrest]
    · simp [hn, ih hrest]

theorem mem_pinnedHandles_iff : h ∈ pinnedHandles cells ↔ ∃ c ∈ cells, c.source = some h := by
  refine ⟨mem_pinnedHandles, fun ⟨c, hc, hsource⟩ => mem_distinct.mpr ⟨?_, List.not_mem_nil⟩⟩
  cases hreason : c.reason with
  | none =>
    exact List.mem_append_left _ (List.mem_filterMap.mpr ⟨c, List.mem_filter.mpr ⟨hc, by simp [hreason]⟩, hsource⟩)
  | some reason =>
    refine List.mem_append_right _ (List.mem_filterMap.mpr ⟨c, List.mem_filter.mpr ⟨hc, ?_⟩, hsource⟩)
    simp [SliceCell.usesPlaceholder, hreason, hsource]

/-- The handles of the subjects that show their own portraits. -/
def liveHandles (cells : List SliceCell) : List Nat :=
  cells.filterMap (fun c => if c.reason = none then c.source else none)

theorem SliceCell.usesPlaceholder_iff {c : SliceCell} :
    c.usesPlaceholder = true ↔ c.reason ≠ none ∧ c.source ≠ none := by
  simp [SliceCell.usesPlaceholder, Option.isSome_iff_ne_none]

/-- Cells with a reason draw the placeholder or nothing: the pinned list is then the live handles, each once, and the
placeholder's behind them if some cell takes it. -/
theorem pinnedHandles_eq {placeholder : Option Nat} (hlive : (liveHandles cells).Nodup)
    (hplaceholder : ∀ c ∈ cells, c.reason ≠ none → c.source = placeholder) :
    pinnedHandles cells = liveHandles cells ++ (match (generalizing := false) placeholder with
      | some h => if cells.any SliceCell.usesPlaceholder = true ∧ h ∉ liveHandles cells then [h] else []
      | none => []) := by
  have hsplit : (cells.filter (fun c => c.reason.isNone)).filterMap SliceCell.source = liveHandles cells := by
    simp only [liveHandles, List.filterMap_filter, Option.isNone_iff_eq_none]
  have hall : ∀ n ∈ (cells.filter SliceCell.usesPlaceholder).filterMap SliceCell.source, placeholder = some n := by
    intro n hn
    obtain ⟨c, hc, hsource⟩ := List.mem_filterMap.mp hn
    obtain ⟨hc, huses⟩ := List.mem_filter.mp hc
    rw [← hplaceholder c hc (SliceCell.usesPlaceholder_iff.mp huses).1, hsource]
  have hsome : (cells.filter SliceCell.usesPlaceholder).filterMap SliceCell.source ≠ []
      ↔ cells.any SliceCell.usesPlaceholder = true := by
    rw [List.any_eq_true, ne_eq, List.filterMap_eq_nil_iff]
    constructor
    · intro hne
      obtain ⟨c, hc⟩ := not_forall.mp hne
      obtain ⟨hc, -⟩ := Classical.not_imp.mp hc
      exact ⟨c, List.mem_filter.mp hc⟩
    · rintro ⟨c, hc, huses⟩ hnone
      exact (SliceCell.usesPlaceholder_iff.mp huses).2 (hnone c (List.mem_filter.mpr ⟨hc, huses⟩))
  rw [pinnedHandles, hsplit, distinct_append hlive (fun _ _ => List.not_mem_nil), List.append_nil]
  congr 1
  cases placeholder with
  | none =>
    have hnil : (cells.filter SliceCell.usesPlaceholder).filterMap SliceCell.source = [] :=
      List.eq_nil_iff_forall_not_mem.mpr fun n hn => nomatch hall n hn
    rw [hnil]
    rfl
  | some h =>
    rw [distinct_constant (h := h) fun n hn => (Option.some.inj (hall n hn)).symm]
    simp only [hsome, List.mem_reverse]

/-- The live handles of a page are those of its subjects' portraits that are shown, in roster order. -/
theorem State.liveHandles_snapshot (s : State) (k : Fin 4) (j : Job) (n : Nat) (f : LayoutFields) :
    liveHandles (s.snapshot k j n f).cells =
      (((((s.classAt j.classNo).roster.drop (j.page * (f.c * f.r))).take (f.c * f.r)).filter
        (fun x => decide (s.sliceReason x = none))).filterMap (fun x => x.ref.map PortraitRef.handle)) := by
  rw [List.filterMap_filter, ← map_snd_rosterSlice, List.filterMap_map, liveHandles, State.cells_snapshot,
    List.filterMap_map]
  refine List.filterMap_congr fun px _ => ?_
  simp only [Function.comp_apply, State.sliceCell_eq, decide_eq_true_eq]
  split <;> simp_all

/-- A roster in order names no handle twice, so that no live handle stands twice on a page (R21). -/
theorem State.nodup_liveHandles (k : Fin 4) (j : Job) (n : Nat) (f : LayoutFields)
    (hroster : RosterOrdered (s.classAt j.classNo).roster) : (liveHandles (s.snapshot k j n f).cells).Nodup := by
  obtain ⟨-, -, hhandles, -⟩ := hroster
  rw [State.liveHandles_snapshot]
  exact hhandles.sublist ((List.filter_sublist.trans ((List.take_sublist _ _).trans (List.drop_sublist _ _))).filterMap _)

/-- A cell with a reason draws what the layout's placeholder gives. -/
theorem State.source_of_reason {k : Fin 4} {j : Job} {n : Nat} {f : LayoutFields} {c : SliceCell}
    (hc : c ∈ (s.snapshot k j n f).cells) (hr : c.reason ≠ none) : c.source = s.livePlaceholder f := by
  obtain ⟨⟨position, x⟩, -, rfl⟩ := List.mem_map.mp hc
  simp only [State.sliceCell_eq] at hr ⊢
  rw [if_neg hr]

theorem State.pinnedImage_of_image {e : ImageRecord} (he : (s.entry h).image = some e) :
    s.pinnedImage h =
      { handle := h, width := e.width, height := e.height, faceCentre := e.faceCentre, eyeRow := e.eyeRow,
        faceHeight := e.faceHeight, first := e.first, clusters := e.clusters } := by
  simp only [State.pinnedImage, he]

/-- Settles O36: slice and sources by position, the pinned list by its two parts. -/
theorem snapshotSourcesAndPins : Obligations.SnapshotSourcesAndPins := by
  intro s k j layoutNo f p r n shown reason
  have hshown : shown = s.livePlaceholder f := (s.livePlaceholder_eq f).symm
  have hreason : reason = s.sliceReason := rfl
  have hhandles : p.handles = pinnedHandles p.cells := s.handles_snapshot k j layoutNo f
  refine ⟨rfl, rfl, rfl, rfl, rfl, rfl, rfl, rfl, rfl, rfl, fun hroster => ?_, fun i => ?_,
    s.nodup_handles_snapshot k j layoutNo f, fun h => ?_, ?_, fun im him e he => ?_⟩
  · rw [hhandles, hshown]
    exact pinnedHandles_eq (State.nodup_liveHandles k j layoutNo f hroster) fun _ => State.source_of_reason
  · change (s.snapshot k j layoutNo f).cells[i]? = _
    rw [State.cells_snapshot, List.getElem?_map, getElem?_rosterSlice, hshown, hreason]
    simp only [apply_ite (Option.map _), Option.map_map, Function.comp_def, State.sliceCell_eq, Option.map_none]
    rfl
  · rw [hhandles, mem_pinnedHandles_iff]
  · change p.cells.any SliceCell.usesPlaceholder = true ↔ _
    simp only [List.any_eq_true, SliceCell.usesPlaceholder_iff]
  · obtain ⟨h, -, rfl⟩ := List.mem_map.mp him
    rw [State.handle_pinnedImage] at he
    rw [State.pinnedImage_of_image he]
    exact ⟨rfl, rfl, rfl, rfl, rfl, rfl, rfl⟩

end Sys2Proof.Machine
end

section
/-! PROOFS. Planning completion (O37): the hand-over of the finished plan to its channel, and what the plan holds (R103 to R107,
R120, R143, R144, R157). -/

set_option Elab.async false

namespace Sys2Proof.Machine

variable {s t : State} {k : Fin 4} {c c' : Channel} {j new : Job} {a b rest : List Job}

/-! ### Waits and releases (R157, R167) -/

theorem Channel.state_of_pressWait_armed {seq : Nat} (h : c.pressWait = some (.armed seq)) : c.state = .armed := by
  unfold Channel.pressWait at h
  split at h
  · next hs => exact hs
  · split at h <;> simp at h
  · split at h
    · split at h <;> simp at h
    · cases h
  · cases h
  · cases h

/-- An ARMED channel waits for its trigger or for nothing. -/
theorem Channel.pressWait_of_armed (h : c.state = .armed) :
    c.pressWait = none ∨ ∃ seq, c.pressWait = some (.armed seq) := by
  simp only [Channel.pressWait, h]
  split
  · exact .inl rfl
  · cases c.plannedPlan? with
    | none => exact .inl rfl
    | some p => exact .inr ⟨p.snap.seq, rfl⟩

/-- A timer that starts, or stops, does so whatever the wait before was. -/
theorem settleTimer_of_new_wait {before before' after : Channel}
    (h : ∀ w, after.pressWait = some w → before.pressWait ≠ some w ∧ before'.pressWait ≠ some w) :
    settleTimer before after = settleTimer before' after := by
  cases hw : after.pressWait with
  | none => rw [settleTimer_of_no_wait hw, settleTimer_of_no_wait hw]
  | some w =>
    obtain ⟨hbefore, hbefore'⟩ := h w hw
    rw [settleTimer_of_wait hw, settleTimer_of_wait hw, if_neg hbefore, if_neg hbefore']

/-- With a first job in PLANNING a channel is IDLE or OFF and waits for nothing. -/
theorem Channel.pressWait_of_planning {p : Snapshot} (hjobs : c.jobs = j :: rest) (hj : j.stage = .planning p) :
    c.pressWait = none := by
  cases hon : c.enabled with
  | false => simp [Channel.pressWait, Channel.state_off hon]
  | true =>
    have hidle : c.state = .idle := by
      rw [Channel.state_not_rendering hon (.inl (by simp [Channel.renderingPlan?, hjobs, Job.renderingPlan?, hj]))]
      simp [Channel.plannedPlan?, hjobs, Job.plannedPlan?, hj]
    simp [Channel.pressWait, hidle]

/-- A release to an ARMED channel begins another wait, or none. -/
theorem Channel.state_afterRelease_ne_armed {p : Plan} (damaged : Nat → Bool) (hjobs : c.jobs = j :: rest)
    (hj : j.stage = .planned p) : (c.afterRelease damaged).state ≠ .armed := fun h => by
  obtain ⟨-, i, others, q, hi, hq⟩ := Channel.armed_iff.mp h
  rw [Channel.afterRelease_planned damaged hjobs hj] at hi
  obtain ⟨rfl, -⟩ := List.cons.inj hi
  cases hq

theorem State.takeRelease_liu (s : State) (k : Fin 4) : (s.takeRelease k).liu = s.liu := by
  rw [State.takeRelease_eq]
  split <;> rfl

theorem State.takeRelease_pln (s : State) (k : Fin 4) : (s.takeRelease k).pln = s.pln :=
  (s.touches_takeRelease k).pln

theorem State.othersSame_takeRelease (s : State) (k : Fin 4) : OthersSame k s (s.takeRelease k) := by
  rw [State.takeRelease_eq]
  split
  · exact s.othersSame_putChannel k _
  · exact OthersSame.of_pch rfl

/-! ### The hand-over (R104) -/

/-- The planner is free and the channel has its plan, before any release. -/
def State.handedOver (s : State) (k : Fin 4) (c : Channel) : State :=
  { s with pln := { s.pln with planning := none } }.putChannel k c

theorem State.completePlanning_eq (s : State) (k : Fin 4) {p : Snapshot} (hjobs : (s.channel k).jobs = a ++ j :: b)
    (hj : j.stage = .planning p) (ha : ∀ x ∈ a, (Job.renderingPlan? x).isSome = true) :
    s.completePlanning k = (s.handedOver k { s.channel k with
      jobs := a ++ { classNo := p.classNo, page := p.page, copies := p.copies, stage := .planned (s.completePlan p) } :: b
      }).takeRelease k := by
  have hbefore : ∀ x ∈ a, (Job.planningSnap? x).isSome = false := fun x hx =>
    Job.isSome_planningSnap?_of_rendering (ha x hx)
  have hsnap : Job.planningSnap? j = some p := by simp [Job.planningSnap?, hj]
  have hfound : (s.channel k).jobs.findSome? Job.planningSnap? = some p := by
    rw [hjobs, List.findSome?_append, List.findSome?_eq_none_iff.mpr fun x hx => by simpa using hbefore x hx,
      List.findSome?_cons, hsnap]
    rfl
  simp only [State.completePlanning, hfound, State.handedOver]
  rw [hjobs, replaceFirst_append hbefore (by simp [hsnap])]

theorem State.channelTakes_handedOver (s : State) (k : Fin 4) (c : Channel) : ChannelTakes k c s (s.handedOver k c) :=
  State.channelTakes_putChannel _ k c

theorem State.othersSame_handedOver (s : State) (k : Fin 4) (c : Channel) : OthersSame k s (s.handedOver k c) :=
  State.othersSame_putChannel _ k c

/-- The channel is not released, with no trigger, or OFF, or RUNNING. -/
theorem State.channelTakes_unreleased (s : State) (k : Fin 4) (c : Channel)
    (h : ¬ (c.triggered = true ∧ c.releaseNeeded = true)) :
    ChannelTakes k c s ((s.handedOver k c).takeRelease k) := by
  have htakes := s.channelTakes_handedOver k c
  rwa [State.takeRelease_eq, if_neg]
  rw [htakes]
  exact h

/-- A channel whose first job was in PLANNING is released with its plan in the same event: its timer is settled once. -/
theorem State.channelTakes_released (s : State) (k : Fin 4) {p : Snapshot} {q : Plan}
    (hbefore : (s.channel k).jobs = j :: b) (hj : j.stage = .planning p) (hjobs : c.jobs = new :: b)
    (hnew : new.stage = .planned q) (hon : c.enabled = true) (htrigger : c.triggered = true) :
    ChannelTakes k (c.afterRelease s.damagedEntry) s ((s.handedOver k c).takeRelease k) := by
  have htakes := s.channelTakes_handedOver k c
  obtain ⟨now, hnow⟩ : ∃ now, now = { c with stallTimer := settleTimer (s.channel k) c } := ⟨_, rfl⟩
  have hchannel : (s.handedOver k c).channel k = now := by rw [hnow]; exact htakes
  have harmed : c.state = .armed := Channel.armed_iff.mpr ⟨hon, new, b, q, hjobs, hnew⟩
  have hneeded : now.triggered = true ∧ now.releaseNeeded = true := by
    rw [hnow]
    exact ⟨htrigger, Channel.releaseNeeded_iff.mpr (.inl harmed)⟩
  have hwait : now.pressWait = c.pressWait := by rw [hnow]; rfl
  have hafter : now.afterRelease s.damagedEntry =
      { c.afterRelease s.damagedEntry with stallTimer := settleTimer (s.channel k) c } := by
    rw [Channel.afterRelease_planned (c := now) _ (by rw [hnow]; exact hjobs) hnew,
      Channel.afterRelease_planned _ hjobs hnew, hnow]
    rfl
  have hsettled : settleTimer now (c.afterRelease s.damagedEntry)
      = settleTimer (s.channel k) (c.afterRelease s.damagedEntry) := by
    refine settleTimer_of_new_wait fun w hw => ⟨fun h => ?_, fun h => ?_⟩
    · rw [hwait] at h
      rcases Channel.pressWait_of_armed harmed with hnone | ⟨seq, hseq⟩
      · rw [hnone] at h; cases h
      · obtain rfl : PressWait.armed seq = w := Option.some.inj (hseq.symm.trans h)
        exact Channel.state_afterRelease_ne_armed _ hjobs hnew (Channel.state_of_pressWait_armed hw)
    · rw [Channel.pressWait_of_planning hbefore hj] at h; cases h
  rw [State.takeRelease_eq, hchannel, if_pos hneeded, ChannelTakes, State.channel_putChannel, if_pos rfl, hchannel,
    show (s.handedOver k c).damagedEntry = s.damagedEntry from rfl, hafter, ← hsettled]
  rfl

theorem exec_planningCompletion (s : State) : exec .planningCompletion s = execPlanningCompletion s := rfl

/-- Behind a RENDERING job the channel's state is what it was. -/
theorem Channel.state_of_running (h : c.state = .running) (hjobs : c.jobs = a ++ j :: b)
    (hj : (Job.renderingPlan? j).isSome = false) (hjobs' : c'.jobs = a ++ new :: b)
    (hon : c'.enabled = c.enabled := by rfl) (hr : c'.rendering = c.rendering := by rfl) : c'.state = .running := by
  obtain ⟨-, p, r, hp, hrecord⟩ := Channel.rendering_of_state (.inr h)
  have hsame : c'.renderingPlan? = c.renderingPlan? := by
    cases a with
    | nil =>
      have hfirst : j.renderingPlan? = some p := by simpa [Channel.renderingPlan?, hjobs] using hp
      simp [hfirst] at hj
    | cons x a => simp [Channel.renderingPlan?, hjobs, hjobs']
  have hon' := (Channel.rendering_of_state (.inr h)).1
  rw [Channel.state_rendering hon' hp hrecord] at h
  rw [Channel.state_rendering (hon.trans hon') (hsame.trans hp) (hr.trans hrecord), h]

/-- What planning completion changes (R104, R157). -/
theorem State.completePlanning_outcome (s : State) (k : Fin 4) {p : Snapshot} (hjobs : (s.channel k).jobs = a ++ j :: b)
    (hj : j.stage = .planning p) (ha : ∀ x ∈ a, (Job.renderingPlan? x).isSome = true) :
    let c := s.channel k
    let c' : Channel := { c with
      jobs := a ++ { classNo := p.classNo, page := p.page, copies := p.copies, stage := .planned (s.completePlan p) } :: b }
    let t := s.completePlanning k
    OnlyChanges [.pln, .pch] s t ∧ t.pln = { planning := none, lastServed := s.pln.lastServed } ∧ OthersSame k s t
      ∧ (c.triggered = false ∨ c.enabled = false ∨ c.state = .running → ChannelTakes k c' s t)
      ∧ (a = [] → c.triggered = true → c.enabled = true → ChannelTakes k (c'.afterRelease s.damagedEntry) s t) := by
  intro c c' t
  have ht : t = (s.handedOver k c').takeRelease k := s.completePlanning_eq k hjobs hj ha
  refine ⟨(s.touches_completePlanning k).only ?_, ?_, ?_, fun hwaits => ?_, fun hfirst htrigger hon => ?_⟩
  · change t.liu = s.liu
    rw [ht, State.takeRelease_liu]
    rfl
  · rw [ht, State.takeRelease_pln]
    rfl
  · rw [ht]
    exact (s.othersSame_handedOver k c').trans (State.othersSame_takeRelease _ k)
  · rw [ht]
    refine s.channelTakes_unreleased k c' fun ⟨htrigger, hneeded⟩ => ?_
    rcases hwaits with huntriggered | hoff | hrunning
    · exact absurd (htrigger.symm.trans huntriggered) Bool.noConfusion
    · rw [Channel.releaseNeeded, Channel.state_off (c := c') hoff] at hneeded
      cases hneeded
    · have hstill : c'.state = .running :=
        Channel.state_of_running (c' := c') hrunning hjobs (by simp [Job.renderingPlan?, hj]) rfl
      rw [Channel.releaseNeeded, hstill] at hneeded
      cases hneeded
  · subst hfirst
    rw [ht]
    exact s.channelTakes_released k hjobs hj rfl rfl hon htrigger

end Sys2Proof.Machine
end

section
/-! PROOFS. What a finished plan holds (O37): its cells with their captions, the substitute record, and the title (R105 to R107,
R140 to R144). -/

set_option Elab.async false

namespace Sys2Proof.Machine

variable {s : State} {scale width room n : Nat} {codes : List Nat}

/-! ### Glyph runs (R140, R142) -/

/-- Some code of a run is a missing glyph. -/
theorem State.any_missing_iff : codes.any s.missing = true ↔ ∃ code ∈ codes, code ≠ 4095 ∧ s.glyph code = none := by
  simp [State.missing, Config.breakMark]

theorem State.runWidth_append (s : State) (scale : Nat) (codes more : List Nat) :
    s.runWidth scale (codes ++ more) = s.runWidth scale codes + s.runWidth scale more := by
  simp [State.runWidth, Nat.mul_add]

/-- The longest beginning of a string that fits is the one that fits while no longer one does. -/
theorem State.longestPrefix_eq_some {most : Nat} (hn : n ≤ most) (hfits : s.runWidth scale (codes.take n) + room ≤ width)
    (hlonger : ∀ m, n < m → m ≤ most → width < s.runWidth scale (codes.take m) + room) :
    s.longestPrefix scale width room codes most = some n := by
  induction most with
  | zero =>
    obtain rfl := Nat.le_zero.mp hn
    rw [State.longestPrefix, if_pos hfits]
  | succ most ih =>
    unfold State.longestPrefix
    rcases hn.eq_or_lt with rfl | hlt
    · rw [if_pos hfits]
    · rw [if_neg (not_le.mpr (hlonger _ hlt le_rfl))]
      exact ih (Nat.le_of_lt_succ hlt) fun m hm hmost => hlonger m hm (hmost.trans (Nat.le_succ _))

theorem State.longestPrefix_eq_none {most : Nat}
    (hnone : ∀ m, m ≤ most → width < s.runWidth scale (codes.take m) + room) :
    s.longestPrefix scale width room codes most = none := by
  induction most with
  | zero => rw [State.longestPrefix, if_neg (not_le.mpr (hnone 0 le_rfl))]
  | succ most ih =>
    unfold State.longestPrefix
    rw [if_neg (not_le.mpr (hnone _ le_rfl))]
    exact ih fun m hmost => hnone m (hmost.trans (Nat.le_succ _))

/-- A string is cut to its longest beginning that fits with the ellipsis (R142). -/
theorem State.truncate_eq_some {ellipsis : Nat} (hn : n < codes.length)
    (hfits : s.runWidth scale (codes.take n ++ [ellipsis]) ≤ width)
    (hlonger : ∀ m, n < m → m < codes.length → width < s.runWidth scale (codes.take m ++ [ellipsis])) :
    s.truncate scale width ellipsis codes = some (codes.take n ++ [ellipsis]) := by
  rw [State.truncate, State.longestPrefix_eq_some (n := n) (by omega) (by rwa [← State.runWidth_append])]
  · rfl
  · intro m hm hmost
    rw [← State.runWidth_append]
    exact hlonger m hm (by omega)

/-- Nothing is left of a string when not even the ellipsis fits (R142). -/
theorem State.truncate_eq_none {ellipsis : Nat} (hcodes : codes ≠ [])
    (hnone : ∀ m, m < codes.length → width < s.runWidth scale (codes.take m ++ [ellipsis])) :
    s.truncate scale width ellipsis codes = none := by
  have hlength := List.length_pos_iff.mpr hcodes
  rw [State.truncate, State.longestPrefix_eq_none]
  · rfl
  · intro m hmost
    rw [← State.runWidth_append]
    exact hnone m (by omega)

/-! ### The title (R144) -/

/-- The record of a title set on one line, centred in width and in the title band. -/
def State.titleSet (s : State) (f : LayoutFields) (codes : List Nat) (truncated : Bool) : TitleRecord :=
  { line := some (s.centredRun f.titleScale f.w codes), y := (f.t - 32 * f.titleScale) / 2, truncated,
    glyphMissing := codes.any s.missing, omitted := false }

/-- The record of a title that is not set. -/
def titleUnset (omitted : Bool) : TitleRecord :=
  { line := none, y := 0, truncated := false, glyphMissing := false, omitted }

variable {f : LayoutFields} {title : List Nat}

theorem State.fitTitle_nil (s : State) (f : LayoutFields) : s.fitTitle f [] = titleUnset false := rfl

theorem State.fitTitle_low (ht : title ≠ []) (hlow : f.t < 32 * f.titleScale) : s.fitTitle f title = titleUnset true := by
  simp only [State.fitTitle, if_neg ht, if_pos hlow]
  rfl

theorem State.fitTitle_whole (ht : title ≠ []) (hband : 32 * f.titleScale ≤ f.t)
    (hfits : s.runWidth f.titleScale title ≤ f.w) : s.fitTitle f title = s.titleSet f title false := by
  simp only [State.fitTitle, if_neg ht, if_neg (not_lt.mpr hband), if_pos hfits]
  rfl

theorem State.fitTitle_long (ht : title ≠ []) (hband : 32 * f.titleScale ≤ f.t)
    (hwide : f.w < s.runWidth f.titleScale title) :
    s.fitTitle f title = match s.truncate f.titleScale f.w f.ellipsis title with
      | some codes => s.titleSet f codes true
      | none => titleUnset true := by
  simp only [State.fitTitle, if_neg ht, if_neg (not_lt.mpr hband), if_neg (not_le.mpr hwide)]
  rfl

/-! ### Cells (R106, R120, R143) -/

theorem State.getElem?_completePlan_cells {p : Snapshot} {i : Nat} {x : SliceCell} (hx : p.cells[i]? = some x) :
    (s.completePlan p).cells[i]? =
      some (s.planCell p (gridOf p.layout p.cells.length) (targetsOf p.layout (gridOf p.layout p.cells.length)) i x) := by
  simp [State.completePlan, List.getElem?_zipIdx, hx]

theorem State.length_completePlan_cells (s : State) (p : Snapshot) :
    (s.completePlan p).cells.length = p.cells.length := by simp [State.completePlan]

/-- A cell's glyphs are missing on one of its lines. -/
theorem State.any_flatten_missing_iff {lines : List (List Nat)} :
    lines.flatten.any s.missing = true ↔ ∃ l ∈ lines, ∃ code ∈ l, code ≠ 4095 ∧ s.glyph code = none := by
  simp only [List.any_flatten, List.any_eq_true, ← State.any_missing_iff]

/-- Settles O37: the hand-over, and the plan by its cells and its title. -/
theorem planningCompletes : Obligations.PlanningCompletes := by
  refine ⟨fun s => ⟨fun hfree => ?_, ?_⟩, fun s p => ?_⟩
  · simp only [exec_planningCompletion, execPlanningCompletion, hfree]
  · intro k a b j p c plan c' hbusy hjobs hj ha
    refine ⟨s.completePlanning k, ?_, s.completePlanning_outcome k hjobs hj ha⟩
    simp only [exec_planningCompletion, execPlanningCompletion, hbusy]
  intro plan f grid targets copied width unloaded set notSet
  have hset {codes : List Nat} {truncated : Bool} (h : plan.title = s.titleSet f codes truncated) :
      set codes truncated := by
    simp only [set, h]
    exact ⟨rfl, rfl, rfl, rfl, State.any_missing_iff⟩
  have hnotSet {omitted : Bool} (h : plan.title = titleUnset omitted) : notSet omitted := by
    simp only [notSet, h]
    exact ⟨rfl, rfl, rfl, rfl⟩
  have htitle : plan.title = s.fitTitle f p.title := rfl
  refine ⟨rfl, rfl, rfl, s.length_completePlan_cells p, ?_, fun hpins => ?_,
    fun hpins ref im href him => ?_, fun hnone => ?_, fun hsome hlow => ?_, fun hsome hband => ⟨fun hfits => ?_, fun hwide =>
    ⟨fun n hn hfits hlonger => ?_, fun hnone => ?_⟩⟩⟩
  · intro i x hx fit
    refine ⟨_, State.getElem?_completePlan_cells hx, rfl, rfl, rfl, rfl, rfl, rfl, rfl, rfl, fun hsource => ?_,
      fun h im hsource him => ?_, rfl, fun _ => rfl, rfl, rfl, State.any_flatten_missing_iff⟩
    · simp [State.planCell, hsource]
    · have him : p.imageOf h = some im := him
      simp only [State.planCell, hsource, Option.bind_some, him, Option.map_some]
      rfl
  · simp [plan, State.completePlan, hpins]
  · have href : p.layout.placeholder = some ref := href
    have him : p.imageOf ref.handle = some im := him
    simp only [plan, State.completePlan, hpins, if_true, Snapshot.placeholderHandle, href, Option.map_some,
      Option.bind_some, him]
    rfl
  · exact hnotSet (by rw [htitle, hnone, State.fitTitle_nil])
  · exact hnotSet (by rw [htitle, State.fitTitle_low hsome hlow])
  · exact hset (by rw [htitle, State.fitTitle_whole hsome hband hfits])
  · exact hset (by rw [htitle, State.fitTitle_long hsome hband hwide, State.truncate_eq_some hn hfits hlonger])
  · exact hnotSet (by rw [htitle, State.fitTitle_long hsome hband hwide, State.truncate_eq_none hsome hnone])

end Sys2Proof.Machine
end

section
/-! PROOFS. The orders of the Glyph Store (O33), and the lines of a caption in its cell (O34). -/

set_option Elab.async false

namespace Sys2Proof.Machine

variable {s : State}

/-! ### The pixels of a mask (R132, R210) -/

/-- Bit i of a number read from n bytes, the first byte most significant, is bit i % 8 of the byte i / 8 places before the
last. -/
theorem testBit_foldl_bytes (f : Nat → Byte) {n i : Nat} (hi : i < 8 * n) :
    ((List.range n).foldl (fun acc k => acc * 256 + (f k).toNat) 0).testBit i
      = (f (n - 1 - i / 8)).getLsbD (i % 8) := by
  induction n generalizing i with
  | zero => omega
  | succ n ih =>
    have hlast := (f n).isLt
    rw [List.range_succ, List.foldl_append, List.foldl_cons, List.foldl_nil, mul_comm,
      Nat.testBit_two_pow_mul_add (i := 8) _ hlast]
    split
    · rw [show n + 1 - 1 - i / 8 = n by omega, show i % 8 = i by omega, BitVec.getLsbD]
    · rw [ih (by omega), show n - 1 - (i - 8) / 8 = n + 1 - 1 - i / 8 by omega, show (i - 8) % 8 = i % 8 by omega]

/-- Row v % 16, column u % 16 of a quadrant: two bytes a row, the most significant bit first. -/
theorem getLsbD_quadrantAt (p : Bytes) (o u v : Nat) :
    (quadrantAt p o).getLsbD (255 - (16 * (v % 16) + u % 16))
      = (p.getD (o + 2 * (v % 16) + u % 16 / 8) 0).getLsbD (7 - u % 8) := by
  have hread := testBit_foldl_bytes (fun k => p.getD (o + k) 0) (n := 32)
    (i := 255 - (16 * (v % 16) + u % 16)) (by omega)
  rw [quadrantAt, BitVec.getLsbD_ofNat, decide_eq_true (by omega), Bool.true_and]
  refine hread.trans ?_
  rw [show o + (32 - 1 - (255 - (16 * (v % 16) + u % 16)) / 8) = o + 2 * (v % 16) + u % 16 / 8 by omega,
    show (255 - (16 * (v % 16) + u % 16)) % 8 = 7 - u % 8 by omega]

/-- A FULL load gives each pixel the bit of its quadrant's bytes. -/
theorem maskPixel_readMask_full {p : Bytes} (hform : byteAt p 3 = 1) (u v : Nat) :
    maskPixel (readMask p) u v =
      (p.getD (4 + 32 * (2 * (if v < 16 then 0 else 1) + (if u < 16 then 0 else 1)) + 2 * (v % 16) + u % 16 / 8) 0).getLsbD
        (7 - u % 8) := by
  rw [readMask, if_pos hform, maskPixel]
  split <;> split <;> exact getLsbD_quadrantAt _ _ _ _

/-- A NARROW load gives the left pixels the bits of its two quadrants and leaves the right ones clear. -/
theorem maskPixel_readMask_narrow {p : Bytes} (hform : byteAt p 3 = 0) (u v : Nat) :
    maskPixel (readMask p) u v =
      if u < 16 then
        (p.getD (4 + 32 * (if v < 16 then 0 else 1) + 2 * (v % 16) + u % 16 / 8) 0).getLsbD (7 - u % 8)
      else false := by
  rw [readMask, if_neg (by omega), maskPixel]
  by_cases hu : u < 16
  · simp only [if_pos hu]
    split <;> exact getLsbD_quadrantAt _ _ _ _
  · simp [hu]

/-! ### The glyph window and Load Glyph (R134, R136, R137) -/

theorem glyphFieldsOk_eq_false_iff {p : Bytes} :
    glyphFieldsOk p = false ↔
      4094 < word16At p 0 ∨ byteAt p 2 = 0 ∨ 32 < byteAt p 2 ∨ 1 < byteAt p 3 ∨ (byteAt p 3 = 0 ∧ 16 < byteAt p 2) := by
  rw [← Bool.not_eq_true]
  simp only [glyphFieldsOk, Bool.and_eq_true, Bool.or_eq_true, decide_eq_true_eq]
  omega

section LoadGlyph

variable (s : State) (from_ : Sender) {p : Bytes}

theorem State.loadGlyph_badField (hfields : glyphFieldsOk p = false) :
    s.loadGlyph from_ p = s.refuse from_ .badField := by
  simp [State.loadGlyph, hfields]

theorem State.loadGlyph_notOpen (hfields : glyphFieldsOk p = true) (hw : s.gs.window ≠ .opened) :
    s.loadGlyph from_ p = s.refuse from_ .notOpen := by
  simp [State.loadGlyph, hfields, hw]

/-- An accepted Load Glyph answers whether the record was LOADED and stores it. -/
theorem State.loadGlyph_accepted (hfields : glyphFieldsOk p = true) (hw : s.gs.window = .opened) :
    s.loadGlyph from_ p = (s.ok from_ (bytesBool (s.glyph (word16At p 0)).isSome)).setGlyph (word16At p 0)
      { advance := byteAt p 2, mask := readMask p } := by
  simp [State.loadGlyph, hfields, hw]

end LoadGlyph

/-- The window's state as the reply carries it (R134). -/
theorem bytes1_windowCode (w : WindowState) :
    bytes1 w.code = [match w with | .closed => 0 | .opening => 1 | .opened => 2] := by cases w <;> rfl

/-- An Open or Close Glyph Window: its reply, and the window's state. -/
theorem setWindow_outcome (s : State) (o : Order) (port : Port) (tag : Byte) (fields : Bytes) (w : WindowState) :
    let t := ((s.arrival port).ok ⟨port, tag, o.code⟩ fields).setWindow w
    Accepted o port tag fields [.gs] s t ∧ t.gs = { s.gs with window := w } :=
  ⟨Accepted.intro rfl (State.touches_setWindow _ w).mono.2, by simp [State.setWindow]⟩

/-- Settles O33: each order by its outcomes, and a loaded mask by its two forms. -/
theorem glyphOrders : Obligations.GlyphOrders := by
  intro s port tag p after code advance form bad
  have hafter : openedWindow s.gs.window s.gs.inFlight = after := by
    cases hw : s.gs.window <;> simp [openedWindow, after, hw]
  have hglyph d : (s.arrival port).glyph d = s.glyph d := by simp
  have hgs : (s.arrival port).gs = s.gs := by simp
  have hfields (h : ¬ bad) : glyphFieldsOk p = true := by
    rwa [← Bool.not_eq_false, glyphFieldsOk_eq_false_iff]
  refine ⟨fun hadm => ?_, fun hadm => ⟨_, exec_closeGlyphWindow hadm tag, setWindow_outcome _ _ _ _ _ _⟩,
    fun hadm => ⟨_, exec_loadGlyph hadm tag, fun h => ?_, fun h hw => ?_, fun h hw => ?_⟩⟩
  · refine ⟨_, ?_, setWindow_outcome s .openGlyphWindow port tag _ after⟩
    rw [exec_openGlyphWindow hadm tag]
    simp only [hgs, hafter]
    exact congrArg (fun reply => Host.Outcome.next (((s.arrival port).ok _ reply).setWindow after))
      (bytes1_windowCode after)
  · rw [State.loadGlyph_badField _ _ (glyphFieldsOk_eq_false_iff.mpr h)]
    exact Refused.intro _ _ _ _ _
  · rw [State.loadGlyph_notOpen _ _ (hfields h) (by rwa [hgs])]
    exact Refused.intro _ _ _ _ _
  · rw [State.loadGlyph_accepted _ _ (hfields h) (by rwa [hgs]), hglyph]
    refine ⟨Accepted.intro rfl (State.touches_gs _ _).mono.2, ?_, fun g hg u v _ _ => ?_, fun d hd => ?_, ?_, ?_⟩
    · exact (State.glyph_setGlyph _ _ _ _).trans (if_pos rfl)
    · rw [State.glyph_setGlyph, if_pos rfl] at hg
      obtain rfl := Option.some.inj hg
      exact ⟨fun hform => maskPixel_readMask_full hform u v, fun hform => maskPixel_readMask_narrow hform u v⟩
    · simp [State.glyph_setGlyph, hd, code]
    · simpa [State.setGlyph] using hw
    · simp [State.setGlyph]

/-! ### Strings cut to a width (R142) -/

theorem State.longestPrefix_fits {scale width room most n : Nat} {codes : List Nat}
    (h : s.longestPrefix scale width room codes most = some n) : s.runWidth scale (codes.take n) + room ≤ width := by
  fun_induction State.longestPrefix s scale width room codes most with
  | case1 most hfits =>
    obtain rfl := Option.some.inj h
    exact hfits
  | case2 => cases h
  | case3 most _ ih => exact ih h

/-- Whatever a cut leaves of a string fits. -/
theorem State.truncate_fits {scale width ellipsis : Nat} {codes line : List Nat}
    (h : s.truncate scale width ellipsis codes = some line) : s.runWidth scale line ≤ width := by
  obtain ⟨n, hn, rfl⟩ := Option.map_eq_some_iff.mp h
  rw [State.runWidth_append]
  exact State.longestPrefix_fits hn

/-! ### Captions (R141, R142) -/

theorem splitAtBreak_append {upper : List Nat} (hmark : 4095 ∉ upper) (lower : List Nat) :
    splitAtBreak (upper ++ 4095 :: lower) = some (upper, lower) := by
  have hbefore : ∀ c ∈ upper, decide (c ≠ 4095) = true := fun c hc => decide_eq_true fun h => hmark (h ▸ hc)
  simp only [splitAtBreak, Config.breakMark, if_pos (List.mem_append_cons_self),
    List.takeWhile_append_of_pos hbefore, List.dropWhile_append_of_pos hbefore]
  simp

/-- A caption with a break mark is parted at its first one. -/
theorem splitAtBreak_eq_some_iff {codes upper lower : List Nat} :
    splitAtBreak codes = some (upper, lower) ↔ codes = upper ++ 4095 :: lower ∧ 4095 ∉ upper := by
  refine ⟨fun h => ?_, fun ⟨hcodes, hmark⟩ => hcodes ▸ splitAtBreak_append hmark lower⟩
  by_cases hmem : 4095 ∈ codes
  · obtain ⟨before, after, rfl, hmark⟩ := List.eq_append_cons_of_mem hmem
    obtain ⟨rfl, rfl⟩ := Prod.mk.inj (Option.some.inj ((splitAtBreak_append hmark after).symm.trans h))
    exact ⟨rfl, hmark⟩
  · rw [splitAtBreak, if_neg hmem] at h
    cases h

section Captions

/-- Lines available to a caption (R141). -/
def linesAvailable (f : LayoutFields) : Nat := min 2 (f.cap / (32 * f.captionScale))

/-- A caption parted at its break mark into two lines that each fit, with two lines available (R141). -/
def State.FitsInTwo (s : State) (f : LayoutFields) (cw : Nat) (codes upper lower : List Nat) : Prop :=
  linesAvailable f = 2 ∧ codes = upper ++ 4095 :: lower ∧ 4095 ∉ upper
    ∧ s.runWidth f.captionScale upper ≤ cw ∧ s.runWidth f.captionScale lower ≤ cw

variable {f : LayoutFields} {cw : Nat} {codes upper lower : List Nat}

theorem State.fitCaption_low (hlow : linesAvailable f = 0) :
    s.fitCaption f cw codes = { lines := [], truncated := false, omitted := true } := if_pos hlow

theorem State.fitCaption_whole (hline : linesAvailable f ≠ 0) (hfits : s.runWidth f.captionScale codes ≤ cw) :
    s.fitCaption f cw codes = { lines := [codes], truncated := false, omitted := false } :=
  (if_neg hline).trans (if_pos hfits)

theorem State.fitCaption_two (hwide : cw < s.runWidth f.captionScale codes)
    (htwo : s.FitsInTwo f cw codes upper lower) :
    s.fitCaption f cw codes = { lines := [upper, lower], truncated := false, omitted := false } := by
  obtain ⟨havailable, hcodes, hmark, hupper, hlower⟩ := htwo
  have hsplit := splitAtBreak_eq_some_iff.mpr ⟨hcodes, hmark⟩
  simp only [linesAvailable] at havailable
  simp [State.fitCaption, havailable, not_le.mpr hwide, hsplit, hupper, hlower]

theorem State.fitCaption_cut (hline : linesAvailable f ≠ 0) (hwide : cw < s.runWidth f.captionScale codes)
    (hone : ∀ upper lower, ¬ s.FitsInTwo f cw codes upper lower) :
    s.fitCaption f cw codes = s.cutCaption f cw codes := by
  simp only [linesAvailable] at hline
  simp only [State.fitCaption, if_neg hline, if_neg (not_le.mpr hwide)]
  split
  next upper lower hsplit =>
    obtain ⟨hcodes, hmark⟩ := splitAtBreak_eq_some_iff.mp hsplit
    exact if_neg fun ⟨havailable, hupper, hlower⟩ => hone upper lower ⟨havailable, hcodes, hmark, hupper, hlower⟩
  · rfl

/-- The codes a cut caption may keep: all but the break mark (R142). -/
def withoutBreak (codes : List Nat) : List Nat := codes.filter (fun c => decide (c ≠ 4095))

theorem State.cutCaption_some {line : List Nat}
    (hcut : s.truncate f.captionScale cw f.ellipsis (withoutBreak codes) = some line) :
    s.cutCaption f cw codes = { lines := [line], truncated := true, omitted := false } := by
  rw [withoutBreak] at hcut
  simp only [State.cutCaption, Config.breakMark, hcut]

theorem State.cutCaption_none (hcut : s.truncate f.captionScale cw f.ellipsis (withoutBreak codes) = none) :
    s.cutCaption f cw codes = { lines := [], truncated := false, omitted := true } := by
  rw [withoutBreak] at hcut
  simp only [State.cutCaption, Config.breakMark, hcut]

/-- A caption wider than its cell keeps some code: the advance of the break mark is 0 (R140). -/
theorem State.withoutBreak_ne_nil (hwide : cw < s.runWidth f.captionScale codes) : withoutBreak codes ≠ [] := by
  intro hnil
  have hmarks : ∀ c ∈ codes, s.advance c = 0 := fun c hc => by
    have hmark : c = 4095 := by simpa using List.filter_eq_nil_iff.mp hnil c hc
    simp [State.advance, Config.breakMark, hmark]
  have hsum : (codes.map s.advance).sum = 0 := List.sum_eq_zero (by simpa using hmarks)
  rw [State.runWidth, hsum] at hwide
  omega

/-- What R141 and R143 ask of the lines of a caption, whichever way they were found. -/
structure State.CaptionFits (s : State) (f : LayoutFields) (cw : Nat) (fit : CaptionFit) : Prop where
  width : ∀ l ∈ fit.lines, s.runWidth f.captionScale l ≤ cw
  lines : fit.lines.length ≤ linesAvailable f
  omitted : fit.omitted = true ↔ fit.lines = []
  notBoth : ¬ (fit.truncated = true ∧ fit.omitted = true)

theorem State.captionFits_cutCaption (hline : linesAvailable f ≠ 0) :
    s.CaptionFits f cw (s.cutCaption f cw codes) := by
  cases hcut : s.truncate f.captionScale cw f.ellipsis (withoutBreak codes) with
  | some line =>
    rw [State.cutCaption_some hcut]
    exact ⟨by simpa using State.truncate_fits hcut, Nat.one_le_iff_ne_zero.mpr hline, by simp, by simp⟩
  | none =>
    rw [State.cutCaption_none hcut]
    exact ⟨by simp, Nat.zero_le _, by simp, by simp⟩

/-- The lines found for a caption fit, by the four ways to find them. -/
theorem State.captionFits_fitCaption (s : State) (f : LayoutFields) (cw : Nat) (codes : List Nat) :
    s.CaptionFits f cw (s.fitCaption f cw codes) := by
  by_cases hline : linesAvailable f = 0
  · rw [State.fitCaption_low hline]
    exact ⟨by simp, Nat.zero_le _, by simp, by simp⟩
  by_cases hfits : s.runWidth f.captionScale codes ≤ cw
  · rw [State.fitCaption_whole hline hfits]
    exact ⟨by simpa using hfits, Nat.one_le_iff_ne_zero.mpr hline, by simp, by simp⟩
  have hwide := not_le.mp hfits
  by_cases htwo : ∃ upper lower, s.FitsInTwo f cw codes upper lower
  · obtain ⟨upper, lower, htwo⟩ := htwo
    rw [State.fitCaption_two hwide htwo]
    obtain ⟨havailable, -, -, hupper, hlower⟩ := htwo
    exact ⟨by simpa using ⟨hupper, hlower⟩, havailable.ge, by simp, by simp⟩
  · rw [State.fitCaption_cut hline hwide fun upper lower h => htwo ⟨upper, lower, h⟩]
    exact State.captionFits_cutCaption hline

/-- As many lines as are available stand within the caption band. -/
theorem lines_within_band {n : Nat} (hn : n ≤ linesAvailable f) : n * 32 * f.captionScale ≤ f.cap := by
  calc n * 32 * f.captionScale = n * (32 * f.captionScale) := Nat.mul_assoc _ _ _
    _ ≤ f.cap / (32 * f.captionScale) * (32 * f.captionScale) :=
        Nat.mul_le_mul_right _ (hn.trans (Nat.min_le_right _ _))
    _ ≤ f.cap := Nat.div_mul_le_self _ _

theorem linesAvailable_ne_zero (hscale : 0 < f.captionScale) (hband : 32 * f.captionScale ≤ f.cap) :
    linesAvailable f ≠ 0 := by
  have hpos : 0 < f.cap / (32 * f.captionScale) := Nat.div_pos hband (by omega)
  rw [linesAvailable]
  omega

end Captions

/-- Settles O34: what the lines found have in common, and the four ways to find them. -/
theorem captionFitsItsBand : Obligations.CaptionFitsItsBand := by
  intro s f cw codes fit width available splits kept
  obtain ⟨hwidth, hlines, homitted, hnotBoth⟩ := s.captionFits_fitCaption f cw codes
  refine ⟨hwidth, lines_within_band hlines, homitted, hnotBoth, State.fitCaption_low,
    fun hscale hband hfits => State.fitCaption_whole (linesAvailable_ne_zero hscale hband) hfits,
    fun hwide upper lower htwo => State.fitCaption_two hwide htwo, fun hline hwide hone => ?_⟩
  have hcut : fit = s.cutCaption f cw codes := State.fitCaption_cut hline.ne' hwide hone
  have hkept : kept ≠ [] := State.withoutBreak_ne_nil hwide
  have hlength := List.length_pos_iff.mpr hkept
  refine ⟨fun n hn hfits hlonger => hcut.trans (State.cutCaption_some (State.truncate_eq_some ?_ hfits ?_)),
    fun hnone => hcut.trans (State.cutCaption_none (State.truncate_eq_none hkept ?_))⟩
  · exact Nat.lt_of_le_pred hlength hn
  · exact fun m hm hmost => hlonger m hm (Nat.le_pred_of_lt hmost)
  · exact fun m hmost => hnone m (Nat.le_pred_of_lt hmost)

end Sys2Proof.Machine
end

section
/-! PROOFS. Configure, Enable and Disable Channel by their outcomes, and the state of a channel by its record (O41). -/

set_option Elab.async false

namespace Sys2Proof.Machine

variable {s : State} {k : Fin 4} {c : Channel} {port : Port} {tag : Byte} {o : Order}

/-! ### Answers that give a channel a record -/

/-- An order answered OK whose channel takes a record: the answer, the other channels, and the channel with its stall timer
settled. -/
theorem accepted_putChannel (o : Order) (port : Port) (tag : Byte) (fields : Bytes) (s : State) (k : Fin 4) (c : Channel) :
    let t := ((s.arrival port).send port (replyFrame o tag .ok fields)).putChannel k c
    Accepted o port tag fields [.pch] s t ∧ OthersSame k s t ∧ ChannelTakes k c s t := by
  intro t
  refine ⟨Accepted.intro rfl (((State.touches_putChannel _ k c).only rfl).mono (by simp)), ?_, ?_⟩
  · exact (OthersSame.of_pch (by simp)).trans (State.othersSame_putChannel _ k c)
  · have htakes := ((s.arrival port).send port (replyFrame o tag .ok fields)).channelTakes_putChannel k c
    rwa [ChannelTakes, State.channel_send, State.channel_arrival] at htakes

/-- A channel that takes a record which waits for nothing has its stall timer stopped. -/
theorem ChannelTakes.stopped {t : State} (h : ChannelTakes k c s t) (hw : c.pressWait = none) :
    t.channel k = { c with stallTimer := none } := by
  rw [h, settleTimer_of_no_wait hw]

/-- With no job a channel waits for nothing on its press. -/
theorem Channel.pressWait_of_no_job (hjobs : c.jobs = []) : c.pressWait = none := by
  have hp : c.renderingPlan? = none := by simp [Channel.renderingPlan?, hjobs]
  cases hon : c.enabled with
  | false => simp [Channel.pressWait, Channel.state_off hon]
  | true =>
    have hidle : c.state = .idle := by
      simp [Channel.state_not_rendering hon (.inl hp), Channel.plannedPlan?, hjobs]
    simp [Channel.pressWait, hidle]

/-! ### Configuration items by their codes (R150, R213) -/

theorem mode?_eq_none {n : Nat} : mode? n = none ↔ 2 < n :=
  match n with
  | 0 | 1 | 2 => by simp [mode?]
  | n + 3 => by simp [mode?]

theorem source?_eq_none {n : Nat} : source? n = none ↔ n = 3 ∨ 7 < n :=
  match n with
  | 0 | 1 | 2 | 3 | 4 | 5 | 6 | 7 => by simp [source?]
  | n + 8 => by simp [source?]

theorem order?_eq_none {n : Nat} : order? n = none ↔ 1 < n :=
  match n with
  | 0 | 1 => by simp [order?]
  | n + 2 => by simp [order?]

theorem bool?_eq {n : Nat} : bool? n = if 1 < n then none else some (decide (n = 1)) :=
  match n with
  | 0 | 1 => by simp [bool?]
  | n + 2 => by simp [bool?]

theorem mode?_eq_some {n : Nat} {m : ChannelMode} : mode? n = some m ↔ m.code = n := by
  constructor
  · unfold mode?
    split <;> simp +contextual [ChannelMode.code, eq_comm]
  · rintro rfl; cases m <;> rfl

theorem source?_eq_some {n : Nat} {t : TriggerSource} : source? n = some t ↔ t.code = n := by
  constructor
  · unfold source?
    split <;> simp +contextual [TriggerSource.code, eq_comm]
  · rintro rfl
    cases t with
    | chained k => fin_cases k <;> rfl
    | _ => rfl

theorem order?_eq_some {n : Nat} {d : BandOrder} : order? n = some d ↔ d.code = n := by
  constructor
  · unfold order?
    split <;> simp +contextual [BandOrder.code, eq_comm]
  · rintro rfl; cases d <;> rfl

theorem ChannelMode.code_eq_one {m : ChannelMode} : m.code = 1 ↔ m = .row := by cases m <;> simp [ChannelMode.code]

theorem BandOrder.code_eq_one {d : BandOrder} : d.code = 1 ↔ d = .reverse := by cases d <;> simp [BandOrder.code]

/-- The first check of a Configure Channel refuses its payload (R150). -/
def ConfigurationBad (p : Bytes) : Prop :=
  2 < byteAt p 0 ∨ byteAt p 1 = 3 ∨ 7 < byteAt p 1 ∨ 1 < byteAt p 2 ∨ 1 < byteAt p 3
    ∨ (byteAt p 4 ≠ 16 ∧ byteAt p 4 ≠ 32 ∧ byteAt p 4 ≠ 64) ∨ (byteAt p 0 = 1 ∧ byteAt p 2 = 1)

/-- The items as the payload's codes give them, when its height and its mode with its order are allowed. -/
theorem readConfiguration_of_codes {p : Bytes} {mode : ChannelMode} {source : TriggerSource} {order : BandOrder}
    (hmode : mode.code = byteAt p 0) (hsource : source.code = byteAt p 1) (horder : order.code = byteAt p 2)
    (hmirror : byteAt p 3 ≤ 1) :
    readConfiguration p =
      if (byteAt p 4 = 16 ∨ byteAt p 4 = 32 ∨ byteAt p 4 = 64) ∧ ¬ (byteAt p 0 = 1 ∧ byteAt p 2 = 1) then
        some { mode, source, order, mirror := decide (byteAt p 3 = 1), bandHeight := byteAt p 4,
               stallWindow := byteAt p 5 }
      else none := by
  simp only [readConfiguration, mode?_eq_some.mpr hmode, source?_eq_some.mpr hsource, order?_eq_some.mpr horder, bool?_eq,
    if_neg (not_lt.mpr hmirror)]
  simp only [← hmode, ← horder, ChannelMode.code_eq_one, BandOrder.code_eq_one]

theorem readConfiguration_bad {p : Bytes} (h : ConfigurationBad p) : readConfiguration p = none := by
  cases hm : mode? (byteAt p 0) with
  | none => simp only [readConfiguration, hm]
  | some mode =>
    cases hs : source? (byteAt p 1) with
    | none => simp only [readConfiguration, hm, hs]
    | some source =>
      cases ho : order? (byteAt p 2) with
      | none => simp only [readConfiguration, hm, hs, ho]
      | some order =>
        by_cases hb : 1 < byteAt p 3
        · simp only [readConfiguration, hm, hs, ho, bool?_eq, if_pos hb]
        · rw [readConfiguration_of_codes (mode?_eq_some.mp hm) (source?_eq_some.mp hs) (order?_eq_some.mp ho)
            (not_lt.mp hb), if_neg]
          have hmode : ¬ 2 < byteAt p 0 := fun hn => by simp [mode?_eq_none.mpr hn] at hm
          have hsource : ¬ (byteAt p 1 = 3 ∨ 7 < byteAt p 1) := fun hn => by simp [source?_eq_none.mpr hn] at hs
          have horder : ¬ 1 < byteAt p 2 := fun hn => by simp [order?_eq_none.mpr hn] at ho
          unfold ConfigurationBad at h
          omega

theorem readConfiguration_good {p : Bytes} (h : ¬ ConfigurationBad p) {mode : ChannelMode} {source : TriggerSource}
    {order : BandOrder} (hmode : mode.code = byteAt p 0) (hsource : source.code = byteAt p 1)
    (horder : order.code = byteAt p 2) :
    readConfiguration p = some { mode, source, order, mirror := decide (byteAt p 3 = 1), bandHeight := byteAt p 4,
                                 stallWindow := byteAt p 5 } := by
  unfold ConfigurationBad at h
  rw [readConfiguration_of_codes hmode hsource horder (by omega), if_pos (by omega)]

/-- Every allowed payload has items. -/
theorem readConfiguration_isSome {p : Bytes} (h : ¬ ConfigurationBad p) : ∃ f, readConfiguration p = some f := by
  have hallowed := h
  unfold ConfigurationBad at hallowed
  obtain ⟨mode, hm⟩ := Option.ne_none_iff_exists'.mp fun hn : mode? (byteAt p 0) = none =>
    absurd (mode?_eq_none.mp hn) (by omega)
  obtain ⟨source, hs⟩ := Option.ne_none_iff_exists'.mp fun hn : source? (byteAt p 1) = none =>
    absurd (source?_eq_none.mp hn) (by omega)
  obtain ⟨order, ho⟩ := Option.ne_none_iff_exists'.mp fun hn : order? (byteAt p 2) = none =>
    absurd (order?_eq_none.mp hn) (by omega)
  exact ⟨_, readConfiguration_good h (mode?_eq_some.mp hm) (source?_eq_some.mp hs) (order?_eq_some.mp ho)⟩

/-! ### The state of a channel (R149) -/

theorem Channel.state_eq_off_iff : c.state = .off ↔ c.enabled = false := by
  refine ⟨fun h => ?_, Channel.state_off⟩
  by_contra hon
  have hon : c.enabled = true := by simpa using hon
  by_cases hrecord : c.renderingPlan? = none ∨ c.rendering = none
  · rw [Channel.state_not_rendering hon hrecord] at h
    split at h <;> cases h
  · obtain ⟨hp, hr⟩ := not_or.mp hrecord
    obtain ⟨p, hp⟩ := Option.ne_none_iff_exists'.mp hp
    obtain ⟨r, hr⟩ := Option.ne_none_iff_exists'.mp hr
    rw [Channel.state_rendering hon hp hr] at h
    split at h <;> cases h

/-- The table of R149 for an enabled channel. -/
theorem Channel.state_table (hon : c.enabled = true) :
    (∀ p r, c.renderingPlan? = some p → c.rendering = some r →
        c.state = if r.inFlight = true ∨ r.started < r.released then .running else .paused)
      ∧ (∀ p, c.plannedPlan? = some p → c.state = .armed)
      ∧ (c.renderingPlan? = none → c.plannedPlan? = none → c.state = .idle) := by
  refine ⟨fun p r hp hr => Channel.state_rendering hon hp hr, fun p hp => ?_, fun hr hp => ?_⟩
  · obtain ⟨j, rest, hjobs, hj⟩ := Channel.plannedPlan?_eq_some hp
    exact Channel.armed_iff.mpr ⟨hon, j, rest, p, hjobs, hj⟩
  · rw [Channel.state_not_rendering hon (.inl hr), hp]
    rfl

/-! ### Configure, Enable and Disable Channel (R150, R151) -/

section Orders

variable (s k) (from_ : Sender) {p : Bytes}

theorem State.configureChannel_badField (h : ConfigurationBad p) :
    s.configureChannel from_ k p = s.refuse from_ .badField := by
  simp only [State.configureChannel, readConfiguration_bad h]

theorem State.configureChannel_busy (h : ¬ ConfigurationBad p)
    (hbusy : ¬ (((s.channel k).state = .off ∨ (s.channel k).state = .idle) ∧ (s.channel k).jobs = [])) :
    s.configureChannel from_ k p = s.refuse from_ .busy := by
  obtain ⟨f, hf⟩ := readConfiguration_isSome h
  simp only [State.configureChannel, hf, if_pos hbusy]

theorem State.configureChannel_accepted {f : Configuration} (hf : readConfiguration p = some f)
    (hquiet : ((s.channel k).state = .off ∨ (s.channel k).state = .idle) ∧ (s.channel k).jobs = []) :
    s.configureChannel from_ k p = (s.ok from_ []).putChannel k { s.channel k with
      mode := f.mode, source := f.source, order := f.order, mirror := f.mirror, bandHeight := f.bandHeight,
      stallWindow := f.stallWindow, flag := false, credits := 0 } := by
  simp only [State.configureChannel, hf, if_neg (not_not.mpr hquiet)]

theorem State.disableChannel_off (h : (s.channel k).state = .off) : s.disableChannel from_ k = s.ok from_ [] := by
  simp only [State.disableChannel, h]

theorem State.disableChannel_idle (h : (s.channel k).state = .idle) (hjobs : (s.channel k).jobs = []) :
    s.disableChannel from_ k =
      (s.ok from_ []).putChannel k { s.channel k with enabled := false, flag := false, credits := 0 } := by
  simp only [State.disableChannel, h, if_pos hjobs]

theorem State.disableChannel_busy (hon : (s.channel k).state ≠ .off)
    (h : ¬ ((s.channel k).state = .idle ∧ (s.channel k).jobs = [])) :
    s.disableChannel from_ k = s.refuse from_ .busy := by
  unfold State.disableChannel
  extract_lets c
  split
  · next hoff => exact absurd hoff hon
  · next hidle => exact if_neg fun hjobs => h ⟨hidle, hjobs⟩
  · rfl

end Orders

/-- Settles O41: the table of states, and each order by its refusals and its one change. -/
theorem channelSetupOrders : Obligations.ChannelSetupOrders := by
  refine ⟨fun c => ⟨Channel.state_eq_off_iff, Channel.state_table⟩, fun s k tag p => ?_⟩
  intro c bad quiet
  have hc : (s.arrival (.p k)).channel k = c := State.channel_arrival _ _ _
  refine ⟨fun h => ⟨_, exec_configureChannel h tag, fun hbad => ?_, fun hgood hbusy => ?_,
    fun hgood hquiet mode source order hmode hsource horder => ?_⟩,
    fun h => ⟨_, exec_enableChannel h tag, fun hon => ?_, fun hoff => ?_⟩,
    fun h => ⟨_, exec_disableChannel h tag, fun hoff => ?_, fun hidle hjobs => ?_, fun hon hbusy => ?_⟩⟩
  · rw [State.configureChannel_badField _ _ _ hbad]
    exact Refused.intro _ _ _ _ _
  · rw [State.configureChannel_busy _ _ _ hgood (by rwa [hc])]
    exact Refused.intro _ _ _ _ _
  · rw [State.configureChannel_accepted _ _ _ (readConfiguration_good hgood hmode hsource horder) (by rwa [hc]), hc]
    obtain ⟨haccepted, hothers, htakes⟩ := accepted_putChannel .configureChannel (.p k) tag [] s k { c with
      mode := mode, source := source, order := order, mirror := decide (byteAt p 3 = 1), bandHeight := byteAt p 4,
      stallWindow := byteAt p 5, flag := false, credits := 0 }
    exact ⟨haccepted, hothers, htakes.stopped (Channel.pressWait_of_no_job hquiet.2)⟩
  · rw [State.enableChannel, hc, if_pos hon]
    exact Accepted.plain _ _ _ _ _ _
  · rw [State.enableChannel, hc, if_neg (by simp [hoff])]
    exact accepted_putChannel .enableChannel (.p k) tag [] s k { c with enabled := true }
  · rw [State.disableChannel_off _ _ _ (by rwa [hc])]
    exact Accepted.plain _ _ _ _ _ _
  · rw [State.disableChannel_idle _ _ _ (by rwa [hc]) (by rwa [hc]), hc]
    obtain ⟨haccepted, hothers, htakes⟩ := accepted_putChannel .disableChannel (.p k) tag [] s k { c with
      enabled := false, flag := false, credits := 0 }
    exact ⟨haccepted, hothers, htakes.stopped (Channel.pressWait_of_no_job hjobs)⟩
  · rw [State.disableChannel_busy _ _ _ (by rwa [hc]) (by rwa [hc])]
    exact Refused.intro _ _ _ _ _

end Sys2Proof.Machine
end

section
/-! PROOFS. Queue Page and Cancel Page by their outcomes (O42); the trigger flag, the release it allows, and the credits (O43). -/

set_option Elab.async false

namespace Sys2Proof.Machine

variable {s t : State} {k : Fin 4} {c : Channel} {j : Job} {a b : List Job}

/-! ### The job list (R153, R154) -/

/-- The last job of a list that satisfies a test is removed. -/
theorem removeLast_append {test : Job → Bool} (hb : ∀ x ∈ b, test x = false) (hj : test j = true) :
    removeLast test (a ++ j :: b) = a ++ b := by
  have hreverse : (a ++ j :: b).reverse = b.reverse ++ j :: a.reverse := by simp
  rw [removeLast, hreverse, removeFirst_append (fun x hx => hb x (List.mem_reverse.mp hx)) hj]
  simp

section Orders

variable (s k) (from_ : Sender) {n page copies : Nat}

theorem State.queuePage_badField (h : 511 < n ∨ copies = 0 ∨ 99 < copies) :
    s.queuePage from_ k n page copies = s.refuse from_ .badField := if_pos h

theorem State.queuePage_notFound (h : ¬ (511 < n ∨ copies = 0 ∨ 99 < copies)) (he : (s.classAt n).state = .empty) :
    s.queuePage from_ k n page copies = s.refuse from_ .notFound := by
  simp only [State.queuePage, if_neg h, if_pos he]

theorem State.queuePage_busy (h : ¬ (511 < n ∨ copies = 0 ∨ 99 < copies)) (he : (s.classAt n).state ≠ .empty)
    (hfull : 4 ≤ (s.channel k).jobs.length) : s.queuePage from_ k n page copies = s.refuse from_ .busy := by
  simp only [State.queuePage, if_neg h, if_neg he]
  exact if_pos hfull

theorem State.queuePage_accepted (h : ¬ (511 < n ∨ copies = 0 ∨ 99 < copies)) (he : (s.classAt n).state ≠ .empty)
    (hroom : (s.channel k).jobs.length < 4) :
    s.queuePage from_ k n page copies = (s.ok from_ (bytes1 (s.channel k).jobs.length)).putChannel k { s.channel k with
      jobs := (s.channel k).jobs ++ [{ classNo := n, page := page, copies := copies, stage := .queued }] } := by
  simp only [State.queuePage, if_neg h, if_neg he]
  exact if_neg (not_le.mpr hroom)

/-- The job has the class and page number named. -/
def Job.Named (n page : Nat) (j : Job) : Prop := j.classNo = n ∧ j.page = page

theorem State.cancelPage_badField (h : 511 < n) : s.cancelPage from_ k n page = s.refuse from_ .badField := if_pos h

theorem State.cancelPage_notFound (h : n ≤ 511) (hnone : ∀ j ∈ (s.channel k).jobs, ¬ j.Named n page) :
    s.cancelPage from_ k n page = s.refuse from_ .notFound := by
  have hnamed : ∀ j ∈ (s.channel k).jobs, (decide (j.classNo = n) && decide (j.page = page)) = false := fun j hj => by
    simpa [Job.Named] using hnone j hj
  rw [State.cancelPage, if_neg (not_lt.mpr h), if_neg, if_neg]
  · simpa using hnamed
  · simpa using fun j hj hc hp => absurd ⟨hc, hp⟩ (hnone j hj)

theorem State.cancelPage_busy (h : n ≤ 511) (hsome : ∃ j ∈ (s.channel k).jobs, j.Named n page)
    (hlater : ∀ j ∈ (s.channel k).jobs, j.Named n page → j.queued = false) :
    s.cancelPage from_ k n page = s.refuse from_ .busy := by
  obtain ⟨j, hj, hc, hp⟩ := hsome
  rw [State.cancelPage, if_neg (not_lt.mpr h), if_neg, if_pos]
  · exact List.any_eq_true.mpr ⟨j, hj, by simp [hc, hp]⟩
  · simpa using fun j hj hc hp => hlater j hj ⟨hc, hp⟩

theorem State.cancelPage_accepted (h : n ≤ 511) (hjobs : (s.channel k).jobs = a ++ j :: b) (hj : j.Named n page)
    (hq : j.queued = true) (hb : ∀ x ∈ b, x.Named n page → x.queued = false) :
    s.cancelPage from_ k n page = (s.ok from_ []).putChannel k { s.channel k with jobs := a ++ b } := by
  obtain ⟨hc, hp⟩ := hj
  have hfound : (decide (j.classNo = n) && decide (j.page = page) && j.queued) = true := by simp [hc, hp, hq]
  have hbehind : ∀ x ∈ b, (decide (x.classNo = n) && decide (x.page = page) && x.queued) = false := fun x hx => by
    by_cases hn : x.Named n page
    · simp [hb x hx hn]
    · rw [Bool.and_eq_false_iff]
      exact .inl (by simpa [Job.Named] using hn)
  rw [State.cancelPage, if_neg (not_lt.mpr h), if_pos]
  · simp only [hjobs, removeLast_append hbehind hfound]
  · rw [hjobs]
    exact List.any_eq_true.mpr ⟨j, by simp, hfound⟩

end Orders

/-- Settles O42: each order by its refusals and its one change of the list. -/
theorem jobListOrders : Obligations.JobListOrders := by
  intro s k tag p c n page copies bad named
  have hc : (s.arrival (.p k)).channel k = c := State.channel_arrival _ _ _
  have hclass : (s.arrival (.p k)).classAt n = s.classAt n := State.classAt_arrival _ _ _
  refine ⟨fun h => ⟨_, exec_queuePage h tag, fun hbad => ?_, fun hgood he => ?_, fun hgood he hfull => ?_,
      fun hgood he hroom => ?_⟩,
    fun h => ⟨_, exec_cancelPage h tag, fun hn => ?_, fun hn hnone => ?_, fun hn hsome hlater => ?_,
      fun hn a b j hjobs hj hq hb => ?_⟩⟩
  · rw [State.queuePage_badField _ _ _ hbad]
    exact Refused.intro _ _ _ _ _
  · rw [State.queuePage_notFound _ _ _ hgood (by rwa [hclass])]
    exact Refused.intro _ _ _ _ _
  · rw [State.queuePage_busy _ _ _ hgood (by rwa [hclass]) (by rwa [hc])]
    exact Refused.intro _ _ _ _ _
  · rw [State.queuePage_accepted _ _ _ hgood (by rwa [hclass]) (by rwa [hc]), hc]
    exact accepted_putChannel .queuePage (.p k) tag _ s k _
  · rw [State.cancelPage_badField _ _ _ hn]
    exact Refused.intro _ _ _ _ _
  · rw [State.cancelPage_notFound _ _ _ hn (by rwa [hc])]
    exact Refused.intro _ _ _ _ _
  · rw [State.cancelPage_busy _ _ _ hn (by rwa [hc]) (by rwa [hc])]
    exact Refused.intro _ _ _ _ _
  · rw [State.cancelPage_accepted _ _ _ hn (by rwa [hc]) hj hq hb, hc]
    exact accepted_putChannel .cancelPage (.p k) tag [] s k _

/-! ### The trigger flag (R155, R157) -/

/-- The stall timer of a record is no part of what a release makes of it. -/
theorem Channel.afterRelease_stallTimer (c : Channel) (damaged : Nat → Bool) (timer : Option Nat) :
    ({ c with stallTimer := timer } : Channel).afterRelease damaged =
      { c.afterRelease damaged with stallTimer := timer } := by
  unfold Channel.afterRelease
  simp only
  split
  · rfl
  · split <;> rfl

@[simp] theorem Channel.stallWindow_afterRelease (c : Channel) (damaged : Nat → Bool) :
    (c.afterRelease damaged).stallWindow = c.stallWindow := by
  unfold Channel.afterRelease
  simp only
  split
  · rfl
  · split <;> rfl

/-- A channel's record as its trigger flag leaves it: with the flag set, and released where a release is needed. -/
def Channel.afterTrigger (damaged : Nat → Bool) (c : Channel) : Channel :=
  if c.releaseNeeded then Channel.afterRelease damaged { c with flag := true } else { c with flag := true }

/-- All that a trigger does to its channel, the stall timer settled once. -/
theorem State.channelTakes_trigger (s : State) (k : Fin 4) :
    ChannelTakes k ((s.channel k).afterTrigger s.damagedEntry) s (s.trigger k) := by
  obtain ⟨c, hc⟩ : ∃ c, c = s.channel k := ⟨_, rfl⟩
  obtain ⟨flagged, hflagged⟩ : ∃ f : Channel, f = { c with flag := true } := ⟨_, rfl⟩
  have hset : ChannelTakes k flagged s (s.putChannel k flagged) := s.channelTakes_putChannel k flagged
  have hneeded : ((s.putChannel k flagged).channel k).releaseNeeded = c.releaseNeeded := by
    rw [hset, hflagged]; rfl
  have htriggered : ((s.putChannel k flagged).channel k).triggered = true := by
    rw [hset, hflagged]; rfl
  rw [show s.trigger k = (s.putChannel k flagged).takeRelease k by rw [hflagged, hc]; rfl, State.takeRelease_eq, hneeded,
    ← hc, Channel.afterTrigger]
  by_cases hn : c.releaseNeeded = true
  · rw [if_pos hn, if_pos (show _ ∧ _ from ⟨htriggered, hn⟩)]
    have hrelease := (s.putChannel k flagged).channelTakes_putChannel k
      (((s.putChannel k flagged).channel k).afterRelease (s.putChannel k flagged).damagedEntry)
    have hafter : ChannelTakes k (flagged.afterRelease s.damagedEntry) (s.putChannel k flagged)
        ((s.putChannel k flagged).putChannel k
          (((s.putChannel k flagged).channel k).afterRelease (s.putChannel k flagged).damagedEntry)) := by
      rw [ChannelTakes, hrelease, hset, Channel.afterRelease_stallTimer]
      rfl
    rw [← hflagged]
    exact hset.trans hafter (Channel.stallWindow_afterRelease _ _).symm (.inl (by rw [hflagged, ← hc]; rfl))
  · rw [if_neg hn, if_neg (show ¬ (_ ∧ _) from fun h => hn h.2), ← hflagged]
    exact hset

theorem State.othersSame_trigger (s : State) (k : Fin 4) : OthersSame k s (s.trigger k) :=
  (s.othersSame_putChannel k _).trans (State.othersSame_takeRelease _ k)

theorem State.trigger_liu (s : State) (k : Fin 4) : (s.trigger k).liu = s.liu := State.takeRelease_liu _ k

/-- What a channel answers a trigger that it takes, and one that it does not (R155). -/
theorem takeTrigger_outcome (o : Order) (port : Port) (tag : Byte) (s : State) (k : Fin 4) (applies : Bool) :
    let c := s.channel k
    let t := (s.arrival port).takeTrigger ⟨port, tag, o.code⟩ k applies
    (¬ (c.enabled = true ∧ applies = true) → Refused o port tag .ignored s t)
      ∧ (c.enabled = true ∧ applies = true →
        Accepted o port tag [BitVec.ofNat 8 c.flag.toNat] [.pch] s t ∧ OthersSame k s t
          ∧ ChannelTakes k (c.afterTrigger s.damagedEntry) s t) := by
  intro c t
  have hc : (s.arrival port).channel k = c := State.channel_arrival _ _ _
  refine ⟨fun h => ?_, fun h => ?_⟩
  · have ht : t = (s.arrival port).refuse ⟨port, tag, o.code⟩ .ignored := if_neg (by rwa [hc])
    rw [ht]
    exact Refused.intro _ _ _ _ _
  · obtain ⟨u, hu⟩ : ∃ u, u = (s.arrival port).send port (replyFrame o tag .ok (bytesBool c.flag)) := ⟨_, rfl⟩
    have huk : u.channel k = c := by rw [hu, State.channel_send, hc]
    have hupch : u.pch = s.pch := by simp [hu]
    have hdamaged : u.damagedEntry = s.damagedEntry := funext fun h => by simp [State.damagedEntry, hu]
    have ht : t = u.trigger k := by
      rw [hu, ← hc]
      exact if_pos (by rwa [hc])
    have htakes := u.channelTakes_trigger k
    rw [huk, hdamaged, ChannelTakes, huk, ← ht] at htakes
    refine ⟨Accepted.intro ?_ ?_, (OthersSame.of_pch hupch).trans (ht ▸ u.othersSame_trigger k), htakes⟩
    · exact (congrArg State.liu ht).trans ((u.trigger_liu k).trans (congrArg State.liu hu))
    · exact hu ▸ ht ▸ (u.touches_trigger k).2

theorem TriggerSource.startable_iff {t : TriggerSource} : t.startable = true ↔ t = .software ∨ ∃ k, t = .chained k := by
  cases t <;> simp [TriggerSource.startable]

theorem four?_of_val {n : Nat} {k : Fin 4} (h : n = k.val) : four? n = some k := by
  subst h
  simp [four?]

theorem four?_none {n : Nat} (h : 3 < n) : four? n = none := dif_neg (by omega)

/-! ### Credits (R160) -/

section GrantBands

variable (s k) (from_ : Sender) {n : Nat}

theorem State.grantBands_badField (h : n = 0 ∨ 8 < n) : s.grantBands from_ k n = s.refuse from_ .badField := if_pos h

theorem State.grantBands_ignored (h : ¬ (n = 0 ∨ 8 < n)) (hoff : (s.channel k).enabled = false) :
    s.grantBands from_ k n = s.refuse from_ .ignored := by
  rw [State.grantBands, if_neg h, if_pos (by simp [hoff])]

theorem State.grantBands_accepted (h : ¬ (n = 0 ∨ 8 < n)) (hon : (s.channel k).enabled = true) :
    s.grantBands from_ k n = (s.ok from_ (bytes1 (min 8 ((s.channel k).credits + n)))).putChannel k
      { s.channel k with credits := min 8 ((s.channel k).credits + n) } := by
  rw [State.grantBands, if_neg h, if_neg (by simp [hon])]

end GrantBands

/-- Settles O43: Sheet Ready and Start by the trigger they give, and Grant Bands by its refusals and its credits. -/
theorem triggersAndCredits : Obligations.TriggersAndCredits := by
  intro s port tag p k c
  refine ⟨?_, fun hadm hbad => ?_, ?_⟩
  · intro o ho hadm takes
    obtain ⟨applies, hexec, htakes⟩ : ∃ applies : Bool,
        exec (o.command port tag p) s = .next ((s.arrival port).takeTrigger ⟨port, tag, o.code⟩ k applies)
          ∧ (takes ↔ c.enabled = true ∧ applies = true) := by
      rcases ho with ⟨rfl, rfl⟩ | ⟨rfl, hk⟩
      · refine ⟨_, exec_sheetReady hadm tag, ?_⟩
        simp [takes, c]
      · refine ⟨c.source.startable, (exec_start hadm tag).trans ?_, ?_⟩
        · simp only [four?_of_val hk, State.channel_arrival, c]
        · simp [takes, TriggerSource.startable_iff]
    obtain ⟨hignored, htaken⟩ := takeTrigger_outcome o port tag s k applies
    refine ⟨_, hexec, fun h => hignored (mt htakes.mpr h), fun h => ?_⟩
    obtain ⟨haccepted, hothers, hchannel⟩ := htaken (htakes.mp h)
    refine ⟨haccepted, hothers, fun hn => ?_, fun hn => ?_⟩
    · rwa [Channel.afterTrigger, hn] at hchannel
    · rwa [Channel.afterTrigger, if_pos hn] at hchannel
  · refine ⟨_, (exec_start hadm tag).trans ?_, Refused.intro .start port tag .badField s⟩
    simp only [four?_none hbad]
    rfl
  · intro hport hadm n
    subst hport
    have hc : (s.arrival (.p k)).channel k = c := State.channel_arrival _ _ _
    refine ⟨_, exec_grantBands hadm tag, fun hbad => ?_, fun hlow hhigh hoff => ?_, fun hlow hhigh hon => ?_⟩
    · rw [State.grantBands_badField _ _ _ hbad]
      exact Refused.intro _ _ _ _ _
    · rw [State.grantBands_ignored _ _ _ (by omega) (by rwa [hc])]
      exact Refused.intro _ _ _ _ _
    · rw [State.grantBands_accepted _ _ _ (by omega) (by rwa [hc]), hc]
      exact accepted_putChannel .grantBands (.p k) tag _ s k _

end Sys2Proof.Machine
end

section
/-! PROOFS. What a release raises (O44), and the engine grant (O47). -/

set_option Elab.async false

namespace Sys2Proof.Machine

variable {s : State} {k : Fin 4} {c : Channel} {p : Plan} {r : Rendering}

/-! ### Row boundaries (R159) -/

section Boundaries

variable {f : LayoutFields} {g : Grid} {bandHeight bands released boundary : Nat}

/-- The bands a ROW boundary reaches: those that start above its limit. -/
def rowReach (f : LayoutFields) (g : Grid) (bandHeight bands n : Nat) : Nat :=
  min bands (bandCount (rowLimit f g n) bandHeight)

theorem rowLimit_eq (f : LayoutFields) (g : Grid) (n : Nat) :
    rowLimit f g n =
      if n = f.r then f.h
      else if n = 0 then f.t + g.my
      else f.t + g.my + (n - 1) * g.py + g.ch + f.cap := by
  cases n <;> simp [rowLimit]

theorem nextRowRelease_succ (fuel : Nat) :
    nextRowRelease f g bandHeight bands released boundary (fuel + 1) =
      if released < rowReach f g bandHeight bands boundary then
        (rowReach f g bandHeight bands boundary, min f.r (boundary + 1))
      else nextRowRelease f g bandHeight bands released (min f.r (boundary + 1)) fuel := rfl

/-- The release takes the first boundary, from where it goes on, that reaches beyond the bands released. -/
theorem nextRowRelease_found {n fuel : Nat} (hfrom : boundary ≤ n) (hn : n ≤ f.r) (hfuel : n < boundary + fuel)
    (hreach : released < rowReach f g bandHeight bands n)
    (hbefore : ∀ m, boundary ≤ m → m < n → rowReach f g bandHeight bands m ≤ released) :
    nextRowRelease f g bandHeight bands released boundary fuel =
      (rowReach f g bandHeight bands n, min f.r (n + 1)) := by
  induction fuel generalizing boundary with
  | zero => omega
  | succ fuel ih =>
    rw [nextRowRelease_succ]
    rcases hfrom.eq_or_lt with rfl | hlt
    · rw [if_pos hreach]
    · rw [if_neg (not_lt.mpr (hbefore boundary le_rfl hlt)), min_eq_right (by omega)]
      exact ih (by omega) (by omega) fun m hm => hbefore m (by omega)

/-- With no boundary that reaches further the release passes as many boundaries as it may. -/
theorem nextRowRelease_none (fuel : Nat) (hfrom : boundary ≤ f.r)
    (hnone : ∀ n, boundary ≤ n → n ≤ f.r → rowReach f g bandHeight bands n ≤ released) :
    nextRowRelease f g bandHeight bands released boundary fuel = (released, min f.r (boundary + fuel)) := by
  induction fuel generalizing boundary with
  | zero => simp [nextRowRelease, hfrom]
  | succ fuel ih =>
    rw [nextRowRelease_succ, if_neg (not_lt.mpr (hnone boundary le_rfl hfrom)),
      ih (min_le_left _ _) fun n hn => hnone n (by omega)]
    congr 1
    omega

end Boundaries

/-- Settles O44: PAGE and BAND by definition, ROW by the boundary the release takes. -/
theorem releaseRaisesBands : Obligations.ReleaseRaisesBands := by
  intro r bh p rows limit reach
  have hreach (n : Nat) : reach n = rowReach p.snap.layout p.grid bh r.bandCount n := by
    rw [rowReach, rowLimit_eq]
    rfl
  refine ⟨rfl, rfl, fun hfrom => ⟨fun n hn hlast hmore hbefore => ?_, fun hnone => ?_⟩⟩
  · simp only [hreach] at hmore hbefore ⊢
    rw [Rendering.raise, nextRowRelease_found hn hlast (by omega) hmore hbefore]
  · simp only [hreach] at hnone
    rw [Rendering.raise, nextRowRelease_none _ hfrom hnone]
    simp only [Rendering.mk.injEq, true_and, and_true]
    omega

/-! ### Requests and grants (R161, R162) -/

theorem Channel.requests_iff : c.requests = true ↔ ∃ r, c.rendering = some r ∧ r.abortPending = false
    ∧ r.inFlight = false ∧ r.started < r.released ∧ 1 ≤ c.credits := by
  unfold Channel.requests
  cases c.rendering with
  | none => simp
  | some r => simp [and_assoc]

theorem State.engineTurn_none (h : s.ce ≠ none ∨ ∀ k, (s.channel k).requests = false) : s.engineTurn = none := by
  unfold State.engineTurn
  cases hce : s.ce with
  | some b => rfl
  | none =>
    refine List.find?_eq_none.mpr fun k _ => ?_
    simp [h.resolve_left (not_not.mpr hce) k]

/-- The first channel in rotation that satisfies a test. -/
theorem find?_rotation {test : Fin 4 → Bool} {last n : Fin 4} (hn : test (last + 1 + n) = true)
    (hfirst : ∀ m : Fin 4, m < n → test (last + 1 + m) = false) :
    (rotation last).find? test = some (last + 1 + n) := by
  have hsplit : fours = fours.take n ++ n :: fours.drop (n + 1) :=
    (by decide : ∀ n : Fin 4, fours = fours.take n ++ n :: fours.drop (n + 1)) n
  have hbefore : ∀ m ∈ fours.take n, m < n := (by decide : ∀ n : Fin 4, ∀ m ∈ fours.take n, m < n) n
  rw [rotation_eq, List.find?_map, hsplit, List.find?_append, List.find?_eq_none.mpr, List.find?_cons_of_pos]
  · rfl
  · exact hn
  · intro m hm
    simp [hfirst m (hbefore m hm)]

theorem bandAt_eq (order : BandOrder) (bands q : Nat) :
    bandAt order bands q = if order = .forward then q else bands - 1 - q := by cases order <;> rfl

/-! ### What a cell draws from (R127) -/

theorem State.cellDraw_own {cell : Cell} {h : Nat} {im : PinnedImage} {fit : Fitting} (hd : cell.damagedMidpage = false)
    (hs : cell.source = some h) (him : p.snap.imageOf h = some im) (hfit : cell.fitting = some fit) :
    s.cellDraw p cell = some { image := im, fitting := fit } := by
  simp [State.cellDraw, hd, hs, him, hfit]

theorem State.cellDraw_backdrop {cell : Cell} (hd : cell.damagedMidpage = false) (hs : cell.source = none) :
    s.cellDraw p cell = none := by
  simp [State.cellDraw, hd, hs]

theorem State.cellDraw_damaged {cell : Cell} (hd : cell.damagedMidpage = true) :
    s.cellDraw p cell = s.substituteDraw p := if_pos hd

theorem State.substituteDraw_none (h : p.substitute = none) : s.substituteDraw p = none := by
  simp [State.substituteDraw, h]

theorem State.substituteDraw_some {fit : Fitting} {ref : PortraitRef} {im : PinnedImage} (hfit : p.substitute = some fit)
    (href : p.snap.layout.placeholder = some ref) (him : p.snap.imageOf ref.handle = some im) :
    s.substituteDraw p =
      if (s.entry ref.handle).state = .damaged then none else some { image := im, fitting := fit } := by
  simp [State.substituteDraw, hfit, Snapshot.placeholderHandle, href, him, State.damagedEntry]

/-! ### The grant -/

/-- The record of a channel whose next band has started. -/
def Channel.granted (c : Channel) (r : Rendering) : Channel :=
  { c with credits := c.credits - 1, rendering := some { r with started := r.started + 1, inFlight := true } }

/-- The engine takes a channel's next band (R161). -/
def State.served (s : State) (k : Fin 4) (b : Band) : State :=
  { s with ce := some b, pch := { s.pch with lastServed := k } }

theorem State.grantEngine_eq (hp : (s.channel k).renderingPlan? = some p) (hr : (s.channel k).rendering = some r) :
    s.grantEngine k = ((s.served k (s.newBand k p r)).putChannel k ((s.channel k).granted r)).send (.p k)
      (noticeFrame .bandStart (bytesBandStart (s.newBand k p r))) := by
  simp only [State.grantEngine, hp, hr]
  rfl

/-- What the grant of the engine changes. -/
theorem State.grantEngine_outcome (hp : (s.channel k).renderingPlan? = some p) (hr : (s.channel k).rendering = some r) :
    let t := s.grantEngine k
    OnlyChanges [.liu, .pch, .ce] s t
      ∧ PortsGain none (onPort (.p k) [noticeFrame .bandStart (bytesBandStart (s.newBand k p r))]) s t
      ∧ ChannelTakes k ((s.channel k).granted r) s t ∧ (∀ j, j ≠ k → t.channel j = s.channel j)
      ∧ t.pch.lastServed = k ∧ t.ce = some (s.newBand k p r) := by
  intro t
  have ht : t = _ := State.grantEngine_eq hp hr
  refine ⟨(s.touches_grantEngine k).2, ?_, ?_, fun j hj => ?_, ?_, ?_⟩
  · rw [ht]
    exact ((PortsGain.of_liu rfl).send (.p k) _).sent fun q => by simp [andThen]
  · rw [ht, ChannelTakes, State.channel_send]
    exact (s.served k (s.newBand k p r)).channelTakes_putChannel k _
  · rw [ht, State.channel_send, State.channel_putChannel, if_neg hj]
    rfl
  · rw [ht, State.send_pch]
    rfl
  · rw [ht, State.send_ce]
    rfl

theorem exec_engineGrant (s : State) : exec .engineGrant s = execEngineGrant s := rfl

/-- Settles O47: who requests the engine, when the grant is not due, and the grant to the first in rotation. -/
theorem engineGrantStartsBand : Obligations.EngineGrantStartsBand := by
  refine ⟨fun c => Channel.requests_iff, fun s => ⟨fun h => ?_, ?_⟩⟩
  · simp only [exec_engineGrant, execEngineGrant, State.engineTurn_none h]
  · intro n p r k c index rowCount hfree hrequests hfirst hp hr
    have hturn : s.engineTurn = some k := by
      simp only [State.engineTurn, hfree]
      exact find?_rotation (test := fun k => (s.channel k).requests) hrequests hfirst
    have hexec : exec .engineGrant s = .next (s.grantEngine k) := by
      simp only [exec_engineGrant, execEngineGrant, hturn]
    have hindex : bandAt c.order r.bandCount r.started = index := bandAt_eq _ _ _
    have hband : s.newBand k p r =
        { channel := k, plan := p, copy := r.copy, index := index, order := c.order, mirror := c.mirror,
          firstRow := index * c.bandHeight, rowCount := rowCount, rowsLeft := rowCount,
          draws := p.cells.map (s.cellDraw p), reads := [] } := by
      simp only [← hindex, rowCount]
      rfl
    obtain ⟨honly, hports, htakes, hothers, hserved, hce⟩ := State.grantEngine_outcome hp hr
    refine ⟨_, s.newBand k p r, hexec, honly, ?_, htakes, hothers, hserved, hce, ?_, ?_, fun i cell hcell => ?_⟩
    · rwa [hband] at hports
    · rw [hband]
    · rw [hband]
      simp
    · have hdraw : (s.newBand k p r).draws[i]? = some (s.cellDraw p cell) := by rw [hband]; simp [hcell]
      rw [hdraw]
      refine ⟨fun hd h im fit hs him hfit => ?_, fun hd hs => ?_, fun hd hnone => ?_, fun hd fit ref im hfit href him => ?_⟩
      · rw [State.cellDraw_own hd hs him hfit]
      · rw [State.cellDraw_backdrop hd hs]
      · rw [State.cellDraw_damaged hd, State.substituteDraw_none hnone]
      · rw [State.cellDraw_damaged hd, State.substituteDraw_some hfit href him]

end Sys2Proof.Machine
end

section
/-! PROOFS. The return of plans reads and changes layouts, classes, store, directory and glyph window alone: in two states that
agree in these it does the same and sends the same frames, whatever their ports and channels are. And what a return does that
sets off nothing else (R18, R61, R133). -/

set_option Elab.async false

namespace Sys2Proof.Machine

variable {s u v s' u' s'' u'' : State}

/-! ### Two states in step -/

/-- Two states that agree in every block that the return of plans reads. -/
structure Alike (s u : State) : Prop where
  layouts : u.layouts = s.layouts
  ru : u.ru = s.ru
  sc : u.sc = s.sc
  pdir : u.pdir = s.pdir
  gs : u.gs = s.gs

theorem Alike.trans (h : Alike s u) (h2 : Alike u v) : Alike s v :=
  ⟨h2.layouts.trans h.layouts, h2.ru.trans h.ru, h2.sc.trans h.sc, h2.pdir.trans h.pdir, h2.gs.trans h.gs⟩

theorem Alike.refl (s : State) : Alike s s := ⟨rfl, rfl, rfl, rfl, rfl⟩

/-- An operation on none of these blocks keeps two states alike. -/
theorem Alike.touches {blocks : List Block} (h : Alike s u) (ht : Touches blocks u v)
    (hb : ∀ b ∈ blocks, b ∉ [Block.lt, .ru, .sc, .pdir, .gs] := by decide) : Alike s v :=
  ⟨(ht.layouts fun hm => hb _ hm (by decide)).trans h.layouts, (ht.ru fun hm => hb _ hm (by decide)).trans h.ru,
    (ht.sc fun hm => hb _ hm (by decide)).trans h.sc, (ht.pdir fun hm => hb _ hm (by decide)).trans h.pdir,
    (ht.gs fun hm => hb _ hm (by decide)).trans h.gs⟩

theorem Alike.layout (h : Alike s u) (n : Nat) : u.layout n = s.layout n := State.layout_congr _ _ n h.layouts
theorem Alike.classAt (h : Alike s u) (c : Nat) : u.classAt c = s.classAt c := State.classAt_congr _ _ c h.ru
theorem Alike.entry (h : Alike s u) (n : Nat) : u.entry n = s.entry n := State.entry_congr _ _ n h.pdir
theorem Alike.layoutReady (h : Alike s u) (n : Nat) : u.layoutReady n = s.layoutReady n :=
  State.layoutReady_congr n (congrArg LayoutRecord.fields (h.layout n)) h.pdir
theorem Alike.damagedEntry (h : Alike s u) : u.damagedEntry = s.damagedEntry :=
  funext fun n => by rw [State.damagedEntry, h.entry, State.damagedEntry]

theorem Alike.setLayout (h : Alike s u) (n : Nat) (v : LayoutRecord) : Alike (s.setLayout n v) (u.setLayout n v) :=
  ⟨by simp only [State.setLayout, h.layouts], h.ru, h.sc, h.pdir, h.gs⟩

theorem Alike.setClass (h : Alike s u) (c : Nat) (v : ClassRecord) : Alike (s.setClass c v) (u.setClass c v) :=
  ⟨h.layouts, by simp only [State.setClass, h.ru], h.sc, h.pdir, h.gs⟩

theorem Alike.setEntry (h : Alike s u) (n : Nat) (v : DirEntry) : Alike (s.setEntry n v) (u.setEntry n v) :=
  ⟨h.layouts, h.ru, h.sc, by simp only [State.setEntry, h.pdir], h.gs⟩

theorem Alike.setGs (h : Alike s u) (v : GlyphStore) : Alike { s with gs := v } { u with gs := v } :=
  ⟨h.layouts, h.ru, h.sc, h.pdir, rfl⟩

theorem Alike.send (h : Alike s u) (p : Port) (f : Frame) : Alike (s.send p f) (u.send p f) :=
  ⟨by simpa using h.layouts, by simpa using h.ru, by simpa using h.sc, by simpa using h.pdir, by simpa using h.gs⟩

theorem Alike.release? (h : Alike s u) (n : Option Nat) : Alike (s.release? n) (u.release? n) := by
  cases n with
  | none => exact h
  | some n =>
    simp only [State.release?, State.release, h.layout]
    exact h.setLayout n _

/-- Operations on the Store Controller alone that read it alone. -/
theorem Alike.scOnly (h : Alike s u) (hs : ScOnly s s') (hu : ScOnly u u') (hsc : u'.sc = s'.sc) : Alike s' u' := by
  refine ⟨?_, ?_, hsc, ?_, ?_⟩
  all_goals rw [hs, hu]
  exacts [h.layouts, h.ru, h.pdir, h.gs]

theorem Alike.freeImage (h : Alike s u) (image : Option ImageRecord) : Alike (s.freeImage image) (u.freeImage image) :=
  h.scOnly (s.scOnly_freeImage image) (u.scOnly_freeImage image) (State.freeImage_sc_congr h.sc image)

theorem Alike.relabelChain (h : Alike s u) (first : Nat) (kind : ChainKind) :
    Alike (s.relabelChain first kind) (u.relabelChain first kind) :=
  h.scOnly (s.scOnly_relabelChain first kind) (u.scOnly_relabelChain first kind)
    (State.relabelChain_sc_congr h.sc first kind)

/-- Two states have gone on alike: they agree as before, and the same frames have been sent in both. -/
def InStep (s u s' u' : State) : Prop :=
  Alike s' u' ∧ ∃ sent, PortsGain none sent s s' ∧ PortsGain none sent u u'

/-- Nothing has been sent in either. -/
theorem InStep.silent (h : Alike s' u') (hs : s'.liu = s.liu) (hu : u'.liu = u.liu) : InStep s u s' u' :=
  ⟨h, _, PortsGain.of_liu hs, PortsGain.of_liu hu⟩

theorem InStep.trans (h : InStep s u s' u') (h2 : InStep s' u' s'' u'') : InStep s u s'' u'' := by
  obtain ⟨-, sent, hs, hu⟩ := h
  obtain ⟨halike, more, hs2, hu2⟩ := h2
  exact ⟨halike, _, hs.trans hs2, hu.trans hu2⟩

theorem InStep.send (h : InStep s u s' u') (p : Port) (f : Frame) : InStep s u (s'.send p f) (u'.send p f) := by
  obtain ⟨halike, sent, hs, hu⟩ := h
  exact ⟨halike.send p f, _, hs.send p f, hu.send p f⟩

theorem InStep.foldl {α : Type} {f : State → α → State} (hf : ∀ {s u : State} (a : α), Alike s u → InStep s u (f s a) (f u a))
    (l : List α) (h : Alike s u) : InStep s u (l.foldl f s) (l.foldl f u) := by
  induction l generalizing s u with
  | nil => exact InStep.silent h rfl rfl
  | cons a rest ih =>
    have hstep := hf a h
    exact hstep.trans (ih hstep.1)

/-! ### The return of plans -/

theorem Alike.evalSwitch (h : Alike s u) (c : Nat) : InStep s u (s.evalSwitch c) (u.evalSwitch c) := by
  cases hp : (s.classAt c).pending with
  | none =>
    have hp' : (u.classAt c).pending = none := by rw [h.classAt, hp]
    simp only [State.evalSwitch, hp, hp']
    exact InStep.silent h rfl rfl
  | some n =>
    have hp' : (u.classAt c).pending = some n := by rw [h.classAt, hp]
    by_cases hsw : (s.classAt c).inFlight = 0 ∧ s.layoutReady n = true
    · have hsw' : (u.classAt c).inFlight = 0 ∧ u.layoutReady n = true := by rwa [h.classAt, h.layoutReady]
      rw [State.evalSwitch_switches _ hp hsw, State.evalSwitch_switches _ hp' hsw', h.classAt]
      exact (InStep.silent ((h.setClass c _).release? _) (by simp) (by simp)).send _ _
    · have hsw' : ¬ ((u.classAt c).inFlight = 0 ∧ u.layoutReady n = true) := by rwa [h.classAt, h.layoutReady]
      rw [State.evalSwitch_waits _ hp hsw, State.evalSwitch_waits _ hp' hsw']
      exact InStep.silent h rfl rfl

theorem Alike.reportReady (h : Alike s u) (n : Nat) : InStep s u (s.reportReady n) (u.reportReady n) := by
  unfold State.reportReady
  rw [h.layout, h.layoutReady, h.ru]
  split
  · refine InStep.foldl (fun {s u} c h => ?_) _ h
    rw [h.classAt]
    split
    · exact h.evalSwitch c
    · exact InStep.silent h rfl rfl
  · exact InStep.silent h rfl rfl

theorem Alike.reportEntry (h : Alike s u) (n : Nat) : InStep s u (s.reportEntry n) (u.reportEntry n) := by
  unfold State.reportEntry
  rw [h.layouts]
  refine InStep.foldl (fun {s u} m h => ?_) _ h
  rw [h.layout]
  split
  · exact h.reportReady m
  · exact InStep.silent h rfl rfl

theorem Alike.makeReady (h : Alike s u) (n : Nat) (e : DirEntry) (image : ImageRecord) :
    InStep s u (s.makeReady n e image) (u.makeReady n e image) := by
  have hset := h.setEntry n { e with state := .ready, image := some image }
  unfold State.makeReady
  extract_lets s1 u1
  split
  · exact InStep.silent hset rfl rfl
  · exact (InStep.silent hset rfl rfl).trans (hset.reportEntry n)

theorem Alike.swap (h : Alike s u) (n : Nat) : InStep s u (s.swap n) (u.swap n) := by
  unfold State.swap
  rw [h.entry]
  extract_lets e
  split
  · exact InStep.silent h rfl rfl
  · next new _ =>
    have hchains := (h.freeImage e.image).relabelChain new.first .current
    have hliu (w : State) : ((w.freeImage e.image).relabelChain new.first .current).liu = w.liu := by
      rw [(w.scOnly_freeImage e.image).trans (State.scOnly_relabelChain _ new.first .current)]
    exact ((InStep.silent hchains (hliu s) (hliu u)).trans (hchains.makeReady n _ new)).send _ _

theorem State.unpin_eq (s : State) (n : Nat) :
    s.unpin n =
      if (s.entry n).pins - 1 = 0 then (s.setEntry n (s.entry n).unpinned).swap n
      else s.setEntry n (s.entry n).unpinned := rfl

theorem State.lowerInFlight_eq (s : State) (c : Nat) :
    s.lowerInFlight c = if (s.classAt c).inFlight - 1 = 0 then (s.lowered c).evalSwitch c else s.lowered c := rfl

theorem Alike.unpin (h : Alike s u) (n : Nat) : InStep s u (s.unpin n) (u.unpin n) := by
  have hset := h.setEntry n (s.entry n).unpinned
  rw [State.unpin_eq, State.unpin_eq, h.entry]
  split
  · exact (InStep.silent hset rfl rfl).trans (hset.swap n)
  · exact InStep.silent hset rfl rfl

theorem Alike.lowerInFlight (h : Alike s u) (c : Nat) : InStep s u (s.lowerInFlight c) (u.lowerInFlight c) := by
  have hset : Alike (s.lowered c) (u.lowered c) := by
    rw [State.lowered, State.lowered, h.classAt]
    exact h.setClass c _
  rw [State.lowerInFlight_eq, State.lowerInFlight_eq, h.classAt]
  split
  · exact (InStep.silent hset rfl rfl).trans (hset.evalSwitch c)
  · exact InStep.silent hset rfl rfl

theorem Alike.lowerPages (h : Alike s u) : InStep s u s.lowerPages u.lowerPages := by
  by_cases hopens : s.gs.inFlight - 1 = 0 ∧ s.gs.window = .opening
  · obtain ⟨hn, hw⟩ := hopens
    rw [State.lowerPages_opens hn hw, State.lowerPages_opens (h.gs ▸ hn) (h.gs ▸ hw), h.gs]
    exact (InStep.silent (h.setGs _) rfl rfl).send _ _
  · have hkeeps := not_and_or.mp hopens
    rw [State.lowerPages_keeps hkeeps, State.lowerPages_keeps (h.gs ▸ hkeeps), h.gs]
    exact InStep.silent (h.setGs _) rfl rfl

theorem Alike.returnPlan (h : Alike s u) (p : Snapshot) : InStep s u (s.returnPlan p) (u.returnPlan p) := by
  have hpins := InStep.foldl (fun n h => Alike.unpin h n) p.handles h
  have hclass := hpins.1.lowerInFlight p.classNo
  exact (hpins.trans hclass).trans hclass.1.lowerPages

theorem Alike.givenBack (h : Alike s u) (plans : List Snapshot) :
    InStep s u (s.givenBack plans) (u.givenBack plans) :=
  InStep.foldl (fun p h => Alike.returnPlan h p) plans h

/-- In a state alike, with no link UP that is not UP in the first, the return sends what it sends in the first. -/
theorem Alike.portsGain_givenBack (h : Alike s u) (hup : ∀ q, (u.port q).up = true → (s.port q).up = true)
    (plans : List Snapshot) : PortsGain none (s.returnFrames plans) u (u.givenBack plans) := fun q => by
  obtain ⟨-, sent, hs, hu⟩ := h.givenBack plans
  rw [hu q]
  by_cases hq : (u.port q).up = true
  · have hframes : s.returnFrames plans q = sent q := by
      rw [State.returnFrames, hs q]
      simp [hup q hq]
    rw [hframes]
  · simp [hq]

/-! ### A return that sets off nothing else -/

/-- What a quiet return leaves: the plans' counts are returned and nothing has been sent. -/
structure ReturnedQuietly (plans : List Snapshot) (s t : State) : Prop where
  returned : PlansReturned plans s t
  liu : t.liu = s.liu
  layouts : t.layouts = s.layouts
  sc : t.sc = s.sc

/-- Pins released one by one, no handle twice, where no replacement waits. -/
theorem State.unpins_quiet {handles : List Nat} (hnodup : handles.Nodup)
    (hr : ∀ h ∈ handles, (s.entry h).replacement = none) :
    let t := handles.foldl State.unpin s
    (∀ h, t.entry h = { s.entry h with pins := (s.entry h).pins - (if h ∈ handles then 1 else 0) })
      ∧ t = { s with pdir := t.pdir } := by
  induction handles generalizing s with
  | nil => exact ⟨fun _ => rfl, rfl⟩
  | cons g rest ih =>
    obtain ⟨hg, hrest⟩ := List.nodup_cons.mp hnodup
    obtain ⟨hgr, hrestr⟩ := List.forall_mem_cons.mp hr
    have hfirst : s.unpin g = s.setEntry g (s.entry g).unpinned := State.unpin_keeps (.inr hgr)
    have hentry (h : Nat) : (s.unpin g).entry h = if h = g then (s.entry g).unpinned else s.entry h := by
      rw [hfirst, State.entry_setEntry]
    obtain ⟨hentries, hsame⟩ := ih (s := s.unpin g) hrest fun h hh => by
      have hne : h ≠ g := fun he => hg (he ▸ hh)
      rw [hentry, if_neg hne]
      exact hrestr h hh
    refine ⟨fun h => ?_, ?_⟩
    · rw [List.foldl_cons, hentries, hentry]
      by_cases hh : h = g
      · subst hh
        simp [hg, DirEntry.unpinned]
      · simp [hh]
    · rw [List.foldl_cons, hsame, hfirst]
      rfl

/-- One plan returned quietly. -/
theorem State.returnPlan_quiet {p : Snapshot} (hq : QuietReturn s [p]) : ReturnedQuietly [p] s (s.returnPlan p) := by
  obtain ⟨hwindow, hpending, hplans⟩ := hq
  obtain ⟨hnodup, hr⟩ := hplans p (List.mem_singleton_self p)
  obtain ⟨hentries, hsame⟩ := State.unpins_quiet hnodup hr
  obtain ⟨v, hv⟩ : ∃ v, v = p.handles.foldl State.unpin s := ⟨_, rfl⟩
  rw [← hv] at hentries hsame
  have hclass (c : Nat) : v.classAt c = s.classAt c := by rw [hsame]; rfl
  have hreturn : s.returnPlan p = { v.lowered p.classNo with
      gs := { s.gs with inFlight := s.gs.inFlight - 1 } } := by
    have hlowered : v.lowerInFlight p.classNo = v.lowered p.classNo :=
      v.lowerInFlight_settled (by rw [hclass]; exact hpending _)
    have hgs : (v.lowered p.classNo).gs = s.gs := by rw [hsame]; rfl
    rw [State.returnPlan, ← hv, hlowered, State.lowerPages_keeps (.inr (hgs ▸ hwindow)), hgs]
  have hentry (h : Nat) : (s.returnPlan p).entry h = v.entry h := by rw [hreturn]; rfl
  have hclasses (c : Nat) : (s.returnPlan p).classAt c = (v.lowered p.classNo).classAt c := by rw [hreturn]; rfl
  refine ⟨⟨fun h => ?_, fun c => ?_, ?_, ?_⟩, ?_, ?_, ?_⟩
  · rw [hentry, hentries]
    by_cases hh : h ∈ p.handles <;> simp [hh]
  · rw [hclasses, State.classAt_lowered, hclass, hclass]
    by_cases hc : c = p.classNo
    · subst hc; simp
    · simp [hc, Ne.symm hc]
  · rw [hreturn, hsame]
    rfl
  · rw [hreturn]
    rfl
  · rw [hreturn, hsame]
    rfl
  · rw [hreturn, hsame]
    rfl
  · rw [hreturn, hsame]
    rfl

/-- Plans returned one after the other, quietly. -/
theorem State.givenBack_quiet {plans : List Snapshot} (hq : QuietReturn s plans) :
    ReturnedQuietly plans s (s.givenBack plans) := by
  induction plans generalizing s with
  | nil => exact ⟨⟨fun _ => rfl, fun _ => rfl, rfl, rfl⟩, rfl, rfl, rfl⟩
  | cons p rest ih =>
    obtain ⟨hwindow, hpending, hplans⟩ := hq
    obtain ⟨hp, hrest⟩ := List.forall_mem_cons.mp hplans
    obtain ⟨⟨hentry, hclass, hpool, hgs⟩, hliu, hlayouts, hsc⟩ :=
      State.returnPlan_quiet (s := s) (p := p) ⟨hwindow, hpending, List.forall_mem_singleton.mpr hp⟩
    obtain ⟨⟨hentry2, hclass2, hpool2, hgs2⟩, hliu2, hlayouts2, hsc2⟩ := ih (s := s.returnPlan p)
      ⟨by rwa [hgs], fun c => by rw [hclass]; exact hpending c, fun q hq => by
        obtain ⟨hnodup, hr⟩ := hrest q hq
        exact ⟨hnodup, fun h hh => by rw [hentry]; exact hr h hh⟩⟩
    rw [State.givenBack_cons]
    refine ⟨⟨fun h => ?_, fun c => ?_, hpool2.trans hpool, ?_⟩, hliu2.trans hliu, hlayouts2.trans hlayouts, hsc2.trans hsc⟩
    · rw [hentry2, hentry, Nat.sub_sub, ← List.length_append, ← List.filter_append]
      rfl
    · rw [hclass2, hclass, Nat.sub_sub, ← List.length_append, ← List.filter_append]
      rfl
    · rw [hgs2, hgs, Nat.sub_sub, ← List.length_append]
      rfl

/-! ### The statements' words for it -/

section Statements

variable {heard : Option Port} {first : Port → List Frame} {blocks : List Block} {plans : List Snapshot}

/-- A block that is the same need not be listed. -/
theorem OnlyChanges.without {b : Block} (h : OnlyChanges (b :: blocks) s u) (hb : b.same s u) : OnlyChanges blocks s u := by
  obtain ⟨hphase, hclock, hpending, hsame⟩ := h
  refine ⟨hphase, hclock, hpending, fun c hc => ?_⟩
  by_cases hcb : c = b
  · exact hcb ▸ hb
  · exact hsame c (by simp [hcb, hc])

/-- The return of plans in a state alike, with nothing done to these blocks after it. -/
theorem Alike.returned {t : State} (h : Alike s v) (ht : Alike (v.givenBack plans) t) :
    ReturnTaken plans s t ∧ (QuietReturn s plans → PlansReturned plans s t) := by
  have hback : Alike (s.givenBack plans) t := (h.givenBack plans).1.trans ht
  refine ⟨⟨hback.layouts, hback.ru, hback.sc, hback.pdir, hback.gs⟩, fun hq => ?_⟩
  obtain ⟨⟨hentry, hclass, hpool, hgs⟩, -, -, -⟩ := State.givenBack_quiet hq
  exact ⟨fun n => (hback.entry n).trans (hentry n), fun c => (hback.classAt c).trans (hclass c),
    (congrArg RosterUnit.poolFree hback.ru).trans hpool, hback.gs.trans hgs⟩

/-- Plans whose return is quiet are so in a state alike. -/
theorem Alike.quietReturn (h : Alike s v) (hq : QuietReturn s plans) : QuietReturn v plans := by
  obtain ⟨hwindow, hpending, hplans⟩ := hq
  refine ⟨h.gs ▸ hwindow, fun c => by rw [h.classAt]; exact hpending c, fun p hp => ?_⟩
  obtain ⟨hnodup, hr⟩ := hplans p hp
  exact ⟨hnodup, fun n hn => by rw [h.entry]; exact hr n hn⟩

/-- With a quiet return in a state alike nothing is sent, and layouts and store are the same. -/
theorem Alike.onlyChanges_quiet {t : State} (h : Alike s v) (ht : Alike (v.givenBack plans) t) (hq : QuietReturn s plans)
    (honly : OnlyChanges (.lt :: .sc :: blocks) s t) : (v.givenBack plans).liu = v.liu ∧ OnlyChanges blocks s t := by
  have hquiet := State.givenBack_quiet (h.quietReturn hq)
  exact ⟨hquiet.liu, (honly.without (ht.layouts.trans (hquiet.layouts.trans h.layouts))).without
    (ht.sc.trans (hquiet.sc.trans h.sc))⟩

/-- Frames sent, and then plans returned, with nothing sent after them. -/
theorem SendsAndReturns.intro {t : State} (h : Alike s v) (hports : PortsGain heard first s v)
    (ht : Alike (v.givenBack plans) t) (hliu : t.liu = (v.givenBack plans).liu)
    (honly : OnlyChanges (.lt :: .sc :: blocks) s t) : SendsAndReturns heard first blocks plans s t := by
  have hup (q : Port) (hq : (v.port q).up = true) : (s.port q).up = true := by
    rw [hports q] at hq
    exact hq
  refine ⟨(hports.trans (h.portsGain_givenBack hup plans)).congr hliu, honly, fun hq => ?_⟩
  obtain ⟨hsilent, hnarrow⟩ := h.onlyChanges_quiet ht hq honly
  exact ⟨hports.congr (hliu.trans hsilent), hnarrow⟩

end Statements

end Sys2Proof.Machine
end

section
/-! PROOFS. Ends of pages: the chained flags, and what a page end does to its channel and to the others (R156, R164, R165). -/

set_option Elab.async false

namespace Sys2Proof.Machine

variable {s t u v : State} {k : Fin 4} {c : Channel} {p : Plan} {d : PageDone}

/-! ### One channel after the other -/

/-- Operations over distinct channels, each of which changes its own channel alone, by what that channel and the directory
hold: every channel of the list is as its own operation leaves it. -/
theorem foldl_channels {f : State → Fin 4 → State} (hothers : ∀ s j, OthersSame j s (f s j))
    (hpdir : ∀ s j, (f s j).pdir = s.pdir)
    (hlocal : ∀ s u j, u.channel j = s.channel j → u.pdir = s.pdir → (f u j).channel j = (f s j).channel j)
    {ks : List (Fin 4)} (hks : ks.Nodup) (s : State) :
    let t := ks.foldl f s
    (∀ j ∈ ks, t.channel j = (f s j).channel j) ∧ (∀ j, j ∉ ks → t.channel j = s.channel j)
      ∧ t.pch.lastServed = s.pch.lastServed := by
  induction ks generalizing s with
  | nil => exact ⟨nofun, fun _ _ => rfl, rfl⟩
  | cons k ks ih =>
    obtain ⟨hk, hnodup⟩ := List.nodup_cons.mp hks
    obtain ⟨hin, hout, hserved⟩ := ih hnodup (f s k)
    obtain ⟨hsame, hserved'⟩ := hothers s k
    refine ⟨fun j hj => ?_, fun j hj => ?_, hserved.trans hserved'⟩
    · rcases List.mem_cons.mp hj with rfl | hj
      · exact hout j hk
      · have hne : j ≠ k := fun h => hk (h ▸ hj)
        exact (hin j hj).trans (hlocal s (f s k) j (hsame j hne) (hpdir s k))
    · obtain ⟨hne, hj⟩ := not_or.mp (mt List.mem_cons.mpr hj)
      exact (hout j hj).trans (hsame j hne)

/-! ### Chained flags (R156) -/

/-- What the end of a page on channel `k` does to channel `j`. -/
def State.chainOne (k : Fin 4) (s : State) (j : Fin 4) : State :=
  if (s.channel j).enabled ∧ (s.channel j).source = .chained k then
    if j = k then s.putChannel j { s.channel j with flag := true } else s.trigger j
  else s

theorem State.touches_chainOne (k : Fin 4) (s : State) (j : Fin 4) : Touches [.pch] s (s.chainOne k j) := by
  unfold State.chainOne
  split_ifs
  · exact s.touches_putChannel j _
  · exact s.touches_trigger j
  · exact Touches.refl _ _

theorem State.othersSame_chainOne (k : Fin 4) (s : State) (j : Fin 4) : OthersSame j s (s.chainOne k j) := by
  unfold State.chainOne
  split_ifs
  · exact s.othersSame_putChannel j _
  · exact s.othersSame_trigger j
  · exact OthersSame.of_pch rfl

theorem State.damagedEntry_congr (h : u.pdir = s.pdir) : u.damagedEntry = s.damagedEntry :=
  funext fun n => by rw [State.damagedEntry, State.entry_congr _ _ n h, State.damagedEntry]

/-- A trigger's effect on its channel is fixed by the channel's record and the directory. -/
theorem State.channel_trigger_congr {j : Fin 4} (hj : u.channel j = s.channel j) (hp : u.pdir = s.pdir) :
    (u.trigger j).channel j = (s.trigger j).channel j := by
  have hs := s.channelTakes_trigger j
  have hu := u.channelTakes_trigger j
  rw [hj, State.damagedEntry_congr hp, ChannelTakes, hj] at hu
  rw [hu, hs]

theorem State.channel_chainOne_congr {j : Fin 4} (hj : u.channel j = s.channel j) (hp : u.pdir = s.pdir) :
    (u.chainOne k j).channel j = (s.chainOne k j).channel j := by
  unfold State.chainOne
  rw [hj]
  split_ifs
  · rw [State.channel_putChannel, if_pos rfl, State.channel_putChannel, if_pos rfl, hj]
  · exact State.channel_trigger_congr hj hp
  · exact hj

/-- What the chained flags leave of each channel. -/
theorem State.channel_chain (s : State) (k j : Fin 4) : (s.chain_ k).channel j = (s.chainOne k j).channel j := by
  have hall : ∀ j : Fin 4, j ∈ fours := by decide
  obtain ⟨hin, -, -⟩ := foldl_channels (f := State.chainOne k) (fun s j => s.othersSame_chainOne k j)
    (fun s j => (s.touches_chainOne k j).pdir) (fun _ _ _ hj hp => State.channel_chainOne_congr hj hp)
    (by decide : fours.Nodup) s
  exact hin j (hall j)

theorem State.lastServed_chain (s : State) (k : Fin 4) : (s.chain_ k).pch.lastServed = s.pch.lastServed := by
  obtain ⟨-, -, hserved⟩ := foldl_channels (f := State.chainOne k) (fun s j => s.othersSame_chainOne k j)
    (fun s j => (s.touches_chainOne k j).pdir) (fun _ _ _ hj hp => State.channel_chainOne_congr hj hp)
    (by decide : fours.Nodup) s
  exact hserved

theorem State.chain_liu (s : State) (k : Fin 4) : (s.chain_ k).liu = s.liu := by
  refine List.foldlRecOn (motive := fun v : State => v.liu = s.liu) _ _ rfl fun v hv j _ => ?_
  refine Eq.trans ?_ hv
  change (v.chainOne k j).liu = v.liu
  unfold State.chainOne
  split_ifs
  · rfl
  · exact v.trigger_liu j
  · rfl

/-! ### The page's own channel (R164) -/

/-- The channel's record without its first job and with its Page Done. -/
def Channel.pageLeft (d : PageDone) (c : Channel) : Channel :=
  { c with lastPage := some d, jobs := c.jobs.drop 1, rendering := none }

/-- The page's job has left, its plan been returned. -/
def State.pageLeft (s : State) (k : Fin 4) (p : Plan) (d : PageDone) : State :=
  ((s.recordPageDone k d).returnPlan p.snap).dropFirstJob k

theorem State.channelTakes_recordPageDone (s : State) (k : Fin 4) (d : PageDone) :
    ChannelTakes k { s.channel k with lastPage := some d } s (s.recordPageDone k d) := by
  rw [State.recordPageDone, ChannelTakes, State.channel_putChannel, if_pos rfl,
    State.channel_congr _ _ k (s.touches_notice (.p k) .pageDone (bytesPageDone d)).pch]

theorem State.othersSame_recordPageDone (s : State) (k : Fin 4) (d : PageDone) :
    OthersSame k s (s.recordPageDone k d) :=
  (OthersSame.of_pch (s.touches_notice (.p k) .pageDone (bytesPageDone d)).pch).trans (State.othersSame_putChannel _ k _)

theorem State.portsGain_recordPageDone (s : State) (k : Fin 4) (d : PageDone) :
    PortsGain none (onPort (.p k) [noticeFrame .pageDone (bytesPageDone d)]) s (s.recordPageDone k d) :=
  (((PortsGain.of_liu rfl).send (.p k) _).sent fun q => by simp [andThen, noticeFrame]).congr rfl

theorem State.channelTakes_pageLeft (s : State) (k : Fin 4) (p : Plan) (d : PageDone) :
    ChannelTakes k ((s.channel k).pageLeft d) s (s.pageLeft k p d) := by
  have hreturned := ((s.recordPageDone k d).touches_returnPlan p.snap).pch
  have hdone : ChannelTakes k { s.channel k with lastPage := some d } s ((s.recordPageDone k d).returnPlan p.snap) :=
    (State.channel_congr _ _ k hreturned).trans (s.channelTakes_recordPageDone k d)
  have hdropped := ((s.recordPageDone k d).returnPlan p.snap).channelTakes_putChannel k
    { ((s.recordPageDone k d).returnPlan p.snap).channel k with
      jobs := (((s.recordPageDone k d).returnPlan p.snap).channel k).jobs.drop 1, rendering := none }
  have hleft : ChannelTakes k ((s.channel k).pageLeft d) ((s.recordPageDone k d).returnPlan p.snap) (s.pageLeft k p d) := by
    rw [ChannelTakes, State.pageLeft, State.dropFirstJob, hdropped, hdone]
    rfl
  exact hdone.trans hleft rfl (.inl rfl)

theorem State.othersSame_pageLeft (s : State) (k : Fin 4) (p : Plan) (d : PageDone) :
    OthersSame k s (s.pageLeft k p d) :=
  ((s.othersSame_recordPageDone k d).trans
    (OthersSame.of_pch ((s.recordPageDone k d).touches_returnPlan p.snap).pch)).trans (State.othersSame_putChannel _ k _)

/-- A channel with no rendering record needs a release when it is ARMED. -/
theorem Channel.releaseNeeded_of_no_rendering (h : c.rendering = none) : c.releaseNeeded = true ↔ c.state = .armed := by
  rw [Channel.releaseNeeded_iff]
  refine or_iff_left fun hpaused => ?_
  obtain ⟨-, p, r, -, hr⟩ := Channel.rendering_of_state (.inl hpaused)
  rw [h] at hr
  cases hr

/-- A release taken or not by a channel whose page has ended and whose stall timer `timer` is settled. -/
theorem State.channel_takeRelease_of_no_rendering {timer : Option Nat}
    (hk : s.channel k = { c with stallTimer := timer }) (hr : c.rendering = none) :
    (s.takeRelease k).channel k =
      if c.triggered = true ∧ c.state = .armed then
        { c.afterRelease s.damagedEntry with
          stallTimer := settleTimer { c with stallTimer := timer } (c.afterRelease s.damagedEntry) }
      else { c with stallTimer := timer } := by
  have hneeded : (s.channel k).releaseNeeded = true ↔ c.state = .armed := by
    rw [hk]
    exact Channel.releaseNeeded_of_no_rendering hr
  have htriggered : (s.channel k).triggered = c.triggered := by rw [hk]; rfl
  rw [State.takeRelease_eq, htriggered]
  by_cases h : c.triggered = true ∧ c.state = .armed
  · rw [if_pos ⟨h.1, hneeded.mpr h.2⟩, if_pos h, State.channel_putChannel, if_pos rfl, hk, Channel.afterRelease_stallTimer]
    rfl
  · rw [if_neg fun hn => h ⟨hn.1, hneeded.mp hn.2⟩, if_neg h, hk]

/-- The record of a page's channel when the page has left and the chained flags are set. -/
def Channel.pageChained (k : Fin 4) (d : PageDone) (chained : Bool) (c : Channel) : Channel :=
  { c.pageLeft d with flag := c.flag || (chained && c.enabled && decide (c.source = .chained k)) }

/-- The chained flag of a page's own channel: its settled stall timer goes on as it is. -/
theorem State.channel_chain_self {before : Channel} (hk : s.channel k = { c with stallTimer := settleTimer before c }) :
    (s.chain_ k).channel k = { c with
      flag := c.flag || (c.enabled && decide (c.source = .chained k)), stallTimer := settleTimer before c } := by
  obtain ⟨now, hnow⟩ : ∃ now, now = s.channel k := ⟨_, rfl⟩
  rw [State.channel_chain, State.chainOne]
  by_cases hchained : (s.channel k).enabled = true ∧ (s.channel k).source = .chained k
  · rw [if_pos hchained, if_pos rfl, State.channel_putChannel, if_pos rfl]
    have hsettled : settleTimer (s.channel k) { c with flag := true } = settleTimer before { c with flag := true } :=
      settleTimer_settled (c' := c) rfl (.inr rfl) (by rw [hk]; rfl) (by rw [hk])
    have htimer : settleTimer (s.channel k) { s.channel k with flag := true } = settleTimer before c := by
      rw [show settleTimer (s.channel k) { s.channel k with flag := true } = settleTimer (s.channel k) { c with flag := true }
        by rw [hk]; rfl, hsettled]
      rfl
    rw [htimer]
    rw [hk] at hchained ⊢
    simp only at hchained
    simp [hchained]
  · rw [if_neg hchained]
    rw [hk] at hchained ⊢
    have hflag : (c.enabled && decide (c.source = .chained k)) = false := by
      simpa using hchained
    rw [hflag, Bool.or_false]

/-! ### The end of a page -/

/-- A page end sets the chained flags (R164, step 5). -/
def PageDone.chains (d : PageDone) : Bool := decide (d.result = .done ∨ d.result = .defect)

/-- The part at a page end before the page's own channel takes a release. -/
def State.pageChained (s : State) (k : Fin 4) (p : Plan) (d : PageDone) : State :=
  if d.chains then (s.pageLeft k p d).chain_ k else s.pageLeft k p d

theorem State.endPage_eq (s : State) (k : Fin 4) (p : Plan) (d : PageDone) :
    s.endPage k p d = (s.pageChained k p d).takeRelease k := by
  unfold State.pageChained PageDone.chains
  simp only [decide_eq_true_eq]
  rfl

theorem State.touches_pageChained (s : State) (k : Fin 4) (p : Plan) (d : PageDone) :
    Touches [.pch] (s.pageLeft k p d) (s.pageChained k p d) := by
  unfold State.pageChained
  split
  · exact State.touches_chain _ k
  · exact Touches.refl _ _

theorem State.pageChained_liu (s : State) (k : Fin 4) (p : Plan) (d : PageDone) :
    (s.pageChained k p d).liu = (s.pageLeft k p d).liu := by
  unfold State.pageChained
  split
  · exact State.chain_liu _ k
  · rfl

/-- After the return of its plan a page end touches the channels alone. -/
theorem State.touches_endPage_returned (s : State) (k : Fin 4) (p : Plan) (d : PageDone) :
    Touches [.pch] ((s.recordPageDone k d).givenBack [p.snap]) (s.endPage k p d) := by
  rw [State.endPage_eq]
  exact ((State.touches_putChannel _ k _).trans (s.touches_pageChained k p d)).trans (State.touches_takeRelease _ k)

theorem State.endPage_liu (s : State) (k : Fin 4) (p : Plan) (d : PageDone) :
    (s.endPage k p d).liu = ((s.recordPageDone k d).givenBack [p.snap]).liu := by
  rw [State.endPage_eq, State.takeRelease_liu, State.pageChained_liu]
  rfl

/-- The releases of a page end find the entries DAMAGED that are so at its end. -/
theorem State.damagedEntry_pageLeft (s : State) (k : Fin 4) (p : Plan) (d : PageDone) :
    (s.pageLeft k p d).damagedEntry = (s.endPage k p d).damagedEntry := by
  rw [State.endPage_eq]
  exact (State.damagedEntry_congr (State.touches_takeRelease _ k).pdir).trans
    (State.damagedEntry_congr (s.touches_pageChained k p d).pdir) |>.symm

theorem State.lastServed_endPage (s : State) (k : Fin 4) (p : Plan) (d : PageDone) :
    (s.endPage k p d).pch.lastServed = s.pch.lastServed := by
  obtain ⟨-, hrelease⟩ := State.othersSame_takeRelease (s.pageChained k p d) k
  obtain ⟨-, hleft⟩ := s.othersSame_pageLeft k p d
  rw [State.endPage_eq, hrelease, State.pageChained]
  split
  · rw [State.lastServed_chain, hleft]
  · exact hleft

/-- The page's own channel at its end: `c` is its record before the command, from which its timer is settled. -/
theorem State.channel_endPage_self
    (hleft : (s.pageLeft k p d).channel k = { c.pageLeft d with stallTimer := settleTimer c (c.pageLeft d) }) :
    let t := s.endPage k p d
    let c' := c.pageChained k d d.chains
    let waiting : Channel := { c' with stallTimer := settleTimer c c' }
    let released := c'.afterRelease t.damagedEntry
    t.channel k =
      if c'.triggered = true ∧ c'.state = .armed then { released with stallTimer := settleTimer waiting released }
      else waiting := by
  intro t c' waiting released
  have hchained : (s.pageChained k p d).channel k = { c' with stallTimer := settleTimer c c' } := by
    unfold State.pageChained
    cases hd : d.chains with
    | true =>
      rw [if_pos rfl, State.channel_chain_self hleft]
      simp only [c', Channel.pageChained, hd, Bool.true_and]
      rfl
    | false =>
      rw [if_neg Bool.false_ne_true, hleft]
      simp only [c', Channel.pageChained, hd, Bool.false_and, Bool.or_false]
      rfl
  have hdamaged : (s.pageChained k p d).damagedEntry = t.damagedEntry :=
    (State.damagedEntry_congr (s.touches_pageChained k p d).pdir).trans (s.damagedEntry_pageLeft k p d)
  have hrelease := State.channel_takeRelease_of_no_rendering hchained rfl
  rw [hdamaged] at hrelease
  exact (congrArg (State.channel · k) (s.endPage_eq k p d)).trans hrelease

/-- Every other channel at a page end: chained on the page's channel it takes its flag, and else it is as it was. -/
theorem State.channel_endPage_ne (s : State) {i : Fin 4} (hi : i ≠ k) (p : Plan) (d : PageDone) :
    let c := s.channel i
    let t := s.endPage k p d
    (d.chains = true ∧ c.enabled = true ∧ c.source = .chained k → ChannelTakes i (c.afterTrigger t.damagedEntry) s t)
      ∧ (¬ (d.chains = true ∧ c.enabled = true ∧ c.source = .chained k) → t.channel i = c) := by
  intro c t
  obtain ⟨hsame, -⟩ := State.othersSame_takeRelease (s.pageChained k p d) k
  obtain ⟨hleft, -⟩ := s.othersSame_pageLeft k p d
  have ht : t.channel i = (s.pageChained k p d).channel i := by
    rw [show t = (s.pageChained k p d).takeRelease k from s.endPage_eq k p d, hsame i hi]
  have hone (hd : d.chains = true) : t.channel i = ((s.pageLeft k p d).chainOne k i).channel i := by
    rw [ht, State.pageChained, if_pos hd, State.channel_chain]
  refine ⟨fun h => ?_, fun h => ?_⟩
  · obtain ⟨hd, hchained⟩ := h
    have htakes := (s.pageLeft k p d).channelTakes_trigger i
    rw [ChannelTakes, hleft i hi, s.damagedEntry_pageLeft k p d] at htakes
    rw [ChannelTakes, hone hd, State.chainOne, hleft i hi, if_pos hchained, if_neg hi, htakes]
  · by_cases hd : d.chains = true
    · rw [hone hd, State.chainOne, hleft i hi, if_neg fun hc => h ⟨hd, hc⟩, hleft i hi]
    · rw [ht, State.pageChained, if_neg hd, hleft i hi]

section EndPage

variable {heard : Option Port} {first : Port → List Frame} {blocks : List Block} {j : Job} {rest : List Job}

/-- The end of a page as the statements have it, in a state `u` in which a command has gone on from `s`: it has sent `first`,
and changed no block that the return reads and of the channels no more than the rendering record and the stall timer of channel
`k`, whose change to a record without a page settles the timer as from `s`. -/
theorem State.endPage_outcome (halike : Alike s u) (hports : PortsGain heard first s u) (honly : OnlyChanges blocks s u)
    (hothers : OthersSame k s u) (hblocks : ∀ b ∈ [Block.liu, .ru, .pdir, .gs, .pch], b ∈ blocks)
    (hjobs : (s.channel k).jobs = j :: rest)
    (hrecord : ∃ r timer, u.channel k = { s.channel k with rendering := r, stallTimer := timer })
    (htimer : ∀ after : Channel, after.rendering = none →
      settleTimer (u.channel k) after = settleTimer (s.channel k) after) :
    SendsAndReturns heard (andThen first (onPort (.p k) [noticeFrame .pageDone (bytesPageDone d)])) blocks [p.snap] s
        (u.endPage k p d)
      ∧ PageEnded k p d d.chains rest s (u.endPage k p d) := by
  have hrecorded : Alike s (u.recordPageDone k d) := halike.touches (u.touches_recordPageDone k d)
  have hback := (Alike.refl _).touches (u.touches_endPage_returned k p d)
  have hsent := hports.trans (u.portsGain_recordPageDone k d)
  have honlyt : OnlyChanges (.lt :: .sc :: blocks) s (u.endPage k p d) :=
    honly.trans (u.touches_endPage k p d).2 (fun b hb => by simp [hb]) (by simp [hblocks])
  obtain ⟨htaken, hquiet⟩ := hrecorded.returned hback
  obtain ⟨hsame, hserved⟩ := hothers
  have hdrop : (s.channel k).jobs.drop 1 = rest := by rw [hjobs]; rfl
  refine ⟨SendsAndReturns.intro hrecorded hsent hback (u.endPage_liu k p d) honlyt, htaken, hquiet,
    (u.lastServed_endPage k p d).trans hserved, ?_, fun i hi => ?_⟩
  · have hleft : (u.pageLeft k p d).channel k = { (s.channel k).pageLeft d with
        stallTimer := settleTimer (s.channel k) ((s.channel k).pageLeft d) } := by
      obtain ⟨r, timer, hk⟩ := hrecord
      rw [u.channelTakes_pageLeft k p d, htimer _ rfl, hk]
      rfl
    have hself := State.channel_endPage_self hleft
    simp only [Channel.pageChained, Channel.pageLeft, hdrop] at hself
    exact hself
  · obtain ⟨hchained, hnot⟩ := u.channel_endPage_ne hi p d
    rw [hsame i hi] at hchained hnot
    intro c
    split
    · next h =>
      have htakes := hchained h
      rw [ChannelTakes, hsame i hi] at htakes
      exact htakes
    · next h => exact hnot h

end EndPage

end Sys2Proof.Machine
end

section
/-! PROOFS. The waits on the press and the stall timer, Abort Page, and the pages that they end (O45). -/

set_option Elab.async false

namespace Sys2Proof.Machine

variable {s u : State} {k : Fin 4} {c : Channel} {r : Rendering}

/-! ### The waits on the press (R167) -/

theorem Channel.pressWait_armed_iff (hs : c.state = .armed) {w : PressWait} :
    c.pressWait = some w ↔ c.source ≠ .immediate ∧ ∃ p, c.plannedPlan? = some p ∧ w = .armed p.snap.seq := by
  simp only [Channel.pressWait, hs]
  by_cases hi : c.source = .immediate <;> simp [hi, eq_comm]

theorem Channel.pressWait_paused_iff (hs : c.state = .paused) {w : PressWait} :
    c.pressWait = some w ↔ c.source ≠ .immediate ∧ ∃ p, c.renderingPlan? = some p ∧ w = .paused p.snap.seq := by
  simp only [Channel.pressWait, hs]
  by_cases hi : c.source = .immediate <;> simp [hi, eq_comm]

theorem Channel.pressWait_running_iff (hs : c.state = .running) {w : PressWait} :
    c.pressWait = some w ↔ ∃ p r, c.rendering = some r ∧ r.inFlight = false ∧ r.started < r.released
      ∧ c.credits = 0 ∧ c.renderingPlan? = some p ∧ w = .credit p.snap.seq := by
  obtain ⟨-, p, r, hp, hr⟩ := Channel.rendering_of_state (.inr hs)
  simp only [Channel.pressWait, hs, hr, hp]
  by_cases h : ¬ r.inFlight = true ∧ r.started < r.released ∧ c.credits = 0
  · rw [if_pos h]
    simp only [Bool.not_eq_true] at h
    simpa [h] using eq_comm
  · rw [if_neg h]
    simp only [Bool.not_eq_true] at h
    refine ⟨nofun, ?_⟩
    rintro ⟨-, r', hr', hi, hs', hc, -⟩
    obtain rfl := Option.some.inj hr'
    exact absurd ⟨hi, hs', hc⟩ h

/-- The three waits of R167. -/
theorem Channel.pressWait_iff {w : PressWait} : c.pressWait = some w ↔
    (∃ p, c.state = .armed ∧ c.source ≠ .immediate ∧ c.plannedPlan? = some p ∧ w = .armed p.snap.seq)
      ∨ (∃ p, c.state = .paused ∧ c.source ≠ .immediate ∧ c.renderingPlan? = some p ∧ w = .paused p.snap.seq)
      ∨ ∃ p r, c.state = .running ∧ c.rendering = some r ∧ r.inFlight = false ∧ r.started < r.released
          ∧ c.credits = 0 ∧ c.renderingPlan? = some p ∧ w = .credit p.snap.seq := by
  cases hs : c.state with
  | off => simp [Channel.pressWait, hs]
  | idle => simp [Channel.pressWait, hs]
  | armed => simp [Channel.pressWait_armed_iff hs]
  | paused => simp [Channel.pressWait_paused_iff hs]
  | running => simp [Channel.pressWait_running_iff hs]

/-- The stall timer by the wait before and the wait after. -/
theorem settleTimer_table (before after : Channel) :
    (after.pressWait = none ∨ after.stallWindow = 0 → settleTimer before after = none)
      ∧ (after.pressWait ≠ none → after.stallWindow ≠ 0 →
        settleTimer before after = if before.pressWait = after.pressWait then before.stallTimer
          else some (after.stallWindow * 1000)) := by
  cases hw : after.pressWait with
  | none => exact ⟨fun _ => settleTimer_of_no_wait hw, fun h => absurd rfl h⟩
  | some w =>
    refine ⟨fun h => ?_, fun _ hwindow => ?_⟩
    · rw [settleTimer_of_wait hw, if_pos (h.resolve_left nofun)]
    · rw [settleTimer_of_wait hw, if_neg hwindow]

/-! ### Ends of pages (R164 to R167) -/

/-- The Page Done of a page with no band in flight (log 10). -/
theorem Channel.pageDone_eq (k : Fin 4) (p : Plan) (result : PageResult) (hr : r.inFlight = false) :
    Channel.pageDone k p r result false =
      pageDoneOf k p result (r.copy - 1 + (if r.started = r.bandCount then 1 else 0)) r.started false := by
  simp [Channel.pageDone, pageDoneOf, Rendering.completed, hr]

theorem Channel.renderingPlan?_of_rendering {j : Job} {rest : List Job} {p : Plan} (hjobs : c.jobs = j :: rest)
    (hj : j.stage = .rendering p) : c.renderingPlan? = some p := by
  simp [Channel.renderingPlan?, hjobs, Job.renderingPlan?, hj]

theorem State.endRendering_eq {p : Plan} (hp : (s.channel k).renderingPlan? = some p)
    (hr : (s.channel k).rendering = some r) (result : PageResult) :
    s.endRendering k result = s.endPage k p (Channel.pageDone k p r result false) := by
  simp only [State.endRendering, hp, hr]

/-! ### Abort Page (R166) -/

section AbortPage

variable (s k) (from_ : Sender) {p : Plan}

theorem State.abortPage_pending (hp : (s.channel k).renderingPlan? = some p) (hr : (s.channel k).rendering = some r)
    (hflight : r.inFlight = true) :
    s.abortPage from_ k =
      (s.ok from_ []).putChannel k { s.channel k with rendering := some { r with abortPending := true } } := by
  simp only [State.abortPage, hp, hr, if_pos hflight]

theorem State.abortPage_none (hp : (s.channel k).renderingPlan? = none) :
    s.abortPage from_ k = (s.ok from_ []).putChannel k { s.channel k with lastPage := none } := by
  simp only [State.abortPage, hp]

theorem State.abortPage_ends (hp : (s.channel k).renderingPlan? = some p) (hr : (s.channel k).rendering = some r)
    (hflight : r.inFlight = false) : s.abortPage from_ k = (s.ok from_ []).endRendering k .aborted := by
  simp only [State.abortPage, hp, hr, hflight, Bool.false_eq_true, if_false]

end AbortPage

/-! ### The stall timer's expiry (R167) -/

theorem State.stall_rendering (hstate : (s.channel k).state ≠ .armed) : s.stall k = s.endRendering k .stalled := by
  unfold State.stall
  extract_lets c
  split
  · next h => exact absurd h hstate
  · rfl

theorem State.stall_armed {p : Plan} (hstate : (s.channel k).state = .armed) (hp : (s.channel k).plannedPlan? = some p) :
    s.stall k = s.endPage k p (stalledArmed k p) := by
  simp only [State.stall, hstate, hp]

/-- The page end of the timer's expiry, whatever its Page Done: nothing has gone before it. -/
theorem State.endPage_outcome_stalled {j : Job} {rest : List Job} {p : Plan} {d : PageDone}
    (hjobs : (s.channel k).jobs = j :: rest) (hd : d.chains = false) :
    SendsAndReturns none (onPort (.p k) [noticeFrame .pageDone (bytesPageDone d)]) [.liu, .ru, .pdir, .gs, .pch] [p.snap] s
        (s.endPage k p d)
      ∧ PageEnded k p d false rest s (s.endPage k p d) := by
  have hend := State.endPage_outcome (d := d) (p := p) (Alike.refl s) (PortsGain.of_liu rfl)
    (OnlyChanges.refl [.liu, .ru, .pdir, .gs, .pch] s) (OthersSame.of_pch (k := k) rfl) (fun _ h => h) hjobs
    ⟨_, _, rfl⟩ (fun _ _ => rfl)
  rw [hd] at hend
  exact hend

/-- Frames sent on one port and then more on the same. -/
theorem andThen_onPort (p : Port) (first second : List Frame) :
    andThen (onPort p first) (onPort p second) = onPort p (first ++ second) :=
  funext fun q => by by_cases hq : q = p <;> simp [andThen, onPort, hq]

/-- An Abort Page that ends the page: its reply has gone before it. -/
theorem State.endPage_outcome_aborted {j : Job} {rest : List Job} {p : Plan} {d : PageDone} (tag : Byte)
    (hjobs : (s.channel k).jobs = j :: rest) (hd : d.chains = false) :
    let t := ((s.arrival (.p k)).send (.p k) (replyFrame .abortPage tag .ok [])).endPage k p d
    SendsAndReturns (some (.p k)) (onPort (.p k)
        [replyFrame .abortPage tag .ok [], noticeFrame .pageDone (bytesPageDone d)]) [.liu, .ru, .pdir, .gs, .pch] [p.snap] s t
      ∧ PageEnded k p d false rest s t := by
  obtain ⟨u, hu⟩ : ∃ u, u = (s.arrival (.p k)).send (.p k) (replyFrame .abortPage tag .ok []) := ⟨_, rfl⟩
  have hanswered : Alike s u := ⟨by simp [hu], by simp [hu], by simp [hu], by simp [hu], by simp [hu]⟩
  obtain ⟨hports, honly⟩ : Accepted .abortPage (.p k) tag [] [.ru, .pdir, .gs, .pch] s u := hu ▸ Accepted.plain _ _ _ _ _ _
  have hchannel : u.channel k = s.channel k := by simp [hu]
  have hend := State.endPage_outcome (d := d) (p := p) hanswered hports honly
    (OthersSame.of_pch (k := k) (by simp [hu])) (fun _ h => h) hjobs ⟨_, _, hchannel⟩ (fun _ _ => by rw [hchannel])
  rw [hd, andThen_onPort] at hend
  rw [← hu]
  exact hend

/-- Settles O45: the waits, the timer, and the pages that an order or the timer ends. -/
theorem abortAndStallEndPages : Obligations.AbortAndStallEndPages := by
  refine ⟨fun c w => Channel.pressWait_iff, settleTimer_table, fun s k tag p => ?_⟩
  intro c
  refine ⟨fun hadm => ⟨fun q r hq hr hflight => ?_, fun hnone => ?_, fun j rest q r hjobs hj hr hflight => ?_⟩,
    fun hexpired => ⟨fun j rest q r hjobs hj hr hflight hstate => ?_, fun j rest q hjobs hj hon => ?_⟩,
    fun hrunning => if_neg hrunning⟩
  · have hc : (s.arrival (.p k)).channel k = c := State.channel_arrival _ _ _
    refine ⟨_, exec_abortPage hadm tag, ?_⟩
    rw [State.abortPage_pending _ _ _ (hc ▸ hq) (hc ▸ hr) hflight, hc]
    exact accepted_putChannel .abortPage (.p k) tag [] s k _
  · have hc : (s.arrival (.p k)).channel k = c := State.channel_arrival _ _ _
    refine ⟨_, exec_abortPage hadm tag, ?_⟩
    rw [State.abortPage_none _ _ _ (hc ▸ hnone), hc]
    exact accepted_putChannel .abortPage (.p k) tag [] s k _
  · have hp := Channel.renderingPlan?_of_rendering hjobs hj
    intro d
    refine ⟨_, exec_abortPage hadm tag, ?_⟩
    rw [State.abortPage_ends _ _ _ (by simpa using hp) (by simpa using hr) hflight,
      State.endRendering_eq (by simpa using hp) (by simpa using hr), Channel.pageDone_eq _ _ _ hflight]
    exact State.endPage_outcome_aborted tag hjobs rfl
  · have hp := Channel.renderingPlan?_of_rendering hjobs hj
    intro d
    refine ⟨_, if_pos hexpired, ?_⟩
    rw [State.stall_rendering hstate, State.endRendering_eq hp hr, Channel.pageDone_eq _ _ _ hflight]
    exact State.endPage_outcome_stalled hjobs rfl
  · have hp := Channel.plannedPlan?_of_planned hjobs hj
    intro d
    refine ⟨_, if_pos hexpired, ?_⟩
    rw [State.stall_armed (Channel.armed_iff.mpr ⟨hon, j, rest, q, hjobs, hj⟩) hp]
    exact State.endPage_outcome_stalled hjobs rfl

end Sys2Proof.Machine
end

section
/-! PROOFS. Channel Reset and the loss of a press link by their outcomes (O46). -/

set_option Elab.async false

namespace Sys2Proof.Machine

variable {s t u v : State} {k : Fin 4} {c : Channel}

/-! ### The channel cleared (R108, R168) -/

/-- The Page Done of a channel's RENDERING page at a reset, its band in flight cut (R168, step 2; log 10). -/
def Channel.resetDone (k : Fin 4) (c : Channel) : Option PageDone :=
  match c.renderingPlan?, c.rendering with
  | some q, some r => some (pageDoneOf k q .aborted
      (r.copy - 1 + (if r.started = r.bandCount ∧ r.inFlight = false then 1 else 0)) r.started r.inFlight)
  | _, _ => none

/-- The notices of a reset: the Page Done of the RENDERING page, and a Job Cancelled for every other job in list order. -/
def Channel.resetNotices (k : Fin 4) (c : Channel) (cause : CancelCause) : List Frame :=
  (c.resetDone k).toList.map (fun d => noticeFrame .pageDone (bytesPageDone d))
    ++ (c.jobs.filter (fun j => (Job.renderingPlan? j).isNone)).map
      (fun j => noticeFrame .jobCancelled (bytesJobCancelled k j cause))

/-- The record of a channel after a reset (R168, step 5). -/
def Channel.afterReset (k : Fin 4) (c : Channel) : Channel :=
  { c with
    jobs := [], credits := 0, flag := false, rendering := none, stallTimer := none,
    lastPage := (c.resetDone k).orElse (fun _ => c.lastPage) }

theorem Channel.pageDone_reset (k : Fin 4) (p : Plan) (r : Rendering) :
    Channel.pageDone k p r .aborted r.inFlight =
      pageDoneOf k p .aborted
        (r.copy - 1 + (if r.started = r.bandCount ∧ r.inFlight = false then 1 else 0)) r.started r.inFlight := by
  simp [Channel.pageDone, pageDoneOf, Rendering.completed]

theorem State.abortRendering_none (h : (s.channel k).resetDone k = none) : s.abortRendering k = s := by
  unfold State.abortRendering
  split
  · next p r hp hr => simp [Channel.resetDone, hp, hr] at h
  · rfl

theorem State.abortRendering_some {d : PageDone} (h : (s.channel k).resetDone k = some d) :
    s.abortRendering k = s.recordPageDone k d := by
  unfold State.abortRendering
  split
  · next p r hp hr =>
    rw [Channel.pageDone_reset]
    simp only [Channel.resetDone, hp, hr, Option.some.injEq] at h
    rw [h]
  · next hnone =>
    unfold Channel.resetDone at h
    split at h
    · next p r hp hr => exact absurd hr (hnone p r hp)
    · cases h

theorem State.portsGain_abortRendering (s : State) (k : Fin 4) :
    PortsGain none (onPort (.p k) (((s.channel k).resetDone k).toList.map (fun d => noticeFrame .pageDone (bytesPageDone d))))
      s (s.abortRendering k) := by
  cases hd : (s.channel k).resetDone k with
  | none =>
    rw [State.abortRendering_none hd]
    exact (PortsGain.of_liu rfl).sent fun q => by simp [onPort]
  | some d =>
    rw [State.abortRendering_some hd]
    exact s.portsGain_recordPageDone k d

theorem State.othersSame_abortRendering (s : State) (k : Fin 4) : OthersSame k s (s.abortRendering k) := by
  cases hd : (s.channel k).resetDone k with
  | none => rw [State.abortRendering_none hd]; exact OthersSame.of_pch rfl
  | some d => rw [State.abortRendering_some hd]; exact s.othersSame_recordPageDone k d

/-- The RENDERING page's end leaves the channel's record with the Page Done, and its cleared form is that of the reset. -/
theorem State.cleared_abortRendering (s : State) (k : Fin 4) :
    { ((s.abortRendering k).channel k).cleared with stallTimer := none } = (s.channel k).afterReset k := by
  cases hd : (s.channel k).resetDone k with
  | none =>
    rw [State.abortRendering_none hd, Channel.afterReset, hd]
    rfl
  | some d =>
    rw [State.abortRendering_some hd, s.channelTakes_recordPageDone k d, Channel.afterReset, hd]
    rfl

theorem State.freePlanner_pln (s : State) (k : Fin 4) :
    (s.freePlanner k).pln =
      { s.pln with planning := if s.pln.planning = some k then none else s.pln.planning } := by
  unfold State.freePlanner
  split <;> rfl

theorem State.freePlanner_liu (s : State) (k : Fin 4) : (s.freePlanner k).liu = s.liu := by
  unfold State.freePlanner
  split <;> rfl

theorem State.cutBand_liu (s : State) (k : Fin 4) : (s.cutBand k).liu = s.liu := by
  unfold State.cutBand
  split <;> rfl

theorem State.cutBand_ce (s : State) (k : Fin 4) :
    (s.cutBand k).ce = if s.ce.map Band.channel = some k then none else s.ce := by
  unfold State.cutBand
  cases hb : s.ce with
  | none => simp [hb]
  | some b => by_cases hk : b.channel = k <;> simp [hb, hk]

/-- What clearing a channel changes, before its plans are returned. -/
theorem State.clearChannel_outcome (s : State) (k : Fin 4) (cause : CancelCause) :
    let t := s.clearChannel k cause
    PortsGain none (onPort (.p k) ((s.channel k).resetNotices k cause)) s t ∧ OthersSame k s t
      ∧ t.channel k = (s.channel k).afterReset k
      ∧ t.pln = { s.pln with planning := if s.pln.planning = some k then none else s.pln.planning }
      ∧ t.ce = (if s.ce.map Band.channel = some k then none else s.ce) := by
  intro t
  obtain ⟨others, hothers⟩ : ∃ l, l = (s.channel k).jobs.filter (fun j => (Job.renderingPlan? j).isNone) := ⟨_, rfl⟩
  obtain ⟨a, ha⟩ : ∃ a, a = (s.cutBand k).abortRendering k := ⟨_, rfl⟩
  obtain ⟨b, hb⟩ : ∃ b, b = a.cancelNotices k others cause := ⟨_, rfl⟩
  have ht : t = (b.putChannel k (b.channel k).cleared).freePlanner k := by rw [hb, ha, hothers]; rfl
  have hcut := (s.touches_cutBand k).pch
  have hcutk : (s.cutBand k).channel k = s.channel k := State.channel_congr _ _ k hcut
  have haborted := (s.cutBand k).touches_abortRendering k
  have hcancelled : Touches [] a b := hb ▸ a.touches_cancelNotices k others cause
  have hfreed := (b.putChannel k (b.channel k).cleared).touches_freePlanner k
  have hbk : b.channel k = a.channel k := State.channel_congr _ _ k hcancelled.pch
  refine ⟨?_, ?_, ?_, ?_, ?_⟩
  · have hdone := (s.cutBand k).portsGain_abortRendering k
    rw [hcutk, ← ha] at hdone
    have hnotices : PortsGain none (onPort (.p k) (others.map
        (fun j => noticeFrame .jobCancelled (bytesJobCancelled k j cause)))) a b :=
      hb ▸ PortsGain.foldl_notice (.p k) .jobCancelled (fun j => bytesJobCancelled k j cause) others a
    have hall := ((PortsGain.of_liu (s.cutBand_liu k)).trans hdone).trans hnotices
    refine (hall.congr (ht ▸ State.freePlanner_liu _ k)).sent fun q => ?_
    rw [Channel.resetNotices, ← andThen_onPort, ← hothers]
    rfl
  · rw [ht]
    exact ((((OthersSame.of_pch hcut).trans (ha ▸ (s.cutBand k).othersSame_abortRendering k)).trans
      (OthersSame.of_pch hcancelled.pch)).trans (State.othersSame_putChannel b k _)).trans (OthersSame.of_pch hfreed.pch)
  · rw [ht, State.channel_congr _ _ k hfreed.pch,
      ChannelTakes.stopped (b.channelTakes_putChannel k _) (Channel.pressWait_of_no_job rfl), hbk, ha,
      State.cleared_abortRendering, hcutk]
  · rw [ht, State.freePlanner_pln, State.putChannel_pln, hcancelled.pln, ha, haborted.pln, (s.touches_cutBand k).pln]
  · rw [ht, hfreed.ce, State.putChannel_ce, hcancelled.ce, ha, haborted.ce, State.cutBand_ce]

/-! ### The reset (R108, R168) -/

/-- What a reset leaves beside its frames, as the statement has it. -/
def ChannelCleared (k : Fin 4) (s t : State) : Prop :=
  let plans := (s.channel k).jobs.filterMap Job.snap?
  ReturnTaken plans s t ∧ (QuietReturn s plans → PlansReturned plans s t) ∧ OthersSame k s t
    ∧ t.channel k = (s.channel k).afterReset k
    ∧ t.pln = { s.pln with planning := if s.pln.planning = some k then none else s.pln.planning }
    ∧ t.ce = (if s.ce.map Band.channel = some k then none else s.ce)

theorem State.resetChannel_eq (s : State) (k : Fin 4) (cause : CancelCause) :
    s.resetChannel k cause State.returnPlan =
      (s.clearChannel k cause).givenBack ((s.channel k).jobs.filterMap Job.snap?) := rfl

theorem State.touches_reset (s : State) (k : Fin 4) (cause : CancelCause) :
    Touches [.lt, .ru, .sc, .pdir, .gs, .pln, .pch, .ce] s (s.resetChannel k cause State.returnPlan) :=
  s.touches_resetChannel k cause _ fun s p => s.touches_returnPlan p

/-- A reset in a state in which nothing but ports has changed before it. -/
theorem State.channelCleared (h : Alike s u) (hpch : u.pch = s.pch) (hpln : u.pln = s.pln) (hce : u.ce = s.ce)
    (cause : CancelCause) : ChannelCleared k s (u.resetChannel k cause State.returnPlan) := by
  unfold ChannelCleared
  intro plans
  have hk : u.channel k = s.channel k := State.channel_congr _ _ k hpch
  obtain ⟨-, hothers, hrecord, hplanner, hengine⟩ := u.clearChannel_outcome k cause
  have hcleared : Alike s (u.clearChannel k cause) := h.touches (u.touches_clearChannel k cause)
  have hback := (u.clearChannel k cause).touches_givenBack plans
  rw [State.resetChannel_eq, hk]
  obtain ⟨htaken, hquiet⟩ := hcleared.returned (Alike.refl ((u.clearChannel k cause).givenBack plans))
  refine ⟨htaken, hquiet, ((OthersSame.of_pch hpch).trans hothers).trans (OthersSame.of_pch hback.pch), ?_, ?_, ?_⟩
  · rw [State.channel_congr _ _ k hback.pch, hrecord, hk]
  · rw [hback.pln, hplanner, hpln]
  · rw [hback.ce, hengine, hce]

/-- The frames of a Channel Reset, and the blocks it changes. -/
theorem State.reset_sends (s : State) (k : Fin 4) (tag : Byte) :
    SendsAndReturns (some (.p k)) (onPort (.p k)
        (replyFrame .channelReset tag .ok [] :: (s.channel k).resetNotices k .channelReset))
      [.liu, .ru, .pdir, .gs, .pln, .pch, .ce] ((s.channel k).jobs.filterMap Job.snap?) s
      (((s.arrival (.p k)).send (.p k) (replyFrame .channelReset tag .ok [])).resetChannel k .channelReset
        State.returnPlan) := by
  obtain ⟨u, hu⟩ : ∃ u, u = (s.arrival (.p k)).send (.p k) (replyFrame .channelReset tag .ok []) := ⟨_, rfl⟩
  have hanswered : Alike s u := ⟨by simp [hu], by simp [hu], by simp [hu], by simp [hu], by simp [hu]⟩
  have hk : u.channel k = s.channel k := by simp [hu]
  obtain ⟨hports, honly⟩ : Accepted .channelReset (.p k) tag [] [] s u := hu ▸ Accepted.plain _ _ _ _ _ _
  obtain ⟨hnotices, -⟩ := u.clearChannel_outcome k .channelReset
  have hsent := hports.trans hnotices
  rw [andThen_onPort, hk] at hsent
  rw [← hu, State.resetChannel_eq, hk]
  refine SendsAndReturns.intro (hanswered.touches (u.touches_clearChannel k .channelReset)) hsent (Alike.refl _) rfl ?_
  have hreset := (u.touches_reset k .channelReset).2
  rw [State.resetChannel_eq, hk] at hreset
  exact honly.trans hreset (by simp) (by simp)

/-! ### The loss of a press link (R169, R191) -/

/-- A port whose link has gone DOWN. -/
def PortState.lost (p : PortState) : PortState := { up := false, silence := none, frameFault := p.frameFault, waiting := [] }

theorem exec_lineLoss_press (h : (s.port (.p k)).up = true) :
    exec (.lineLoss (.p k)) s =
      .next ((s.setPort (.p k) (s.port (.p k)).lost).resetChannel k .channelReset State.returnPlan) := if_pos h

theorem OnlyChanges.setPort (s : State) (p : Port) (v : PortState) : OnlyChanges [.liu] s (s.setPort p v) :=
  ⟨by simp, by simp, by simp, fun b hb => by cases b <;> simp_all [Block.same]⟩

/-- The loss of a press link: nothing is sent on it, and the other ports carry what the return of the plans sends. -/
theorem State.linkLost_outcome (s : State) (k : Fin 4) :
    let plans := (s.channel k).jobs.filterMap Job.snap?
    let t := (s.setPort (.p k) (s.port (.p k)).lost).resetChannel k .channelReset State.returnPlan
    OnlyChanges [.liu, .lt, .ru, .sc, .pdir, .gs, .pln, .pch, .ce] s t
      ∧ (QuietReturn s plans → OnlyChanges [.liu, .ru, .pdir, .gs, .pln, .pch, .ce] s t
        ∧ ∀ q, q ≠ .p k → t.port q = s.port q)
      ∧ t.port (.p k) = (s.port (.p k)).lost
      ∧ (∀ q, q ≠ .p k → t.port q = { s.port q with waiting :=
          if (s.port q).up then (s.port q).waiting ++ s.returnFrames plans q else (s.port q).waiting })
      ∧ ChannelCleared k s t := by
  intro plans t
  obtain ⟨u, hu⟩ : ∃ u, u = s.setPort (.p k) (s.port (.p k)).lost := ⟨_, rfl⟩
  obtain ⟨v, hv⟩ : ∃ v, v = u.clearChannel k .channelReset := ⟨_, rfl⟩
  have hdown : Alike s u := ⟨by simp [hu], by simp [hu], by simp [hu], by simp [hu], by simp [hu]⟩
  have hk : u.channel k = s.channel k := State.channel_congr _ _ k (by simp [hu])
  have ht : t = v.givenBack plans := by
    rw [show t = u.resetChannel k .channelReset State.returnPlan by rw [hu], State.resetChannel_eq, hk, hv]
  have hlost : u.port (.p k) = (s.port (.p k)).lost := by rw [hu, State.port_setPort, if_pos rfl]
  have hcleared : Alike s v := hdown.touches (hv ▸ u.touches_clearChannel k .channelReset)
  have hreset : Touches [.lt, .ru, .sc, .pdir, .gs, .pln, .pch, .ce] u t := hu ▸ State.touches_reset _ k .channelReset
  have honly : OnlyChanges [.lt, .sc, .liu, .ru, .pdir, .gs, .pln, .pch, .ce] s t :=
    (hu ▸ OnlyChanges.setPort s (.p k) _ : OnlyChanges [.liu] s u).trans hreset.2 (by simp) (by simp)
  -- the ports once the channel is cleared
  have hother (q : Port) (hq : q ≠ .p k) : v.port q = s.port q := by
    obtain ⟨hnotices, -⟩ := u.clearChannel_outcome k .channelReset
    rw [hv, hnotices q, hu, State.port_setPort, if_neg hq]
    simp [onPort, hq]
  have hup (q : Port) (hq : (v.port q).up = true) : (s.port q).up = true := by
    by_cases hqk : q = .p k
    · obtain ⟨hsame, -⟩ := (u.touches_clearChannel k .channelReset).port q
      rw [hv, hsame, hqk, hlost] at hq
      cases hq
    · rwa [hother q hqk] at hq
  refine ⟨honly.mono (by simp), fun hq => ?_, ?_, fun q hq => ?_, ?_⟩
  · obtain ⟨hsilent, hnarrow⟩ := hcleared.onlyChanges_quiet (ht ▸ Alike.refl _) hq honly
    exact ⟨hnarrow, fun q hqk => (State.port_congr _ _ q (ht ▸ hsilent)).trans (hother q hqk)⟩
  · rw [hreset.down (by rw [hlost]; rfl), hlost]
  · rw [ht, hcleared.portsGain_givenBack hup plans q, hother q hq]
    rfl
  · have hcleared := State.channelCleared (k := k) hdown (by simp [hu]) (by simp [hu]) (by simp [hu]) .channelReset
    rwa [hu] at hcleared

/-- Settles O46: the order by its frames, and the loss of the link by what is left of each port. -/
theorem channelResetOutcome : Obligations.ChannelResetOutcome := by
  intro s k c plans _ done notices cleared
  have hdone : done = c.resetDone k := rfl
  have hcleared (t : State) : cleared t = ChannelCleared k s t := rfl
  have hnotices : notices = c.resetNotices k .channelReset := rfl
  simp only [hcleared, hnotices]
  refine ⟨fun tag p hadm => ⟨_, exec_channelReset hadm tag, s.reset_sends k tag, ?_⟩,
    fun hup => ⟨_, exec_lineLoss_press hup, s.linkLost_outcome k⟩⟩
  exact State.channelCleared ⟨by simp, by simp, by simp, by simp, by simp⟩ (by simp) (by simp) (by simp) .channelReset

end Sys2Proof.Machine
end

section
/-! PROOFS. A row of a band: the words it reads, each once for its cell, and the frames it leaves in (R123, R124, R162). -/

set_option Elab.async false

namespace Sys2Proof.Machine

variable {s t u : State} {b : Band} {k : Fin 4}

/-! ### The bits of the store -/

/-- The bits held in the store and the wrong ones among them are the same. -/
def BitsSame (s t : State) : Prop := t.sc.store = s.sc.store ∧ t.sc.errors = s.sc.errors

theorem BitsSame.refl (s : State) : BitsSame s s := ⟨rfl, rfl⟩

theorem BitsSame.trans (h : BitsSame s t) (h2 : BitsSame t u) : BitsSame s u :=
  ⟨h2.1.trans h.1, h2.2.trans h.2⟩

theorem BitsSame.of_sc (h : t.sc = s.sc) : BitsSame s t := ⟨by rw [h], by rw [h]⟩

theorem BitsSame.touches {blocks : List Block} (h : Touches blocks s t) (hb : .sc ∉ blocks := by decide) : BitsSame s t :=
  .of_sc (h.sc hb)

theorem BitsSame.foldl {α : Type} {f : State → α → State} (h : ∀ s a, BitsSame s (f s a)) (l : List α) (s : State) :
    BitsSame s (l.foldl f s) :=
  List.foldlRecOn (motive := BitsSame s) _ _ (.refl s) fun v hv a _ => hv.trans (h v a)

theorem BitsSame.wordFault (h : BitsSame s t) (w : Nat) : t.wordFault w = s.wordFault w := by
  rw [State.wordFault, h.2, State.wordFault]

theorem BitsSame.wordData (h : BitsSame s t) (w : Nat) : t.wordData w = s.wordData w := by
  rw [State.wordData, h.wordFault, h.1, State.wordData]

/-! A fault takes clusters and entries; the bits stay (R180 to R186). -/

theorem State.bitsSame_freeCluster (s : State) (c : Nat) : BitsSame s (s.freeCluster c) := by
  unfold State.freeCluster
  split_ifs
  · exact .refl s
  · exact ⟨rfl, rfl⟩
  · exact ⟨rfl, rfl⟩

theorem State.bitsSame_freeChain (s : State) (first : Nat) : BitsSame s (s.freeChain first) :=
  .foldl (fun s c => s.bitsSame_freeCluster c) _ s

theorem State.bitsSame_markCluster (s : State) (c : Nat) : BitsSame s (s.markCluster c) := by
  unfold State.markCluster
  split
  · exact ⟨rfl, rfl⟩
  · exact ⟨rfl, rfl⟩
  · exact .refl s
  · exact .refl s

theorem State.bitsSame_failUpload (s : State) (k : Fin 4) (r : UploadRecord) (o : UploadOutcome) :
    BitsSame s (s.failUpload k r o) := by
  refine BitsSame.trans (t := s.cleanUp k r) ?_ (.touches (State.touches_notice _ _ _ _))
  have hclosed (v : State) : BitsSame v (((v.unreserve r.reserved).disclaim r.handle).closeSlot k) :=
    (BitsSame.trans (t := v.unreserve r.reserved) ⟨rfl, rfl⟩ (.touches (State.touches_disclaim _ _))).trans
      (.touches (State.touches_closeSlot _ _))
  unfold State.cleanUp
  split
  · exact (s.bitsSame_freeChain _).trans (hclosed _)
  · exact hclosed s

theorem State.bitsSame_coverReservations (s : State) (fuel : Nat) : BitsSame s (s.coverReservations fuel) := by
  induction fuel generalizing s with
  | zero => exact .refl s
  | succ n ih =>
    unfold State.coverReservations
    split
    · split
      · exact (s.bitsSame_failUpload _ _ _).trans (ih _)
      · exact .refl s
    · exact .refl s

theorem State.bitsSame_currentFault (s : State) (h c : Nat) : BitsSame s (s.currentFault h c) := by
  unfold State.currentFault
  split
  · exact .refl s
  · extract_lets marked e damaged flagged payload
    have hdamaged : BitsSame marked damaged := by
      simp only [damaged]
      split
      · exact .of_sc rfl
      · exact .refl marked
    exact (((s.bitsSame_markCluster c).trans hdamaged).trans (.touches (State.touches_flagPages _ h))).trans
      (.touches ((State.touches_notice _ _ _ _).trans (State.touches_notice _ _ _ _)))

theorem State.bitsSame_pendingFault (s : State) (h c : Nat) : BitsSame s (s.pendingFault h c) := by
  unfold State.pendingFault
  extract_lets marked e
  have hmarked : BitsSame s marked := s.bitsSame_markCluster c
  split
  · exact hmarked
  · exact (hmarked.trans ((BitsSame.of_sc rfl).trans (State.bitsSame_freeChain (marked.setEntry h _) _))).trans
      (.touches (State.touches_notice _ _ _ _))

theorem State.bitsSame_uploadFault (s : State) (h c : Nat) : BitsSame s (s.uploadFault h c) := by
  unfold State.uploadFault
  extract_lets marked
  have hmarked : BitsSame s marked := s.bitsSame_markCluster c
  split
  · exact hmarked.trans (State.bitsSame_failUpload _ _ _ _)
  · exact hmarked

theorem State.bitsSame_takeFault (s : State) (kind : FaultKind) (c offset : Nat) (syndrome : BitVec 8)
    (channel : Option (Fin 4)) : BitsSame s (s.takeFault kind c offset syndrome channel) := by
  unfold State.takeFault
  simp only
  refine BitsSame.trans ?_ (.touches (State.touches_offerLog _ _))
  split
  · exact s.bitsSame_currentFault _ _
  · exact s.bitsSame_pendingFault _ _
  · exact s.bitsSame_uploadFault _ _
  · split
    · exact BitsSame.trans (t := s.retireFree c) ⟨rfl, rfl⟩ (State.bitsSame_coverReservations _ _)
    · exact .refl s

theorem State.bitsSame_renderRead (s : State) (k : Fin 4) (w : Nat) : BitsSame s (s.renderRead k w).1 := by
  unfold State.renderRead
  extract_lets held cluster
  split
  · exact .refl s
  · exact .touches ((s.touches_sel _).trans (State.touches_offerRescrub _ _))
  · exact s.bitsSame_takeFault _ _ _ _ _

theorem State.bitsSame_readForCell (s : State) (cell w : Nat) : BitsSame s (s.readForCell cell w) := by
  unfold State.readForCell
  split
  · exact .refl s
  · split
    · exact .refl s
    · exact (s.bitsSame_renderRead _ _).trans (.of_sc rfl)

/-! ### One read (R123) -/

/-- The band has read a word for a cell. -/
def Band.HasRead (b : Band) (r : Nat × Nat) : Prop := ∃ x ∈ b.reads, x.cell = r.1 ∧ x.word = r.2

/-- The band with more reads made. -/
def Band.withReads (b : Band) (reads : List ReadWord) : Band := { b with reads := b.reads ++ reads }

/-- The read of a word for a cell, as a band keeps it. -/
def State.readWord (s : State) (r : Nat × Nat) : ReadWord := { cell := r.1, word := r.2, data := s.wordData r.2 }

theorem BitsSame.readWord (h : BitsSame s t) : t.readWord = s.readWord :=
  funext fun r => by rw [State.readWord, h.wordData, State.readWord]

theorem Band.read?_eq_none {r : Nat × Nat} : b.read? r.1 r.2 = none ↔ ¬ b.HasRead r := by
  simp [Band.read?, Band.HasRead]

theorem State.renderRead_data (s : State) (k : Fin 4) (w : Nat) : (s.renderRead k w).2 = s.wordData w := by
  unfold State.renderRead State.wordData
  cases s.wordFault w with
  | none => rfl
  | some f => cases f <;> rfl

theorem State.readForCell_held (hce : s.ce = some b) {r : Nat × Nat} (hr : b.HasRead r) : s.readForCell r.1 r.2 = s := by
  cases hread : b.read? r.1 r.2 with
  | none => exact absurd hr (Band.read?_eq_none.mp hread)
  | some x => simp only [State.readForCell, hce, hread]

theorem State.readForCell_new (hce : s.ce = some b) {r : Nat × Nat} (hr : ¬ b.HasRead r) :
    s.readForCell r.1 r.2 = { (s.renderRead b.channel r.2).1 with ce := some (b.withReads [s.readWord r]) } := by
  simp only [State.readForCell, hce, Band.read?_eq_none.mpr hr, State.renderRead_data]
  rfl

theorem Band.hasRead_withReads {a r : Nat × Nat} : (b.withReads [s.readWord a]).HasRead r ↔ b.HasRead r ∨ a = r := by
  simp [Band.HasRead, Band.withReads, State.readWord, or_and_right, exists_or, Prod.ext_iff]

/-! ### The reads of a row -/

/-- The reads of a row, one after the other. -/
def State.readAll (s : State) (l : List (Nat × Nat)) : State := l.foldl (fun s r => s.readForCell r.1 r.2) s

theorem State.bitsSame_readAll (s : State) (l : List (Nat × Nat)) : BitsSame s (s.readAll l) :=
  BitsSame.foldl (fun v (r : Nat × Nat) => v.bitsSame_readForCell r.1 r.2) l s

/-- Each word is read at its first mention alone: the reads that are made, in their order. -/
theorem State.readAll_order (l : List (Nat × Nat)) (hce : s.ce = some b) :
    ∃ order : List (Nat × Nat), order.Nodup ∧ (∀ r, r ∈ order ↔ r ∈ l ∧ ¬ b.HasRead r)
      ∧ s.readAll l = s.readAll order ∧ (s.readAll order).ce = some (b.withReads (order.map s.readWord)) := by
  induction l generalizing s b with
  | nil => exact ⟨[], by simp, by simp, rfl, by simpa [State.readAll, Band.withReads] using hce⟩
  | cons a l ih =>
    by_cases ha : b.HasRead a
    · obtain ⟨order, hnodup, hmem, hreads, hafter⟩ := ih hce
      refine ⟨order, hnodup, fun r => ?_, ?_, hafter⟩
      · rw [hmem, List.mem_cons]
        exact ⟨fun h => ⟨.inr h.1, h.2⟩, fun h => ⟨h.1.resolve_left fun e => h.2 (e ▸ ha), h.2⟩⟩
      · rw [← hreads, State.readAll, List.foldl_cons, State.readForCell_held hce ha]
        rfl
    · have hread := State.readForCell_new hce ha
      have hbits := s.bitsSame_readForCell a.1 a.2
      obtain ⟨order, hnodup, hmem, hreads, hafter⟩ := ih (congrArg State.ce hread)
      have hnew : a ∉ order := fun h => ((hmem a).mp h).2 (Band.hasRead_withReads.mpr (.inr rfl))
      refine ⟨a :: order, List.nodup_cons.mpr ⟨hnew, hnodup⟩, fun r => ?_, hreads, ?_⟩
      · rw [List.mem_cons, hmem, List.mem_cons, Band.hasRead_withReads]
        by_cases hr : a = r
        · simp [← hr, ha]
        · simp [hr, Ne.symm hr]
      · rw [hbits.readWord] at hafter
        rw [State.readAll, List.foldl_cons]
        exact hafter.trans (by simp [Band.withReads])

/-- The placed cells with what they draw from, by number. -/
theorem Band.mem_cells {n : Nat} {c : Cell} {draw : Option CellDraw} :
    (n, c, draw) ∈ b.cells ↔ b.plan.cells[n]? = some c ∧ b.draws[n]? = some draw := by
  simp [Band.cells, List.mem_zipIdx_iff_getElem?, List.getElem?_zip_eq_some]

/-- A word is among those of a row when a placed cell draws a pixel of the row from it. -/
theorem mem_rowReads {map : Table ClusterEntry} {row n w : Nat} : (n, w) ∈ rowReads map b row ↔
    ∃ c d, b.plan.cells[n]? = some c ∧ b.draws[n]? = some (some d) ∧ c.y ≤ row ∧ row < c.y + b.plan.grid.ch
      ∧ ∃ x q, x < b.plan.grid.cw ∧ sampleAt d x (row - c.y) = some q
        ∧ ∃ o ∈ sampleOffsets d.image.width q, wordOfOffset map d.image.first o = some w := by
  have hoffsets (d : CellDraw) (y o : Nat) : o ∈ rowOffsets d b.plan.grid.cw y ↔
      ∃ x q, x < b.plan.grid.cw ∧ sampleAt d x y = some q ∧ o ∈ sampleOffsets d.image.width q := by
    simp only [rowOffsets, List.mem_flatMap, List.mem_range]
    refine exists_congr fun x => ?_
    cases sampleAt d x y <;> simp
  simp only [rowReads, List.mem_flatMap]
  constructor
  · rintro ⟨⟨m, c, draw⟩, hcell, hw⟩
    obtain ⟨hc, hd⟩ := Band.mem_cells.mp hcell
    by_cases hrow : c.y ≤ row ∧ row < c.y + b.plan.grid.ch
    · cases draw with
      | none => simp [portraitRow, hrow] at hw
      | some d =>
        simp only [portraitRow, if_pos hrow, List.mem_filterMap, hoffsets, Option.map_eq_some_iff] at hw
        obtain ⟨o, ⟨x, q, hx, hq, ho⟩, w', hw', he⟩ := hw
        obtain ⟨rfl, rfl⟩ := Prod.mk.inj he
        exact ⟨c, d, hc, hd, hrow.1, hrow.2, x, q, hx, hq, o, ho, hw'⟩
    · simp [portraitRow, hrow] at hw
  · rintro ⟨c, d, hc, hd, hfrom, hto, x, q, hx, hq, o, ho, hw⟩
    refine ⟨(n, c, some d), Band.mem_cells.mpr ⟨hc, hd⟩, ?_⟩
    simp only [portraitRow, if_pos (And.intro hfrom hto), List.mem_filterMap, hoffsets, Option.map_eq_some_iff]
    exact ⟨o, ⟨x, q, hx, hq, ho⟩, w, hw, rfl⟩

theorem rowNeeds_iff {row cell w : Nat} :
    RowNeeds s b row cell w ↔ (cell, w) ∈ rowReads s.sc.map b row ∧ ¬ b.HasRead (cell, w) := by
  rw [mem_rowReads, and_comm]
  simp only [RowNeeds, Band.HasRead, not_exists, not_and]

/-! ### Corrections (R176, R179) -/

/-- The scrubber after corrected reads: each is counted and offers its cluster to the rescrub list. -/
def Scrubber.afterCorrected (e : Scrubber) (corrected : List ReadWord) : Scrubber :=
  { e with
    corrections := if corrected = [] then e.corrections else min 65535 (e.corrections + corrected.length)
    rescrub := corrected.foldl (fun l r =>
      if r.word / 8192 ∈ l ∨ 8 ≤ l.length then l else l ++ [r.word / 8192]) e.rescrub }

theorem Scrubber.afterCorrected_cons (e : Scrubber) (r : ReadWord) (l : List ReadWord) :
    e.afterCorrected (r :: l) = (e.afterCorrected [r]).afterCorrected l := by
  cases l with
  | nil => rfl
  | cons x l =>
    simp only [Scrubber.afterCorrected, List.foldl_cons, List.length_cons, reduceCtorEq, if_false, List.foldl_nil,
      List.length_nil, Scrubber.mk.injEq, true_and, and_true]
    omega

theorem State.offerRescrub_eq (s : State) (c : Nat) : s.offerRescrub c = { s with
    sel := { s.sel with
      rescrub := if c ∈ s.sel.rescrub ∨ 8 ≤ s.sel.rescrub.length then s.sel.rescrub else s.sel.rescrub ++ [c] } } := by
  unfold State.offerRescrub
  simp only [Config.rescrubMax]
  split_ifs
  · rfl
  · rfl

/-- A read that needs no correction or can be corrected. -/
theorem State.renderRead_usable (s : State) (k : Fin 4) (r : Nat × Nat) (hr : uncorrectable (s.wordFault r.2) = false) :
    (s.renderRead k r.2).1 = { s with sel := s.sel.afterCorrected (s.corrected [s.readWord r]) } := by
  cases hf : s.wordFault r.2 with
  | none => simp [State.renderRead, hf, State.corrected, State.readWord, Scrubber.afterCorrected]
  | some f =>
    cases f with
    | correctable bit =>
      have hcorrected : s.corrected [s.readWord r] = [s.readWord r] := by simp [State.corrected, State.readWord, hf]
      simp only [hcorrected, State.renderRead, hf, State.offerRescrub_eq]
      rfl
    | uncorrectable v => simp [hf, uncorrectable] at hr

/-- A row whose words are all usable: its reads change the band in production and the scrubber alone. -/
theorem State.readAll_usable {order : List (Nat × Nat)} (hce : s.ce = some b) (hnodup : order.Nodup)
    (hnew : ∀ r ∈ order, ¬ b.HasRead r) (husable : ∀ r ∈ order, uncorrectable (s.wordFault r.2) = false) :
    s.readAll order = { s with
      ce := some (b.withReads (order.map s.readWord))
      sel := s.sel.afterCorrected (s.corrected (order.map s.readWord)) } := by
  induction order generalizing s b with
  | nil =>
    have hb : b.withReads ([].map s.readWord) = b := by simp [Band.withReads]
    rw [hb, ← hce]
    rfl
  | cons a order ih =>
    obtain ⟨ha, hnodup⟩ := List.nodup_cons.mp hnodup
    obtain ⟨hnewa, hnew⟩ := List.forall_mem_cons.mp hnew
    obtain ⟨husablea, husable⟩ := List.forall_mem_cons.mp husable
    have hread := State.readForCell_new hce hnewa
    rw [s.renderRead_usable b.channel a husablea] at hread
    obtain ⟨v, hv⟩ : ∃ v, v = s.readForCell a.1 a.2 := ⟨_, rfl⟩
    have hbits : BitsSame s v := hv ▸ s.bitsSame_readForCell a.1 a.2
    have hnew' (r : Nat × Nat) (hr : r ∈ order) : ¬ (b.withReads [s.readWord a]).HasRead r := fun h =>
      (Band.hasRead_withReads.mp h).elim (hnew r hr) fun e => ha (e ▸ hr)
    have hrest := ih (hv ▸ congrArg State.ce hread) hnodup hnew' fun r hr => by rw [hbits.wordFault]; exact husable r hr
    have hcorrected (l : List ReadWord) : v.corrected l = s.corrected l := by
      simp only [State.corrected, hbits.wordFault]
    have hsel : s.sel.afterCorrected (s.corrected (s.readWord a :: order.map s.readWord)) =
        (s.sel.afterCorrected (s.corrected [s.readWord a])).afterCorrected (s.corrected (order.map s.readWord)) := by
      by_cases hc : (s.wordFault (s.readWord a).word).isSome = true
      · simp only [State.corrected, List.filter_cons, hc, if_true, List.filter_nil]
        exact Scrubber.afterCorrected_cons _ _ _
      · simp only [State.corrected, List.filter_cons, hc, List.filter_nil]
        rfl
    rw [State.readAll, List.foldl_cons, ← hv]
    refine hrest.trans ?_
    rw [hbits.readWord, hcorrected, List.map_cons, hsel, hv, hread]
    simp [Band.withReads]

/-! ### The frames of a row (R162, R212) -/

theorem State.emittedRow_eq (s : State) (b : Band) (row : Nat) : s.emittedRow b row = s.emittedPixels b row := by
  unfold State.emittedRow State.emittedPixels
  cases b.mirror with
  | false => rfl
  | true =>
    refine List.ext_getElem (by simp) fun n hn _ => ?_
    simp

theorem State.length_emittedPixels (s : State) (b : Band) (row : Nat) :
    (s.emittedPixels b row).length = b.plan.snap.layout.w := by
  simp [State.emittedPixels]

/-- The content of the Row Data frame of a part of a row. -/
def rowPart (b : Band) (row column : Nat) (part : List Rgb) : Bytes :=
  bytes2 b.plan.snap.seq ++ bytes2 b.index ++ bytes2 row ++ bytes2 column ++ bytes2 part.length ++ part.flatMap bytesRgb

/-- The frames of pixels: every 1,360 of them are one part, and the rest is the last. -/
theorem rowFrames_eq (b : Band) (row column fuel : Nat) (pixels : List Rgb) (hfuel : pixels.length ≤ fuel) :
    rowFrames b row column pixels fuel = (List.range ((pixels.length + 1359) / 1360)).map fun n =>
      rowPart b row (column + 1360 * n) ((pixels.drop (1360 * n)).take 1360) := by
  induction fuel generalizing column pixels with
  | zero =>
    obtain rfl := List.length_eq_zero_iff.mp (Nat.le_zero.mp hfuel)
    rfl
  | succ fuel ih =>
    cases pixels with
    | nil => rfl
    | cons p rest =>
      obtain ⟨pixels, hp⟩ : ∃ pixels, pixels = p :: rest := ⟨_, rfl⟩
      have hlength : 0 < pixels.length := by simp [hp]
      rw [← hp] at hfuel ⊢
      have hhead : rowFrames b row column pixels (fuel + 1) = rowPart b row column (pixels.take 1360) ::
          rowFrames b row (column + (pixels.take 1360).length) (pixels.drop 1360) fuel := by rw [hp]; rfl
      have hparts : (pixels.length + 1359) / 1360 = ((pixels.drop 1360).length + 1359) / 1360 + 1 := by
        rw [List.length_drop]
        omega
      rw [hhead, hparts, List.range_succ_eq_map, List.map_cons, List.map_map, ih _ _ (by rw [List.length_drop]; omega)]
      refine congrArg₂ List.cons rfl (List.map_congr_left fun n hn => ?_)
      have hfull : (pixels.take 1360).length = 1360 := by
        have hn := List.mem_range.mp hn
        rw [List.length_drop] at hn
        rw [List.length_take]
        omega
      rw [hfull, List.drop_drop, Function.comp_apply, Nat.mul_succ, Nat.add_assoc, Nat.add_comm 1360]

theorem rowFrames_notices (b : Band) (row : Nat) (pixels : List Rgb) (hw : pixels.length = b.plan.snap.layout.w) :
    (rowFrames b row 0 pixels pixels.length).map (fun payload => noticeFrame .rowData payload) = rowNotices b row pixels := by
  rw [rowFrames_eq b row 0 _ pixels (Nat.le_refl _), List.map_map, hw, rowNotices]
  refine List.map_congr_left fun n _ => ?_
  rw [Function.comp_apply, Nat.zero_add]
  rfl

/-! ### The row -/

/-- A band of which one row fewer is left. -/
def Band.rowSent (b : Band) : Band := { b with rowsLeft := b.rowsLeft - 1 }

/-! The pixels of a row are fixed by the map of the store and the glyph records. -/

theorem State.advance_congr (hgs : t.gs = s.gs) (code : Nat) : t.advance code = s.advance code := by
  simp only [State.advance, State.glyph_congr _ _ code hgs]

theorem State.inkInRun_congr (hgs : t.gs = s.gs) (scale v x : Nat) (codes : List Nat) :
    t.inkInRun scale v x codes = s.inkInRun scale v x codes := by
  induction codes generalizing x with
  | nil => rfl
  | cons code rest ih => simp only [State.inkInRun, State.advance_congr hgs, State.glyph_congr _ _ code hgs, ih]

theorem State.pagePixel_congr (hsc : t.sc = s.sc) (hgs : t.gs = s.gs) (b : Band) (x y : Nat) :
    t.pagePixel b x y = s.pagePixel b x y := by
  have hline (scale left top x y : Nat) (codes : List Nat) :
      t.inkInLine scale left top x y codes = s.inkInLine scale left top x y codes := by
    simp only [State.inkInLine, State.inkInRun_congr hgs]
  have htitle (p : Plan) (x y : Nat) : t.titleInk p x y = s.titleInk p x y := by
    unfold State.titleInk
    cases p.title.line with
    | none => rfl
    | some run => exact hline _ _ _ _ _ _
  have hcaption (p : Plan) (c : Cell) (x y : Nat) : t.captionInk p c x y = s.captionInk p c x y := by
    simp only [State.captionInk, hline]
  unfold State.pagePixel
  simp only [htitle, hcaption, hsc]

theorem State.emittedPixels_congr (hsc : t.sc = s.sc) (hgs : t.gs = s.gs) (b : Band) (row : Nat) :
    t.emittedPixels b row = s.emittedPixels b row := by
  simp only [State.emittedPixels, State.pagePixel_congr hsc hgs]

/-- A row that is drawn and handed on when its words have been read. -/
def State.sendRow (s : State) (b : Band) (row : Nat) : State :=
  (rowFrames b row 0 (s.emittedPixels b row) (s.emittedPixels b row).length).foldl
    (fun s payload => s.notice (.p b.channel) .rowData payload) { s with ce := some b.rowSent }

theorem State.produceRow_eq {now : Band}
    (hnow : (s.readAll (rowReads s.sc.map b b.nextRow)).ce = some now) :
    s.produceRow b = (s.readAll (rowReads s.sc.map b b.nextRow)).sendRow now b.nextRow := by
  rw [State.sendRow, ← State.emittedRow_eq]
  unfold State.produceRow
  unfold State.readAll at hnow ⊢
  simp only [hnow]
  rfl

theorem State.touches_sendRow (s : State) (b : Band) (row : Nat) : Touches [.ce] s (s.sendRow b row) :=
  (s.touches_ce _).trans (Touches.foldl (fun s payload => (s.touches_notice _ _ payload).mono) _ _)

theorem State.sendRow_outcome (s : State) (b : Band) (row : Nat) :
    (s.sendRow b row).ce = some b.rowSent ∧ OnlyChanges [.liu, .ce] s (s.sendRow b row)
      ∧ PortsGain none (onPort (.p b.channel) (rowNotices b row (s.emittedPixels b row))) s (s.sendRow b row) := by
  have hframes : Touches [] { s with ce := some b.rowSent } (s.sendRow b row) :=
    Touches.foldl (fun s payload => s.touches_notice _ _ payload) _ _
  have hports := PortsGain.foldl_notice (.p b.channel) .rowData id
    (rowFrames b row 0 (s.emittedPixels b row) (s.emittedPixels b row).length) { s with ce := some b.rowSent }
  refine ⟨hframes.ce, (s.touches_sendRow b row).2, ?_⟩
  rw [← rowFrames_notices b row _ (s.length_emittedPixels b row)]
  exact ((PortsGain.of_liu rfl).trans hports).sent fun q => rfl

/-- The reads of a row change the engine alone, and where all words are usable the scrubber. -/
theorem State.onlyChanges_usable (s : State) (band : Option Band) (e : Scrubber) :
    OnlyChanges [.ce, .sel] s { s with ce := band, sel := e } :=
  ⟨rfl, rfl, rfl, fun b hb => by cases b <;> simp_all [Block.same]⟩

/-- A row with no word uncorrectable (R123, R162, R176, R179). -/
theorem State.rowSent_of_usable {order : List (Nat × Nat)} (hce : s.ce = some b) (hnodup : order.Nodup)
    (hneeds : ∀ cell w, (cell, w) ∈ order ↔ RowNeeds s b b.nextRow cell w) (hnew : ∀ r ∈ order, ¬ b.HasRead r)
    (husable : ∀ r ∈ order, uncorrectable (s.wordFault r.2) = false) :
    RowSent b (order.map s.readWord) s
      ((s.readAll order).sendRow (b.withReads (order.map s.readWord)) b.nextRow) := by
  obtain ⟨now, hnow⟩ : ∃ now, now = b.withReads (order.map s.readWord) := ⟨_, rfl⟩
  have hall := State.readAll_usable hce hnodup hnew husable
  rw [← hnow] at hall ⊢
  obtain ⟨hlast, honly, hports⟩ := (s.readAll order).sendRow_outcome now b.nextRow
  have hread : OnlyChanges [.ce, .sel] s (s.readAll order) := hall ▸ s.onlyChanges_usable _ _
  have hliu : (s.readAll order).liu = s.liu := by rw [hall]
  have hchanges := hread.trans (ds := [.liu, .ce, .sel]) honly (by simp) (by simp)
  obtain ⟨-, -, -, hsame⟩ := honly
  have hsel := hsame .sel (by decide)
  rw [State.emittedPixels_congr (t := s.readAll order) (s := s) (by rw [hall]) (by rw [hall])] at hports
  refine ⟨fun cell w => Iff.trans ?_ (hneeds cell w), ?_, ?_, hchanges, ?_, ?_, ?_⟩
  · simp [State.readWord]
  · rw [List.map_map]
    exact (List.map_id order).symm ▸ hnodup
  · simp only [List.forall_mem_map]
    exact fun r _ => rfl
  · rw [hlast, hnow]
    rfl
  · rw [hsel, hall]
    rfl
  · rw [hnow] at hports ⊢
    exact ((PortsGain.of_liu hliu).trans hports).sent fun q => rfl

/-- A row of a band in production: its words are read one by one, and it leaves in its frames (R123, R162). -/
theorem State.produceRow_outcome (hce : s.ce = some b) :
    (s.produceRow b).sc.store = s.sc.store ∧ RowProduced b s (s.produceRow b) := by
  obtain ⟨order, hnodup, hmem, hreads, hnow⟩ := State.readAll_order (rowReads s.sc.map b b.nextRow) hce
  have hneeds (cell w : Nat) : (cell, w) ∈ order ↔ RowNeeds s b b.nextRow cell w := by rw [hmem, rowNeeds_iff]
  have hnew (r : Nat × Nat) (hr : r ∈ order) : ¬ b.HasRead r := ((hmem r).mp hr).2
  have hrow : s.produceRow b = (s.readAll order).sendRow (b.withReads (order.map s.readWord)) b.nextRow :=
    hreads ▸ State.produceRow_eq (hreads ▸ hnow)
  obtain ⟨hlast, honly, hports⟩ := (s.readAll order).sendRow_outcome (b.withReads (order.map s.readWord)) b.nextRow
  obtain ⟨hstore, -⟩ := (s.bitsSame_readAll order).trans (.touches ((s.readAll order).touches_sendRow _ b.nextRow))
  rw [hrow]
  exact ⟨hstore, order, hnodup, hneeds, hnow, hlast, honly, hports,
    fun husable => State.rowSent_of_usable hce hnodup hneeds hnew husable⟩

/-- A row handed on leaves the band with one row fewer, its channel, plan and place as they were. -/
theorem State.ce_produceRow (hce : s.ce = some b) :
    ∃ now : Band, (s.produceRow b).ce = some now ∧ now.channel = b.channel ∧ now.rowsLeft = b.rowsLeft - 1 := by
  obtain ⟨-, order, -, -, -, hlast, -⟩ := s.produceRow_outcome hce
  exact ⟨_, hlast, rfl, rfl⟩

end Sys2Proof.Machine
end

section
/-! PROOFS. The end of a band and what follows it on its channel (O49). -/

set_option Elab.async false

namespace Sys2Proof.Machine

variable {s t u : State} {b : Band} {k : Fin 4} {c c' c'' : Channel} {j : Job} {rest : List Job} {p : Plan} {r : Rendering}

/-! ### A channel that waits for nothing takes more than one record (R167) -/

/-- From a record that waits for nothing the timer is settled as in one change: `now` is the record `c'` with its timer
settled. -/
theorem settleTimer_from_no_wait {now : Channel} (hc : c.pressWait = none) (hwindow : c'.stallWindow = c''.stallWindow)
    (hnow : now.pressWait = c'.pressWait) (htimer : now.stallTimer = settleTimer c c') :
    settleTimer now c'' = settleTimer c c'' := by
  cases hw : c''.pressWait with
  | none => rw [settleTimer_of_no_wait hw, settleTimer_of_no_wait hw]
  | some w =>
    rw [settleTimer_of_wait hw, settleTimer_of_wait hw, hnow, htimer, hc, if_neg (show ¬ none = some w from nofun)]
    by_cases hw' : c'.pressWait = some w
    · rw [if_pos hw', settleTimer_of_wait hw', hc, if_neg (show ¬ none = some w from nofun), hwindow]
      split_ifs <;> rfl
    · rw [if_neg hw']

theorem ChannelTakes.trans_of_no_wait (h : ChannelTakes k c' s t) (h2 : ChannelTakes k c'' t u) (hc : (s.channel k).pressWait = none)
    (hwindow : c'.stallWindow = c''.stallWindow) : ChannelTakes k c'' s u := by
  have htimer : (t.channel k).stallTimer = settleTimer (s.channel k) c' := by rw [h]
  have hnow : (t.channel k).pressWait = c'.pressWait := by rw [h]; rfl
  rw [ChannelTakes, h2, settleTimer_from_no_wait hc hwindow hnow htimer]

/-- A PAUSED channel takes a release at once if its trigger counts as set (R157). -/
theorem ChannelTakes.takeRelease (h : ChannelTakes k c' s u) (hc : (s.channel k).pressWait = none)
    (hpaused : c'.state = .paused) :
    ChannelTakes k (if c'.triggered = true then c'.afterRelease u.damagedEntry else c') s (u.takeRelease k) := by
  have hneeded : (u.channel k).releaseNeeded = true := by
    rw [h]
    exact Channel.releaseNeeded_iff.mpr (.inr hpaused)
  have htriggered : (u.channel k).triggered = c'.triggered := by rw [h]; rfl
  simp only [State.takeRelease_eq, htriggered, hneeded, and_true]
  split_ifs
  · have hrelease : ChannelTakes k (c'.afterRelease u.damagedEntry) u
        (u.putChannel k ((u.channel k).afterRelease u.damagedEntry)) := by
      rw [ChannelTakes, u.channelTakes_putChannel, h, Channel.afterRelease_stallTimer]
      rfl
    exact h.trans_of_no_wait hrelease hc (Channel.stallWindow_afterRelease _ _).symm
  · exact h

/-! ### The channel of a band that has been sent (R163) -/

/-- A channel whose first job is RENDERING with a band in flight. -/
structure Channel.Sending (c : Channel) (j : Job) (rest : List Job) (p : Plan) (r : Rendering) : Prop where
  enabled : c.enabled = true
  jobs : c.jobs = j :: rest
  stage : j.stage = .rendering p
  rendering : c.rendering = some r
  inFlight : r.inFlight = true

theorem Channel.Sending.plan (h : c.Sending j rest p r) : c.renderingPlan? = some p :=
  Channel.renderingPlan?_of_rendering h.jobs h.stage

/-- With a band in flight a channel waits for nothing (R167). -/
theorem Channel.Sending.pressWait (h : c.Sending j rest p r) : c.pressWait = none := by
  have hrunning : c.state = .running := by
    rw [Channel.state_rendering h.enabled h.plan h.rendering, if_pos (.inl h.inFlight)]
  refine Option.eq_none_iff_forall_ne_some.mpr fun w hw => ?_
  obtain ⟨-, r', hr', hflight, -⟩ := (Channel.pressWait_running_iff hrunning).mp hw
  obtain rfl := Option.some.inj (h.rendering.symm.trans hr')
  exact Bool.false_ne_true (hflight.symm.trans h.inFlight)

/-- With its first job RENDERING a channel is not ARMED. -/
theorem Channel.Sending.ne_armed (h : c.Sending j rest p r) (record : Option Rendering) (timer : Option Nat) :
    ({ c with rendering := record, stallTimer := timer } : Channel).state ≠ .armed := fun harmed => by
  obtain ⟨-, i, others, q, hi, hq⟩ := Channel.armed_iff.mp harmed
  obtain ⟨rfl, -⟩ := List.cons.inj (h.jobs.symm.trans hi)
  cases h.stage.symm.trans hq

/-- A channel without a rendering record waits for nothing but an ARMED page's trigger. -/
theorem Channel.pressWait_of_rendering_none {w : PressWait} (hnone : c.rendering = none) (hw : c.pressWait = some w) :
    ∃ seq, w = .armed seq := by
  rcases Channel.pressWait_iff.mp hw with ⟨q, -, -, -, rfl⟩ | ⟨q, hpaused, -⟩ | ⟨q, r, -, hr, -⟩
  · exact ⟨_, rfl⟩
  · obtain ⟨-, -, r, -, hr⟩ := Channel.rendering_of_state (.inl hpaused)
    cases hnone.symm.trans hr
  · cases hnone.symm.trans hr

/-- The rendering record with no band in flight. -/
def Rendering.landed (r : Rendering) : Rendering := { r with inFlight := false }

/-- The engine is free and the channel has no band in flight. -/
def State.bandLanded (s : State) (k : Fin 4) (r : Rendering) : State :=
  ({ s with ce := none } : State).putChannel k { s.channel k with rendering := some r.landed }

theorem State.bandLanded_takes (s : State) (k : Fin 4) (r : Rendering) :
    ChannelTakes k { s.channel k with rendering := some r.landed } s (s.bandLanded k r) :=
  State.channelTakes_putChannel { s with ce := none } k _

theorem State.touches_bandLanded (s : State) (k : Fin 4) (r : Rendering) : Touches [.pch, .ce] s (s.bandLanded k r) :=
  (s.touches_ce none).mono.trans (State.touches_putChannel _ k _).mono

theorem State.othersSame_bandLanded (s : State) (k : Fin 4) (r : Rendering) : OthersSame k s (s.bandLanded k r) :=
  OthersSame.trans (t := { s with ce := none }) (OthersSame.of_pch rfl) (State.othersSame_putChannel _ k _)

/-- What follows the end of a band's send, by what stands. -/
theorem State.afterBand_eq (h : (s.channel k).Sending j rest p r) :
    ({ s with ce := none } : State).afterBand k =
      if r.abortPending then (s.bandLanded k r).endRendering k .aborted
      else if r.started = r.bandCount then
        if p.snap.copies ≤ r.copy then (s.bandLanded k r).endRendering k (if p.defective then .defect else .done)
        else
          ((s.bandLanded k r).putChannel k { (s.bandLanded k r).channel k with
            rendering := some { r with inFlight := false, copy := r.copy + 1, released := 0, started := 0,
                                       boundary := 0 } }).takeRelease k
      else if r.started = r.released then (s.bandLanded k r).takeRelease k
      else s.bandLanded k r := by
  have hp : (({ s with ce := none } : State).channel k).renderingPlan? = some p := h.plan
  have hr : (({ s with ce := none } : State).channel k).rendering = some r := h.rendering
  simp only [State.afterBand, hp, hr]
  rfl

/-! ### Pages that end with the band (R164, R165) -/

/-- The Page Done of a page that ends with its band (log 10). -/
def bandPageDone (k : Fin 4) (p : Plan) (r : Rendering) (result : PageResult) : PageDone :=
  pageDoneOf k p result (r.copy - 1 + (if r.started = r.bandCount then 1 else 0)) r.started false

theorem State.bandLanded_ends (h : (s.channel k).Sending j rest p r) (result : PageResult) :
    (s.bandLanded k r).endRendering k result = (s.bandLanded k r).endPage k p (bandPageDone k p r result) := by
  have hk := s.bandLanded_takes k r
  have hp : ((s.bandLanded k r).channel k).renderingPlan? = some p := by rw [hk]; exact h.plan
  have hr : ((s.bandLanded k r).channel k).rendering = some r.landed := by rw [hk]
  rw [State.endRendering_eq hp hr, Channel.pageDone_eq _ _ _ rfl]
  rfl

/-- A page that ends with its band: the Page Done goes first, and then what the return of its plan sends. -/
theorem State.bandLanded_endPage (h : (s.channel k).Sending j rest p r) (d : PageDone) :
    let t := (s.bandLanded k r).endPage k p d
    t.ce = none
      ∧ SendsAndReturns none (onPort (.p k) [noticeFrame .pageDone (bytesPageDone d)])
          [.liu, .ru, .pdir, .gs, .pch, .ce] [p.snap] s t
      ∧ PageEnded k p d d.chains rest s t := by
  have hlanded := s.touches_bandLanded k r
  have hk := s.bandLanded_takes k r
  have honly : OnlyChanges [.liu, .ru, .pdir, .gs, .pch, .ce] s (s.bandLanded k r) := hlanded.2.mono (by simp)
  have hports : PortsGain none (fun _ => []) s (s.bandLanded k r) := PortsGain.of_liu rfl
  -- a record without a page begins no wait but that of an ARMED channel
  have htimer (after : Channel) (hafter : after.rendering = none) :
      settleTimer ((s.bandLanded k r).channel k) after = settleTimer (s.channel k) after := by
    refine settleTimer_of_new_wait fun w hw => ⟨fun hlanded => ?_, fun hsending => ?_⟩
    · obtain ⟨seq, rfl⟩ := Channel.pressWait_of_rendering_none hafter hw
      have harmed := Channel.state_of_pressWait_armed hlanded
      rw [hk] at harmed
      exact h.ne_armed _ _ harmed
    · rw [h.pressWait] at hsending
      cases hsending
  have hend := State.endPage_outcome (d := d) (p := p) ((Alike.refl s).touches hlanded) hports honly
    (s.othersSame_bandLanded k r) (by simp) h.jobs ⟨_, _, hk⟩ htimer
  exact ⟨((s.bandLanded k r).touches_endPage k p d).ce, hend⟩

/-! ### Pages that go on (R163) -/

theorem State.onlyChanges_takeRelease (h : OnlyChanges [.pch, .ce] s u) : OnlyChanges [.pch, .ce] s (u.takeRelease k) :=
  h.trans ((u.touches_takeRelease k).only (u.takeRelease_liu k)) (by simp) (by simp)

theorem State.onlyChanges_bandLanded (s : State) (k : Fin 4) (r : Rendering) :
    OnlyChanges [.pch, .ce] s (s.bandLanded k r) :=
  (s.touches_bandLanded k r).only rfl

/-- The next copy's rendering record is taken after the band has landed, the stall timer settled once. -/
theorem State.bandLanded_then (h : (s.channel k).Sending j rest p r) (r' : Rendering) :
    ChannelTakes k { s.channel k with rendering := some r' } s
      ((s.bandLanded k r).putChannel k { (s.bandLanded k r).channel k with rendering := some r' }) := by
  have hk := s.bandLanded_takes k r
  have hnext := (s.bandLanded k r).channelTakes_putChannel k
    { (s.bandLanded k r).channel k with rendering := some r' }
  refine hk.trans_of_no_wait ?_ h.pressWait rfl
  rw [ChannelTakes, hnext, hk]
  rfl

/-- The channel has its next rendering record, `r'`, and takes the release it allows. -/
theorem State.goesOn_paused {r' : Rendering} (h : (s.channel k).Sending j rest p r)
    (hu : ChannelTakes k { s.channel k with rendering := some r' } s u) (hflight : r'.inFlight = false)
    (hsent : r'.started = r'.released) (honly : OnlyChanges [.pch, .ce] s u) (hothers : OthersSame k s u)
    (hce : u.ce = none) :
    let c' : Channel := { s.channel k with rendering := some r' }
    (u.takeRelease k).ce = none ∧ OnlyChanges [.pch, .ce] s (u.takeRelease k) ∧ OthersSame k s (u.takeRelease k)
      ∧ ChannelTakes k (if (s.channel k).triggered = true then c'.afterRelease s.damagedEntry else c') s
          (u.takeRelease k) := by
  intro c'
  have hpaused : c'.state = .paused := by
    rw [Channel.state_rendering (c := c') (p := p) (r := r') h.enabled h.plan rfl, if_neg]
    simp [hflight, hsent]
  have hpdir : u.pdir = s.pdir := by
    obtain ⟨-, -, -, hsame⟩ := honly
    exact hsame .pdir (by decide)
  have htakes := hu.takeRelease h.pressWait hpaused
  rw [State.damagedEntry_congr hpdir] at htakes
  exact ⟨(u.touches_takeRelease k).ce.trans hce, State.onlyChanges_takeRelease honly,
    hothers.trans (u.othersSame_takeRelease k), htakes⟩

/-! ### The end of the band -/

theorem State.endBandIfSent_sent (hce : s.ce = some b) (hrows : b.rowsLeft = 0) :
    s.endBandIfSent = ({ s with ce := none } : State).afterBand b.channel := by
  simp only [State.endBandIfSent, hce, hrows, if_true]

theorem execBandEnd_none (hce : s.ce = none) : execBandEnd s = .next s := by
  simp only [execBandEnd, hce]

theorem execBandEnd_early (hce : s.ce = some b) (hrows : 1 < b.rowsLeft) : execBandEnd s = .next s := by
  simp only [execBandEnd, hce, if_pos hrows]

/-- The part when the last row of its band has been handed on. -/
def State.lastRow (s : State) (b : Band) : State := if 0 < b.rowsLeft then s.produceRow b else s

theorem State.ce_lastRow (hce : s.ce = some b) (hrows : b.rowsLeft ≤ 1) :
    ∃ now : Band, (s.lastRow b).ce = some now ∧ now.channel = b.channel ∧ now.rowsLeft = 0 := by
  unfold State.lastRow
  split_ifs with h
  · obtain ⟨now, hnow, hchannel, hleft⟩ := State.ce_produceRow hce
    exact ⟨now, hnow, hchannel, by omega⟩
  · exact ⟨b, hce, rfl, by omega⟩

theorem execBandEnd_due (hce : s.ce = some b) (hrows : b.rowsLeft ≤ 1) :
    execBandEnd s = .next (({ s.lastRow b with ce := none } : State).afterBand b.channel) := by
  obtain ⟨now, hnow, hchannel, hleft⟩ := State.ce_lastRow hce hrows
  rw [← hchannel, ← State.endBandIfSent_sent hnow hleft]
  simp only [execBandEnd, hce, if_neg (Nat.not_lt.mpr hrows)]
  rfl

theorem Plan.defective_iff : p.defective = true ↔ ∃ cell ∈ p.cells, cell.damagedMidpage = true := by
  simp [Plan.defective]

/-- Settles O49: the row is handed on, and the channel goes on by what stands. -/
theorem bandEndOutcome : Obligations.BandEndOutcome := by
  intro s
  refine ⟨fun hce => execBandEnd_none hce, fun b hce => ⟨fun hrows => execBandEnd_early hce hrows, fun hrows => ?_⟩⟩
  refine ⟨s.lastRow b, fun h => if_neg (by omega), fun h => ?_, fun j rest p r => ?_⟩
  · rw [State.lastRow, if_pos (by omega)]
    exact s.produceRow_outcome hce
  obtain ⟨s1, hs1⟩ : ∃ s1, s1 = s.lastRow b := ⟨_, rfl⟩
  have hexec := execBandEnd_due hce hrows
  rw [← hs1] at hexec ⊢
  intro k c hon hjobs hj hr hflight ended goesOn
  have hsending : (s1.channel k).Sending j rest p r := ⟨hon, hjobs, hj, hr, hflight⟩
  rw [State.afterBand_eq hsending] at hexec
  refine ⟨fun ha => ?_, fun ha hlast hcopies => ?_, fun ha hlast hcopies => ?_, fun ha hlast hall => ?_,
    fun ha hlast hall => ?_⟩
  · rw [if_pos ha, State.bandLanded_ends hsending] at hexec
    exact ⟨_, hexec, State.bandLanded_endPage hsending (bandPageDone k p r .aborted)⟩
  · rw [if_neg (by simp [ha]), if_pos hlast, if_pos hcopies, State.bandLanded_ends hsending] at hexec
    have hresult : (if ∃ cell ∈ p.cells, cell.damagedMidpage = true then PageResult.defect else .done) =
        if p.defective then .defect else .done := by simp only [Plan.defective_iff]
    have hchains (result : PageResult) (hr : result = if p.defective then .defect else .done) :
        (bandPageDone k p r result).chains = true := by
      subst hr
      cases p.defective <;> rfl
    have hend := State.bandLanded_endPage hsending (bandPageDone k p r (if p.defective then .defect else .done))
    rw [hchains _ rfl] at hend
    rw [hresult]
    exact ⟨_, hexec, hend⟩
  · rw [if_neg (by simp [ha]), if_pos hlast, if_neg (Nat.not_le.mpr hcopies)] at hexec
    refine ⟨_, hexec, ?_⟩
    simp only [true_and]
    exact State.goesOn_paused hsending (State.bandLanded_then hsending _) rfl rfl
      ((s1.onlyChanges_bandLanded k r).trans ((State.touches_putChannel _ k _).only rfl) (by simp) (by simp))
      ((s1.othersSame_bandLanded k r).trans (State.othersSame_putChannel _ k _)) rfl
  · rw [if_neg (by simp [ha]), if_neg hlast, if_pos hall] at hexec
    refine ⟨_, hexec, ?_⟩
    simp only [true_and]
    exact State.goesOn_paused hsending (s1.bandLanded_takes k r) rfl hall (s1.onlyChanges_bandLanded k r)
      (s1.othersSame_bandLanded k r) rfl
  · rw [if_neg (by simp [ha]), if_neg hlast, if_neg hall] at hexec
    exact ⟨_, hexec, rfl, s1.onlyChanges_bandLanded k r, s1.othersSame_bandLanded k r, s1.bandLanded_takes k r⟩

end Sys2Proof.Machine
end
